-- ==== Sys2Proof/Word.lean ====
section
/-! DEFINITION. The byte of the 5318 and the text constants that its rules print. -/

namespace Sys2Proof

/-- One byte of the host line, of a terminal line, of the link, or of the copy code (R4). -/
abbrev Byte := BitVec 8

/-- The byte that holds the low eight bits of a number. -/
abbrev byte (n : Nat) : Byte := BitVec.ofNat 8 n

/-- The codes of a text that a rule prints between quotation marks. -/
def str (t : String) : List Byte := t.toList.map fun c => byte c.toNat

end Sys2Proof
end

