-- ==== Sys2Proof/Syntax.lean ====
section
/-! DEFINITION. The commands of the 5318: one constructor for each row of spec/opcode_table.json, in the table's order. -/

namespace Sys2Proof

/-- A frame of a terminal line as sampled (R145): the data bits, the parity sample and the first stop bit; mark is `true`. -/
structure TermFrame where
  data : Byte
  parity : Bool
  stop : Bool
deriving DecidableEq, Repr

/-- The block number of a return message, with the bytes that the return channel carried between the message before it and its own
start byte (R209). -/
structure ReturnNumber where
  before : List Byte
  byte : Byte
deriving DecidableEq, Repr

/-- The commands the part takes. -/
inductive Instr where
  /-- POWER_ON: power-on, with the levels of the three strap pins (R208, R1). -/
  | powerOn (pins : BitVec 3)
  /-- HOST_FRAME_RECEIVED: bytes arrive on the host line, the last of which completes a frame (R201). -/
  | hostFrameReceived (bytes : List Byte)
  /-- FRAME_ABANDONED: bytes arrive on the host line, then one with a framing error (R201). -/
  | frameAbandoned (bytes : List Byte)
  /-- FRAME_GAP_TIMEOUT: bytes arrive on the host line, then none for more than 50 ms (R201). -/
  | frameGapTimeout (bytes : List Byte)
  /-- REPLY_SENT: the last byte of the reply leaves the transmitter (R202). -/
  | replySent
  /-- ATTENTION_NOTICE: a due notice is sent when the transmitter is free (R206). -/
  | attentionNotice
  /-- IDENTIFY: request IDENTIFY (R203). -/
  | identify (tag : Byte) (body : List Byte)
  /-- TIME_SET: request TIME_SET (R204). -/
  | timeSet (tag : Byte) (body : List Byte)
  /-- RESET_SCREENS: request RESET with scope SCREENS (R208). -/
  | resetScreens (tag : Byte)
  /-- RESET_LINK: request RESET with scope LINK (R208, R191). -/
  | resetLink (tag : Byte)
  /-- RESET_ALL: request RESET with scope ALL (R208). -/
  | resetAll (tag : Byte)
  /-- ATTENTION_READ: request ATTENTION_READ (R207). -/
  | attentionRead (tag : Byte) (body : List Byte)
  /-- ATTENTION_ENABLE: request ATTENTION_ENABLE (R205). -/
  | attentionEnable (tag : Byte) (body : List Byte)
  /-- PROFILE_DEFINE: request PROFILE_DEFINE (R94). -/
  | profileDefine (tag : Byte) (body : List Byte)
  /-- LINE_CONFIGURE: request LINE_CONFIGURE (R142). -/
  | lineConfigure (tag : Byte) (body : List Byte)
  /-- SCREEN_STATUS: request SCREEN_STATUS (R118). -/
  | screenStatus (tag : Byte) (body : List Byte)
  /-- SCREEN_MESSAGE: request SCREEN_MESSAGE (R100). -/
  | screenMessage (tag : Byte) (body : List Byte)
  /-- SCREEN_SIGNOFF: request SCREEN_SIGNOFF (R117). -/
  | screenSignoff (tag : Byte) (body : List Byte)
  /-- DESK_DEFINE: request DESK_DEFINE (R47). -/
  | deskDefine (tag : Byte) (body : List Byte)
  /-- DESK_ROUTE: request DESK_ROUTE (R49). -/
  | deskRoute (tag : Byte) (body : List Byte)
  /-- DESK_LIST: request DESK_LIST (R50). -/
  | deskList (tag : Byte) (body : List Byte)
  /-- FACE_DEFINE: request FACE_DEFINE (R69). -/
  | faceDefine (tag : Byte) (body : List Byte)
  /-- FIT_QUIET: request FIT_QUIET (R81). -/
  | fitQuiet (tag : Byte) (body : List Byte)
  /-- FIT_REQUEST: request FIT_REQUEST (R85). -/
  | fitRequest (tag : Byte) (body : List Byte)
  /-- FIT_STATUS: request FIT_STATUS (R89). -/
  | fitStatus (tag : Byte) (body : List Byte)
  /-- LINK_CONFIGURE: request LINK_CONFIGURE (R175). -/
  | linkConfigure (tag : Byte) (body : List Byte)
  /-- LINK_STATUS: request LINK_STATUS (R190). -/
  | linkStatus (tag : Byte) (body : List Byte)
  /-- PROOF_START: request PROOF_START (R193). -/
  | proofStart (tag : Byte) (body : List Byte)
  /-- PROOF_STOP: request PROOF_STOP (R198). -/
  | proofStop (tag : Byte) (body : List Byte)
  /-- PROOF_RESULT: request PROOF_RESULT (R200). -/
  | proofResult (tag : Byte) (body : List Byte)
  /-- STORY_LOAD: request STORY_LOAD (R36). -/
  | storyLoad (tag : Byte) (body : List Byte)
  /-- STORY_APPEND: request STORY_APPEND (R37). -/
  | storyAppend (tag : Byte) (body : List Byte)
  /-- STORY_READ: request STORY_READ (R38). -/
  | storyRead (tag : Byte) (body : List Byte)
  /-- STORY_STATUS: request STORY_STATUS (R44). -/
  | storyStatus (tag : Byte) (body : List Byte)
  /-- STORY_STYLE: request STORY_STYLE (R39). -/
  | storyStyle (tag : Byte) (body : List Byte)
  /-- STORY_HEAD: request STORY_HEAD (R40). -/
  | storyHead (tag : Byte) (body : List Byte)
  /-- STORY_MOVE: request STORY_MOVE (R41). -/
  | storyMove (tag : Byte) (body : List Byte)
  /-- STORY_SPIKE: request STORY_SPIKE (R33). -/
  | storySpike (tag : Byte) (body : List Byte)
  /-- STORY_PURGE: request STORY_PURGE (R42). -/
  | storyPurge (tag : Byte) (body : List Byte)
  /-- STORY_REVISE: request STORY_REVISE (R43). -/
  | storyRevise (tag : Byte) (body : List Byte)
  /-- STORY_FIND: request STORY_FIND (R44). -/
  | storyFind (tag : Byte) (body : List Byte)
  /-- PAGE_DEFINE: request PAGE_DEFINE (R158). -/
  | pageDefine (tag : Byte) (body : List Byte)
  /-- PAGE_PLACE: request PAGE_PLACE (R160). -/
  | pagePlace (tag : Byte) (body : List Byte)
  /-- PAGE_UNPLACE: request PAGE_UNPLACE (R162). -/
  | pageUnplace (tag : Byte) (body : List Byte)
  /-- PAGE_RELEASE: request PAGE_RELEASE (R163). -/
  | pageRelease (tag : Byte) (body : List Byte)
  /-- PAGE_ABORT: request PAGE_ABORT (R168). -/
  | pageAbort (tag : Byte) (body : List Byte)
  /-- PAGE_STATUS: request PAGE_STATUS (R169). -/
  | pageStatus (tag : Byte) (body : List Byte)
  /-- EDITION_CLOSE: request EDITION_CLOSE (R170). -/
  | editionClose (tag : Byte) (body : List Byte)
  /-- EDITION_ROLLOVER: request EDITION_ROLLOVER (R171). -/
  | editionRollover (tag : Byte) (body : List Byte)
  /-- EDITION_STATUS: request EDITION_STATUS (R172). -/
  | editionStatus (tag : Byte) (body : List Byte)
  /-- TIME_OF_DAY_ADVANCE: the tenth timebase step comes and the time of day advances (R204). -/
  | timeOfDayAdvance
  /-- IDLE_TIMER_EXPIRY: the idle timer of screen n expires (R113). -/
  | idleTimerExpiry (n : Fin 32)
  /-- RING_TIMER_EXPIRY: the ring timer of screen n expires (R115). -/
  | ringTimerExpiry (n : Fin 32)
  /-- GRACE_EXPIRY: the grace timer of screen n expires (R153). -/
  | graceExpiry (n : Fin 32)
  /-- REFIT_DUE: the first entry of the refit list falls due (R83). -/
  | refitDue
  /-- FIT_PASS_COMPLETE: the pass under way completes (R88). -/
  | fitPassComplete
  /-- TERMINAL_CHARACTER_RECEIVED: a frame on line n is judged at its first stop bit (R146). -/
  | terminalCharacterReceived (n : Fin 32) (frame : TermFrame)
  /-- BREAK_END: line n returns to mark while its break runs (R149). -/
  | breakEnd (n : Fin 32)
  /-- BREAK_TIMER_EXPIRY: the break timer of line n expires at space (R149). -/
  | breakTimerExpiry (n : Fin 32)
  /-- KEY_PRINTABLE: a printable key is taken at screen n (R131). -/
  | keyPrintable (n : Fin 32) (code : Byte)
  /-- KEY_UNMAPPED: key UNMAPPED is taken at screen n (R120). -/
  | keyUnmapped (n : Fin 32)
  /-- KEY_SUPERVISOR_CODE: key SUPERVISOR_CODE is taken at screen n (R137). -/
  | keySupervisorCode (n : Fin 32)
  /-- KEY_INSERT_EP: key INSERT_EP is taken at screen n (R131). -/
  | keyInsertEp (n : Fin 32)
  /-- KEY_RUBOUT: key RUBOUT is taken at screen n (R131). -/
  | keyRubout (n : Fin 32)
  /-- KEY_DELETE: key DELETE is taken at screen n (R131). -/
  | keyDelete (n : Fin 32)
  /-- KEY_NOTE: key NOTE is taken at screen n (R8). -/
  | keyNote (n : Fin 32)
  /-- KEY_LEFT: key LEFT is taken at screen n (R129). -/
  | keyLeft (n : Fin 32)
  /-- KEY_RIGHT: key RIGHT is taken at screen n (R129). -/
  | keyRight (n : Fin 32)
  /-- KEY_UP: key UP is taken at screen n (R129). -/
  | keyUp (n : Fin 32)
  /-- KEY_DOWN: key DOWN is taken at screen n (R129). -/
  | keyDown (n : Fin 32)
  /-- KEY_PREV: key PREV is taken at screen n (R105). -/
  | keyPrev (n : Fin 32)
  /-- KEY_NEXT: key NEXT is taken at screen n (R105). -/
  | keyNext (n : Fin 32)
  /-- KEY_TOP: key TOP is taken at screen n (R129). -/
  | keyTop (n : Fin 32)
  /-- KEY_BOTTOM: key BOTTOM is taken at screen n (R129). -/
  | keyBottom (n : Fin 32)
  /-- KEY_ENTER: key ENTER is taken at screen n (R124). -/
  | keyEnter (n : Fin 32)
  /-- KEY_CANCEL: key CANCEL is taken at screen n (R135). -/
  | keyCancel (n : Fin 32)
  /-- KEY_NEW: key NEW is taken at screen n (R128). -/
  | keyNew (n : Fin 32)
  /-- KEY_OPEN: key OPEN is taken at screen n (R127). -/
  | keyOpen (n : Fin 32)
  /-- KEY_VIEW: key VIEW is taken at screen n (R127). -/
  | keyView (n : Fin 32)
  /-- KEY_CLOSE: key CLOSE is taken at screen n (R134). -/
  | keyClose (n : Fin 32)
  /-- KEY_FILE: key FILE is taken at screen n (R133). -/
  | keyFile (n : Fin 32)
  /-- KEY_SEND: key SEND is taken at screen n (R133). -/
  | keySend (n : Fin 32)
  /-- KEY_SPIKE: key SPIKE is taken at screen n (R133). -/
  | keySpike (n : Fin 32)
  /-- KEY_PRIORITY: key PRIORITY is taken at screen n (R133). -/
  | keyPriority (n : Fin 32)
  /-- KEY_FIT: key FIT is taken at screen n (R133). -/
  | keyFit (n : Fin 32)
  /-- KEY_VIEWMODE: key VIEWMODE is taken at screen n (R130). -/
  | keyViewmode (n : Fin 32)
  /-- KEY_ACK: key ACK is taken at screen n (R135). -/
  | keyAck (n : Fin 32)
  /-- KEY_SIGNOFF: key SIGNOFF is taken at screen n (R116). -/
  | keySignoff (n : Fin 32)
  /-- KEY_RELEASE: key RELEASE is taken at screen n (R136). -/
  | keyRelease (n : Fin 32)
  /-- KEY_ABORT: key ABORT is taken at screen n (R136). -/
  | keyAbort (n : Fin 32)
  /-- TRANSMISSION_COMPLETE: the last code of the item on line n moves into the shift (R155). -/
  | transmissionComplete (n : Fin 32)
  /-- LOS_WINDOW_END: a window of the return channel ends, active or quiet (R177). -/
  | losWindowEnd (active : Bool)
  /-- ACQUIRE_TIMER_EXPIRY: the acquire timer expires (R179). -/
  | acquireTimerExpiry
  /-- READY: return message READY, with its number and CRC as received (R179, R209). -/
  | ready (number : ReturnNumber) (check : BitVec 16)
  /-- BLOCK_SENT: the last code of a galley, LOOP or abort block leaves the transmitter (R183). -/
  | blockSent
  /-- ACK: return message ACK, with its number and CRC as received (R184, R209). -/
  | ack (number : ReturnNumber) (check : BitVec 16)
  /-- NAK: return message NAK, with its number and CRC as received (R184, R209). -/
  | nak (number : ReturnNumber) (check : BitVec 16)
  /-- ACK_TIMEOUT: the acknowledgement timer expires (R184). -/
  | ackTimeout
  /-- HOLD: return message HOLD, with its number and CRC as received (R185, R209). -/
  | hold (number : ReturnNumber) (check : BitVec 16)
  /-- GO: return message GO, with its number and CRC as received (R185, R209). -/
  | go (number : ReturnNumber) (check : BitVec 16)
  /-- LOSS_TIMER_EXPIRY: the loss timer of a suspended page expires (R188). -/
  | lossTimerExpiry
  /-- ABORT_WAIT_EXPIRY: the timer of the abort wait expires (R189). -/
  | abortWaitExpiry
  /-- PROOF_BIT_RECEIVED: a bit of the return channel is received in a proof (R196, R197). -/
  | proofBitReceived (bit : Bool)
  /-- PROOF_TIMEBASE_REACHED: the bit that brings bits received to the timebase is received (R196). -/
  | proofTimebaseReached (bit : Bool)
  /-- UNLOOP_SENT: the sending of the UNLOOP block ends (R198). -/
  | unloopSent
deriving DecidableEq, Repr

end Sys2Proof
end

