-- ==== Sys2Proof/Decode.lean ====
section
/-! DEFINITION. Decoding table words. The 5318 is a block: spec/opcode_table.json gives none of its rows any bits, so no word
spells a command. The byte layouts of frames and request bodies (R201, R210) are in Machine/Operands.lean. -/

namespace Sys2Proof

/-- The command that a word of the table's bits spells: none, since no row of the table has bits. -/
def decodeTableWord (_nbits _w : Nat) : Option Instr := none

end Sys2Proof
end

