-- ==== Sys2Proof/Config.lean ====
section
/-! DEFINITION. What a 5318 fixes for good: its capacities and limits, and the free values, which have no body. -/

namespace Sys2Proof.Config

/-- Blocks of the copy store (R9). -/
def blocks : Nat := 16384
/-- Character positions of a block (R9). -/
def blockSize : Nat := 64
/-- Longest story, in characters (R9, R12). -/
def maxStory : Nat := 30000
/-- The store-low threshold (R17). -/
def storeLow : Nat := 256
/-- Story records (R19). -/
def stories : Nat := 512
/-- Desk records (R46). -/
def desks : Nat := 16
/-- Entries of a basket (R52). -/
def basketSize : Nat := 64
/-- Viewers of a story (R24). -/
def maxViewers : Nat := 8
/-- Faces (R68). -/
def faces : Nat := 8
/-- Largest character width (R68). -/
def maxWidth : Nat := 54
/-- Profiles (R93). -/
def profiles : Nat := 4
/-- Screens and terminal lines (R91, R141). -/
def lines : Nat := 32
/-- Keys of a type-ahead queue (R141). -/
def typeAhead : Nat := 8
/-- Page records (R157). -/
def pages : Nat := 32
/-- Slots of a page (R157). -/
def slots : Nat := 16
/-- Pages of the setting queue (R165). -/
def settingQueue : Nat := 8
/-- Characters of a fitted line (R74). -/
def maxLineChars : Nat := 240
/-- Largest line count of a fit (R76). -/
def maxLines : Nat := 4095
/-- Largest story depth, and the excess reported for a saturated fit (R77, R163). -/
def maxDepth : Nat := 65535
/-- Payload bytes of a typesetter block (R182). -/
def blockPayload : Nat := 256
/-- Outcomes of the quality window (R187). -/
def window : Nat := 32
/-- Seconds of a day (R204). -/
def day : Nat := 86400

/-- FREE VALUE (log entry 6). Whether the pass under way ends at this timebase step, one tenth after another; R87 gives only
the longest time a pass takes. The argument counts the values drawn. -/
opaque passEnds : Nat → Bool

/-- FREE VALUE (log entry 10). The code LINK_STATUS reports for a current block that has been composed but never sent, for
which R190 and the code table of 11.6 name none. -/
opaque unsentBlockReport : Byte

end Sys2Proof.Config
end

