-- ==== Sys2Proof/Machine/State.lean ====
section
/-! DEFINITION. The state of the 5318 as plain data, block by block (spec/00_scope.md, Blocks), and its value after a full reset. -/

namespace Sys2Proof.Machine

/-! ## Outcomes -/

/-- The block has no fault: what cannot be done is refused by a reply status or a screen message, which is a next state (R3). -/
inductive Fault where
deriving DecidableEq, Repr

/-- Why a command would have no meaning. -/
inductive Refusal where
  /-- Raised by an arm of `exec` whose command is not modelled; no arm is (safe: the run stops). -/
  | notModelled (mnemonic : String)
deriving DecidableEq, Repr

/-! ## Copy store (R9) -/

/-- A block in use: its number and the codes of its used positions; the used count is their number. -/
structure Block where
  num : Nat
  chars : List Byte
deriving DecidableEq, Repr

/-- The blocks of one story in link order. -/
abbrev Chain := List Block

/-- The free stack, top first, and the chain of each story number. -/
structure Store where
  free : List Nat
  chains : List Chain
deriving DecidableEq, Repr

/-! ## Stories (R19) -/

/-- Priority classes, highest first. -/
inductive Priority where
  | flash | bulletin | urgent | routine
deriving DecidableEq, Repr

/-- The state of a non-EMPTY story. -/
inductive StoryState where
  | queued | open_ | setting | set_ | spiked
deriving DecidableEq, Repr

/-- A style (R71). A headline's style is one whose indent is 0. -/
structure Style where
  face : Nat
  size : Nat
  set : Nat
  leading : Nat
  measure : Nat
  indent : Nat
deriving DecidableEq, Repr

/-- A headline (R19). -/
structure Headline where
  text : List Byte
  style : Style
  maxLines : Nat
deriving DecidableEq, Repr

/-- A fit record (R79). -/
structure FitRecord where
  valid : Bool
  lines : Nat
  heads : Nat
  overfull : Nat
  depth : Nat
  saturated : Bool
  bust : Bool
  basisVersion : BitVec 32
  basisBody : BitVec 32
  basisHead : Option (BitVec 32)
deriving DecidableEq, Repr

/-- A non-EMPTY story record (R19). The chain stands in the store and the basket entry in the basket. -/
structure Story where
  slug : List Byte
  state : StoryState
  priority : Priority
  desk : Nat
  owner : Option Nat
  viewers : List Nat
  version : BitVec 32
  style : Style
  head : Option Headline
  fit : Option FitRecord
  placement : Option (Nat × Nat)
  created : Nat
  setEdition : Option Nat
deriving DecidableEq, Repr

/-! ## Desks and baskets (R46, R52) -/

/-- A defined desk. -/
structure Desk where
  name : List Byte
  code : List Byte
  supervisor : Bool
  composing : Bool
  route : Option Nat
  allowed : List Nat
  waitLimit : Nat
  style : Style
deriving DecidableEq, Repr

/-- A basket entry. -/
structure Entry where
  story : Nat
  time : Nat
  escalated : Bool
deriving DecidableEq, Repr

/-! ## Fit engine (R68, R81 to R86) -/

/-- A face: the widths of each half of its table, which halves are loaded, and its generation. -/
structure Face where
  lower : List Nat
  upper : List Nat
  lowerLoaded : Bool
  upperLoaded : Bool
  generation : BitVec 32
deriving DecidableEq, Repr

/-- An entry of the refit list: a story and the timebase step at which it falls due. -/
structure RefitEntry where
  story : Nat
  due : Nat
deriving DecidableEq, Repr

/-- A pass under way: what the engine recorded at its start (R86), and its tenths so far and at most (R87). -/
structure Pass where
  story : Nat
  version : BitVec 32
  bodyGen : BitVec 32
  headGen : Option (BitVec 32)
  elapsed : Nat
  limit : Nat
deriving DecidableEq, Repr

/-- The fit engine; it is IDLE when no pass is under way. -/
structure FitUnit where
  faces : List Face
  quiet : Nat
  refit : List RefitEntry
  queue : List Nat
  pass : Option Pass
deriving DecidableEq, Repr

/-! ## Screens (R91, R93) -/

/-- The key functions (R120). -/
inductive KeyFn where
  | insertEp | rubout | delete | left | right | up | down | prev | next | top | bottom | enter | cancel
  | newStory | openStory | viewStory | closeView | file | send | spike | note | priority | fit | ack
  | signoff | release | abort | viewmode
deriving DecidableEq, Repr

/-- A terminal profile (R93); `keyMap` has one entry for each code 0x00 to 0x1F. -/
structure Profile where
  rows : Nat
  cols : Nat
  cursorLead : Byte
  rowOffset : Byte
  colOffset : Byte
  clearCode : Byte
  eorCode : Byte
  attrLead : Byte
  attrCodes : List Byte
  bellCode : Byte
  superCode : Byte
  ringInterval : Nat
  keyMap : List (Option KeyFn)
deriving DecidableEq, Repr

/-- The state a screen has, or would have if it were not BLANKED (R91, R92). -/
inductive Mode where
  | down | signedOff | desk | edit | view
deriving DecidableEq, Repr

/-- The role of a screen in its story. -/
inductive Role where
  | owner | viewer
deriving DecidableEq, Repr

/-- Prompt kinds (R123); `closed` is NONE. -/
inductive Prompt where
  | closed | signon | newSlug | openSlug | sendDesk | priority | pageRelease | pageAbort | spikeConfirm
  | superTake | superMoveSlug | superMoveDesk
deriving DecidableEq, Repr

/-- The logical attributes (R112). -/
inductive Attr where
  | normal | note | strip | alert | select | stale | setmark | dim
deriving DecidableEq, Repr

/-- One position of a row. -/
structure Glyph where
  ch : Byte
  attr : Attr
deriving DecidableEq, Repr

/-- A row of a screen. -/
abbrev Row := List Glyph

/-- A screen context (R91). BLANKED is `blanked`, with `mode` as the resume state. Timers are `some` of what is left, or off. -/
structure Screen where
  profileNo : Nat
  profile : Profile
  mode : Mode
  blanked : Bool
  desk : Option Nat
  story : Option (Nat × Role)
  setView : Bool
  top : Nat
  setTop : Nat
  cursor : Nat
  cursorDue : Bool
  selection : Option (Nat × Nat)
  basketTop : Nat
  prompt : Prompt
  buffer : List Byte
  promptArg : Option Nat
  escape : Nat
  ring : List Nat
  newMark : Bool
  hostMessage : Option (List Byte × Bool)
  partMessage : Option (List Byte)
  idle : Option Nat
  ringTimer : Option Nat
  ringDue : Bool
  bells : Nat
  grace : Option Nat
  image : List Row
  clearDue : Bool
  layout : List Row
  layoutTime : Nat
  cursorAt : Option (Nat × Nat)
deriving DecidableEq, Repr

/-! ## Terminal lines (R141) -/

/-- Line states. -/
inductive LineState where
  | off | up | dead
deriving DecidableEq, Repr

/-- Parity of a line's format. -/
inductive Parity where
  | none | even | odd
deriving DecidableEq, Repr

/-- A line's configuration; `rate` is the rate's code (11.6). -/
structure LineConfig where
  rate : Nat
  dataBits : Nat
  parity : Parity
  stopBits : Nat
  profile : Nat
  idleLimit : Nat
  deadThreshold : Nat
  grace : Nat
deriving DecidableEq, Repr

/-- What waits in a type-ahead queue: a received code, or a BREAK. -/
inductive QueuedKey where
  | code (c : Byte)
  | brk
deriving DecidableEq, Repr

/-- What an item on the transmitter is (R109). -/
inductive ItemKind where
  | clear | bells | row (r : Nat) | cursor | ring
deriving DecidableEq, Repr

/-- The item being transmitted: its kind and its codes. -/
structure Item where
  kind : ItemKind
  codes : List Byte
deriving DecidableEq, Repr

/-- A code in a transmitter's shift, with the levels of its frame at the format it began with (R144, R145); mark is `true`. -/
structure Shifting where
  code : Byte
  frame : List Bool
deriving DecidableEq, Repr

/-- A line record (R141); `config` is absent exactly while the line is OFF. `unfed` holds the codes of the item that have not been
put into the buffer yet (R155). -/
structure Line where
  state : LineState
  config : Option LineConfig
  assembling : List Bool
  holding : Option QueuedKey
  breakTimer : Option Nat
  queue : List QueuedKey
  overrun : Bool
  parityError : Bool
  framing : Bool
  item : Option Item
  unfed : List Byte
  buffer : Option Byte
  shift : Option Shifting
deriving DecidableEq, Repr

/-! ## Receivers of frames and messages (R201, R209) -/

/-- A receiver that looks for a start byte: HUNTING, or ASSEMBLING with the bytes after it. -/
inductive Receiver where
  | hunting
  | assembling (bytes : List Byte)
deriving DecidableEq, Repr

/-! ## Pages and editions (R157, R165, R170) -/

/-- The state of a defined page. -/
inductive PageState where
  | open_ | waiting | setting | set_
deriving DecidableEq, Repr

/-- Failure causes. -/
inductive Cause where
  | aborted | linkErrors | linkLost | reset
deriving DecidableEq, Repr

/-- A slot of a page. -/
structure Slot where
  num : Nat
  measure : Nat
  allowance : Nat
  story : Option Nat
deriving DecidableEq, Repr

/-- A defined page; its slots stand in ascending slot number. -/
structure Page where
  label : List Byte
  edition : Nat
  state : PageState
  cause : Option Cause
  slots : List Slot
deriving DecidableEq, Repr

/-- The edition record. -/
structure Edition where
  number : Nat
  closed : Bool
deriving DecidableEq, Repr

/-! ## Typesetter link (R174) -/

/-- The link's configuration (R175); `rate` is the rate's code (11.6). -/
structure LinkConfig where
  rate : Nat
  ackTimeout : Nat
  lossLimit : Nat
  acquireInterval : Nat
  losAssert : Nat
  losClear : Nat
  poorAssert : Nat
  poorClear : Nat
  holdOnPoor : Bool
deriving DecidableEq, Repr

/-- Link conditions. -/
inductive LinkCond where
  | off | down | acquiring | up
deriving DecidableEq, Repr

/-- Output activities. -/
inductive Activity where
  | idle | setting | proving
deriving DecidableEq, Repr

/-- How far a block that awaits an answer is: composed and never sent, being sent, sent, or due for resend at GO. -/
inductive BlockPhase where
  | unsent | sending | sent | resendDue
deriving DecidableEq, Repr

/-- The current block of the setting page; `last` says that it holds PAGE_END. -/
structure CurrentBlock where
  num : Byte
  payload : List Byte
  last : Bool
  tries : Nat
  settled : Bool
  phase : BlockPhase
deriving DecidableEq, Repr

/-- The page being sent. The composer position is the number of galley records composed so far. -/
structure SettingPage where
  page : Nat
  position : Nat
  blocksDone : Nat
  linesSent : Nat
  current : Option CurrentBlock
  suspended : Bool
  lossTimer : Option Nat
deriving DecidableEq, Repr

/-- An abort block that awaits its answer (R189). -/
structure AbortWait where
  num : Byte
  timer : Nat
deriving DecidableEq, Repr

/-- Kinds of typesetter block (11.6). -/
inductive BlockKind where
  | data | enquiry | loop | unloop | abort
deriving DecidableEq, Repr

/-- A block handed to the forward channel. -/
structure ForwardBlock where
  num : Byte
  kind : BlockKind
  payload : List Byte
deriving DecidableEq, Repr

/-- The typesetter link unit, less the proof checker. `resent` holds the timebase step at which an expiry of the acknowledgement timer
had a block sent again, and the block's number, while that sending goes on (R185). -/
structure Link where
  config : Option LinkConfig
  cond : LinkCond
  los : Bool
  quietCount : Nat
  activeCount : Nat
  acquireTimer : Option Nat
  held : Bool
  nextNum : Byte
  activity : Activity
  setting : Option SettingPage
  ackTimer : Option Nat
  abortWait : Option AbortWait
  forward : List ForwardBlock
  window : List Bool
  poor : Bool
  returnBits : Bool
  receiver : Receiver
  resent : Option (Nat × Byte)
deriving DecidableEq, Repr

/-! ## Link proof (R192) -/

/-- Proof states. -/
inductive ProofState where
  | idle | starting | syncing | counting
deriving DecidableEq, Repr

/-- Proof patterns; FIXED with its 32-bit value. -/
inductive Pattern where
  | p7 | p15 | fixed (value : BitVec 32)
deriving DecidableEq, Repr

/-- A proof's request; `timebase` is absent for a continuous proof. -/
structure ProofRequest where
  pattern : Pattern
  timebase : Option Nat
  threshold : Nat
  mask : Bool
deriving DecidableEq, Repr

/-- The LOOP block of a proof in STARTING. -/
structure LoopBlock where
  num : Byte
  tries : Nat
  phase : BlockPhase
deriving DecidableEq, Repr

/-- End causes of a proof. -/
inductive EndCause where
  | done | stopped | lost | reset
deriving DecidableEq, Repr

/-- A result record. -/
structure ProofResult where
  pattern : Pattern
  timebase : Option Nat
  checked : Nat
  errors : Nat
  summary : Nat
  syncLosses : Nat
  cause : EndCause
deriving DecidableEq, Repr

/-- The proof checker. `recent` holds the latest received bits, the last one lowest, and `seen` how many of them the present
search has; `generator` is the checker's own, `sender` that of the forward channel. -/
structure Proof where
  state : ProofState
  request : Option ProofRequest
  loop : Option LoopBlock
  received : Nat
  checked : Nat
  errors : Nat
  windowChecked : Nat
  windowErrors : Nat
  syncLosses : Nat
  firstSync : Bool
  alarmRaised : Bool
  recent : BitVec 32
  seen : Nat
  generator : BitVec 32
  sender : BitVec 32
  result : Option ProofResult
deriving DecidableEq, Repr

/-! ## Host line (R201, R205, R206) -/

/-- A complete request frame. -/
structure Request where
  kind : Byte
  tag : Byte
  body : List Byte
deriving DecidableEq, Repr

/-- The reply of the request being served; `contended` says that a notice was due when it became ready, so that either may
go first (R202). -/
structure Reply where
  frame : List Byte
  contended : Bool
deriving DecidableEq, Repr

/-- The host line unit, less the time of day. -/
structure HostLine where
  receiver : Receiver
  hold : Option Request
  reply : Option Reply
  flags : BitVec 12
  enables : BitVec 12
  lineDown : List Nat
  lineError : List Nat
  deskOverdue : List Nat
  outstanding : Bool
  noticesDue : Nat
  notice : Option (List Byte)
  strap : BitVec 3
deriving DecidableEq, Repr

/-- The timebase and the time of day: steps so far, seconds of the day, and steps until the next advance. -/
structure Clock where
  steps : Nat
  time : Nat
  untilAdvance : Nat
deriving DecidableEq, Repr

/-! ## The whole part -/

/-- The state of the part, with the queue of commands that wait. -/
structure State where
  store : Store
  stories : List (Option Story)
  desks : List (Option Desk)
  baskets : List (List Entry)
  fit : FitUnit
  profiles : List Profile
  screens : List Screen
  lines : List Line
  keyTurn : Nat
  pages : List (Option Page)
  settingQueue : List Nat
  edition : Edition
  link : Link
  proof : Proof
  host : HostLine
  clock : Clock
  strapPins : BitVec 3
  drawn : Nat
  pending : List Instr
deriving DecidableEq, Repr

/-! ## Values after a full reset -/

/-- `count` numbers rising from `start`; the free stack after a full reset (R18) is these from block 0. -/
def risingFrom : Nat → Nat → List Nat
  | _, 0 => []
  | start, count + 1 => start :: risingFrom (start + 1) count

/-- The copy store after a full reset (R18). -/
def Store.reset : Store := ⟨risingFrom 0 Config.blocks, List.replicate Config.stories []⟩

/-- An unloaded face (R90). -/
def Face.reset : Face := ⟨List.replicate 48 0, List.replicate 47 0, false, false, 0⟩

/-- The fit engine after a full reset (R90). -/
def FitUnit.reset : FitUnit := ⟨List.replicate Config.faces Face.reset, 15, [], [], none⟩

/-- The key map of the basic profile (R95). -/
def basicKeyMap : List (Option KeyFn) :=
  [none, some .ack, some .bottom, some .cancel, some .delete, some .enter, some .file, none,
   some .rubout, some .note, some .insertEp, some .up, some .right, some .insertEp, some .newStory, some .openStory,
   some .prev, some .priority, some .release, some .send, some .top, some .abort, some .viewStory, some .viewmode,
   some .signoff, some .fit, some .spike, some .closeView, some .left, none, some .down, some .next]

/-- The basic profile (R95). -/
def Profile.basic : Profile where
  rows := 24
  cols := 80
  cursorLead := 0x1B
  rowOffset := 0x20
  colOffset := 0x20
  clearCode := 0x0C
  eorCode := 0x0B
  attrLead := 0x1E
  attrCodes := [0x40, 0x41, 0x42, 0x43, 0x44, 0x45, 0x46, 0x47]
  bellCode := 0x07
  superCode := 0x1D
  ringInterval := 10
  keyMap := basicKeyMap

/-- A row of spaces in one attribute. -/
def blankRow (cols : Nat) (attr : Attr) : Row := List.replicate cols ⟨0x20, attr⟩

/-- Every row spaces in NORMAL. -/
def blankRows (rows cols : Nat) : List Row := List.replicate rows (blankRow cols .normal)

/-- A screen context as a full reset leaves it (R119). -/
def Screen.reset : Screen where
  profileNo := 0
  profile := .basic
  mode := .down
  blanked := false
  desk := none
  story := none
  setView := false
  top := 0
  setTop := 0
  cursor := 0
  cursorDue := false
  selection := none
  basketTop := 0
  prompt := .closed
  buffer := []
  promptArg := none
  escape := 0
  ring := []
  newMark := false
  hostMessage := none
  partMessage := none
  idle := none
  ringTimer := none
  ringDue := false
  bells := 0
  grace := none
  image := blankRows 24 80
  clearDue := false
  layout := blankRows 24 80
  layoutTime := 0
  cursorAt := none

/-- An OFF line (R156). -/
def Line.reset : Line := ⟨.off, none, [], none, none, [], false, false, false, none, [], none, none⟩

/-- The unconfigured link (R191). -/
def Link.reset : Link :=
  ⟨none, .off, true, 0, 0, none, false, 0, .idle, none, none, none, [], [], false, false, .hunting, none⟩

/-- The proof checker after a full reset (R200). -/
def Proof.reset : Proof :=
  ⟨.idle, none, none, 0, 0, 0, 0, 0, 0, false, false, 0, 0, 0, 0, none⟩

/-- The host line unit after a full reset (R208). -/
def HostLine.reset : HostLine :=
  ⟨.hunting, none, none, 0, BitVec.allOnes 12, [], [], [], false, 0, none, 0⟩

/-- The machine right after reset: every field as the chapters state for a full reset. -/
def State.reset : State where
  store := .reset
  stories := List.replicate Config.stories none
  desks := List.replicate Config.desks none
  baskets := List.replicate Config.desks []
  fit := .reset
  profiles := List.replicate Config.profiles .basic
  screens := List.replicate Config.lines .reset
  lines := List.replicate Config.lines .reset
  keyTurn := 31
  pages := List.replicate Config.pages none
  settingQueue := []
  edition := ⟨1, false⟩
  link := .reset
  proof := .reset
  host := .reset
  clock := ⟨0, 0, 10⟩
  strapPins := 0
  drawn := 0
  pending := []

end Sys2Proof.Machine
end

