-- ==== Sys2Proof/Machine/Operands.lean ====
section
/-! DEFINITION. Operand forms: the numbers, sets, texts and lists of request bodies and replies (R210, 11.6), the CRC and the
frame layouts (R183, R201, R209), the codes of enumerated fields, and the checks of slugs and styles (R21, R71). -/

namespace Sys2Proof.Machine

/-! ## Numbers and sets -/

/-- A number in `width` bytes, most significant byte first (11.6). -/
def be : Nat → Nat → List Byte
  | 0, _ => []
  | width + 1, n => byte (n / 256 ^ width) :: be width n

/-- The number that bytes spell, most significant byte first (11.6). -/
def ofBe (bytes : List Byte) : Nat := bytes.foldl (fun a b => a * 256 + b.toNat) 0

/-- The mask of a set of numbers: bit n for n (11.6). -/
def maskOf (members : List Nat) : Nat := members.foldl (fun a n => a ||| (1 <<< n)) 0

/-- The members below `width` of a mask, in ascending order. -/
def membersOf (width mask : Nat) : List Nat := (List.range width).filter fun n => mask.testBit n

/-- A set of numbers, kept in ascending order without repeats, with one more member. -/
def insertNum (n : Nat) (members : List Nat) : List Nat :=
  if members.contains n then members
  else members.takeWhile (· < n) ++ n :: members.dropWhile (· < n)

/-- A set of numbers without one member. -/
def eraseNum (n : Nat) (members : List Nat) : List Nat := members.filter (· != n)

/-- A Boolean as a flag byte. -/
def flagByte (b : Bool) : List Byte := [if b then 1 else 0]

/-- The decimal digits of a number without leading zeros. -/
def decimal (n : Nat) : List Byte := (Nat.toDigits 10 n).map fun c => byte c.toNat

/-- A number below 100 in two decimal digits. -/
def twoDigits (n : Nat) : List Byte := [byte (48 + n / 10 % 10), byte (48 + n % 10)]

/-! ## Bodies (R210) -/

/-- A reader of a request body. -/
abbrev Rd := StateT (List Byte) Option

/-- The next `width` bytes. -/
def readBytes (width : Nat) : Rd (List Byte) := fun l =>
  if l.length < width then none else some (l.take width, l.drop width)

/-- A number of `width` bytes. -/
def readNat (width : Nat) : Rd Nat := do return ofBe (← readBytes width)

/-- One byte. -/
def readByte : Rd Byte := do return byte (← readNat 1)

/-- A text preceded by its length in `width` bytes. -/
def readText (width : Nat) : Rd (List Byte) := do readBytes (← readNat width)

/-- `count` entries. -/
def readMany {α : Type} (entry : Rd α) : Nat → Rd (List α)
  | 0 => pure []
  | count + 1 => do
    let a ← entry
    let rest ← readMany entry count
    return a :: rest

/-- A list preceded by its one-byte count. -/
def readList {α : Type} (entry : Rd α) : Rd (List α) := do readMany entry (← readNat 1)

/-- The six style fields as carried (R71). -/
def readStyle : Rd Style := do
  let face ← readNat 1
  let size ← readNat 1
  let set ← readNat 1
  let leading ← readNat 2
  let measure ← readNat 2
  let indent ← readNat 1
  return ⟨face, size, set, leading, measure, indent⟩

/-- The five headline style fields as carried (R71). -/
def readHeadStyle : Rd Style := do
  let face ← readNat 1
  let size ← readNat 1
  let set ← readNat 1
  let leading ← readNat 2
  let measure ← readNat 2
  return ⟨face, size, set, leading, measure, 0⟩

/-- A whole body: the fields of its layout and nothing after them; none is a wrong length. -/
def readBody {α : Type} (layout : Rd α) (body : List Byte) : Option α :=
  match layout.run body with
  | some (a, []) => some a
  | _ => none

/-- The layout of a request that carries no fields. -/
def readNothing : Rd Unit := pure ()

/-! ## Reply fields -/

/-- The status codes of replies (11.6). -/
inductive Status where
  | ok | adjusted | accepted | unknownKind | badLength | badField | noSuch | badState | busy | full
  | duplicate | limit | fitPending | overset | editionClosed | storyOpen | storeFull
deriving DecidableEq, Repr

/-- The byte of a status (11.6). -/
def Status.code : Status → Byte
  | .ok => 0x00
  | .adjusted => 0x01
  | .accepted => 0x02
  | .unknownKind => 0x03
  | .badLength => 0x04
  | .badField => 0x05
  | .noSuch => 0x06
  | .badState => 0x07
  | .busy => 0x08
  | .full => 0x09
  | .duplicate => 0x0A
  | .limit => 0x0B
  | .fitPending => 0x0C
  | .overset => 0x0D
  | .editionClosed => 0x0E
  | .storyOpen => 0x0F
  | .storeFull => 0x10

/-- OK, or ADJUSTED if a value was clamped (R3). -/
def okOr (clamped : Bool) : Status := if clamped then .adjusted else .ok

/-- A text after its length in `width` bytes. -/
def textField (width : Nat) (t : List Byte) : List Byte := be width t.length ++ t

/-- An item that is present or absent: a byte and the item, zero bytes in its place when absent (R210). -/
def optField {α : Type} (size : Nat) (field : α → List Byte) : Option α → List Byte
  | some a => 1 :: field a
  | none => 0 :: List.replicate size 0

/-- A list after its count in `width` bytes. -/
def listField {α : Type} (width : Nat) (field : α → List Byte) (l : List α) : List Byte :=
  be width l.length ++ l.flatMap field

/-- The six fields of a body style. -/
def styleField (y : Style) : List Byte :=
  be 1 y.face ++ be 1 y.size ++ be 1 y.set ++ be 2 y.leading ++ be 2 y.measure ++ be 1 y.indent

/-- The five fields of a headline style. -/
def headStyleField (y : Style) : List Byte :=
  be 1 y.face ++ be 1 y.size ++ be 1 y.set ++ be 2 y.leading ++ be 2 y.measure

/-! ## CRC and frames (R201, R209, 11.6) -/

/-- One bit step of the CRC over x¹⁶ + x¹² + x⁵ + 1. -/
def crcShift (c : BitVec 16) : BitVec 16 := if c.msb then (c <<< 1) ^^^ 0x1021#16 else c <<< 1

/-- One byte of the CRC, most significant bit first. -/
def crcByte (c : BitVec 16) (b : Byte) : BitVec 16 :=
  crcShift (crcShift (crcShift (crcShift (crcShift (crcShift (crcShift (crcShift
    (c ^^^ (b.setWidth 16 <<< 8)))))))))

/-- The CRC-16 of bytes, from 0xFFFF with no final inversion. -/
def crc16 (bytes : List Byte) : BitVec 16 := bytes.foldl crcByte 0xFFFF#16

/-- The bytes a host frame's CRC covers: length, kind, tag and body. -/
def frameContent (kind tag : Byte) (body : List Byte) : List Byte :=
  be 2 body.length ++ kind :: tag :: body

/-- A host frame: start byte, content and CRC. -/
def hostFrame (kind tag : Byte) (body : List Byte) : List Byte :=
  0xA5 :: (frameContent kind tag body ++ be 2 (crc16 (frameContent kind tag body)).toNat)

/-- The codes of return messages (11.6). -/
inductive ReturnCode where
  | ack | nak | hold | go | ready
deriving DecidableEq, Repr

/-- The byte of a return code. -/
def ReturnCode.byte : ReturnCode → Byte
  | .ack => 1
  | .nak => 2
  | .hold => 3
  | .go => 4
  | .ready => 5

/-- The return code of a byte; none of a byte that is none of the five. -/
def ReturnCode.ofByte (b : Byte) : Option ReturnCode :=
  match b.toNat with
  | 1 => some .ack
  | 2 => some .nak
  | 3 => some .hold
  | 4 => some .go
  | 5 => some .ready
  | _ => none

/-- The CRC that a return message must carry (R209). -/
def returnCheck (code : ReturnCode) (number : Byte) : BitVec 16 := crc16 [code.byte, number]

/-- The bytes of a return message: the start byte, the code, the number, and the CRC as received (R209). -/
def returnBytes (code : ReturnCode) (number : Byte) (check : BitVec 16) : List Byte :=
  0x5A :: code.byte :: number :: be 2 check.toNat

/-- The message of the four bytes after a start byte; none where the CRC fails or the code is none of the five (R209). -/
def returnMessage (code number high low : Byte) : Option ReturnCode :=
  (ReturnCode.ofByte code).filter fun k => returnCheck k number == high ++ low

/-- The byte of a block kind (11.6). -/
def BlockKind.byte : BlockKind → Byte
  | .data => 1
  | .enquiry => 2
  | .loop => 3
  | .unloop => 4
  | .abort => 5

/-- The bytes of a block a block's CRC covers: number, kind, payload length and payload. -/
def blockContent (b : ForwardBlock) : List Byte := b.num :: b.kind.byte :: (be 2 b.payload.length ++ b.payload)

/-- A typesetter block as sent (R183): sync byte, content and CRC. -/
def blockBytes (b : ForwardBlock) : List Byte :=
  0x96 :: (blockContent b ++ be 2 (crc16 (blockContent b)).toNat)

/-- The frame of a code of a block or a return message, 10 bits: a start bit of space, the data lowest bit first, no parity, and one
stop bit of mark (R183). The host line carries its bytes in the same frames (R201). -/
def linkFrame (code : Byte) : List Bool := false :: ((List.range 8).map (fun i => code.getLsbD i) ++ [true])

/-- A typesetter block on the forward channel's wire, code after code (R183). -/
def blockWire (b : ForwardBlock) : List Bool := (blockBytes b).flatMap linkFrame

/-- A return message on the return channel's wire, code after code (R183). -/
def returnWire (code : ReturnCode) (number : Byte) (check : BitVec 16) : List Bool :=
  (returnBytes code number check).flatMap linkFrame

/-! ## Codes of enumerated fields (R210) -/

/-- The priority of a code. -/
def Priority.ofCode : Nat → Option Priority
  | 0 => some .flash
  | 1 => some .bulletin
  | 2 => some .urgent
  | 3 => some .routine
  | _ => none

/-- The code of a priority, which is also its rank, FLASH 0. -/
def Priority.code : Priority → Nat
  | .flash => 0
  | .bulletin => 1
  | .urgent => 2
  | .routine => 3

/-- The letter of a priority (R97). -/
def Priority.letter : Priority → Byte
  | .flash => 0x46
  | .bulletin => 0x42
  | .urgent => 0x55
  | .routine => 0x52

/-- The code of a story's state; EMPTY is 0. -/
def StoryState.code : StoryState → Nat
  | .queued => 1
  | .open_ => 2
  | .setting => 3
  | .set_ => 4
  | .spiked => 5

/-- The name of a story's state on a status row (R97). -/
def StoryState.name : StoryState → List Byte
  | .queued => str "QUEUED"
  | .open_ => str "OPEN"
  | .setting => str "SETTING"
  | .set_ => str "SET"
  | .spiked => str "SPIKED"

/-- The code of a fit state: NONE 0, STALE 1, VALID 2. -/
def fitStateCode : Option FitRecord → Nat
  | none => 0
  | some r => if r.valid then 2 else 1

/-- The code of a mode as a screen state or resume state. -/
def Mode.code : Mode → Nat
  | .down => 0
  | .signedOff => 1
  | .desk => 2
  | .edit => 3
  | .view => 4

/-- The code of a screen's role. -/
def Role.code : Role → Nat
  | .owner => 0
  | .viewer => 1

/-- The code of a prompt kind. -/
def Prompt.code : Prompt → Nat
  | .closed => 0
  | .signon => 1
  | .newSlug => 2
  | .openSlug => 3
  | .sendDesk => 4
  | .priority => 5
  | .pageRelease => 6
  | .pageAbort => 7
  | .spikeConfirm => 8
  | .superTake => 9
  | .superMoveSlug => 10
  | .superMoveDesk => 11

/-- The parity of a code. -/
def Parity.ofCode : Nat → Option Parity
  | 0 => some .none
  | 1 => some .even
  | 2 => some .odd
  | _ => Option.none

/-- The code of a line state. -/
def LineState.code : LineState → Nat
  | .off => 0
  | .up => 1
  | .dead => 2

/-- The code of a page's state; undefined is 0. -/
def PageState.code : PageState → Nat
  | .open_ => 1
  | .waiting => 2
  | .setting => 3
  | .set_ => 4

/-- The code of a failure cause. -/
def Cause.code : Cause → Nat
  | .aborted => 0
  | .linkErrors => 1
  | .linkLost => 2
  | .reset => 3

/-- The code of a link condition. -/
def LinkCond.code : LinkCond → Nat
  | .off => 0
  | .down => 1
  | .acquiring => 2
  | .up => 3

/-- The code of an output activity. -/
def Activity.code : Activity → Nat
  | .idle => 0
  | .setting => 1
  | .proving => 2

/-- The code of a current block's phase; R190 names none for a block never sent (log entry 10). -/
def BlockPhase.code : BlockPhase → Byte
  | .sending => 0
  | .sent => 1
  | .resendDue => 2
  | .unsent => Config.unsentBlockReport

/-- The code of a proof pattern. -/
def Pattern.code : Pattern → Nat
  | .p7 => 0
  | .p15 => 1
  | .fixed _ => 2

/-- The bits of a timebase code; continuous is `some none`. -/
def timebaseOfCode : Nat → Option (Option Nat)
  | 0 => some (some 65536)
  | 1 => some (some 1048576)
  | 2 => some (some 16777216)
  | 3 => some none
  | _ => none

/-- The code of a timebase. -/
def timebaseCode : Option Nat → Nat
  | none => 3
  | some bits => if bits = 65536 then 0 else if bits = 1048576 then 1 else 2

/-- The code of a proof state. -/
def ProofState.code : ProofState → Nat
  | .idle => 0
  | .starting => 1
  | .syncing => 2
  | .counting => 3

/-- The code of a proof's end cause. -/
def EndCause.code : EndCause → Nat
  | .done => 0
  | .stopped => 1
  | .lost => 2
  | .reset => 3

/-- The key functions in the order of their codes 0x01 to 0x1C (11.6). -/
def keyFns : List KeyFn :=
  [.insertEp, .rubout, .delete, .left, .right, .up, .down, .prev, .next, .top, .bottom, .enter, .cancel,
   .newStory, .openStory, .viewStory, .closeView, .file, .send, .spike, .note, .priority, .fit, .ack, .signoff,
   .release, .abort, .viewmode]

/-- The key map entry of a code: `some none` is unmapped, `none` is no code (11.6). -/
def keyEntryOfCode (code : Nat) : Option (Option KeyFn) :=
  if code = 0 then some none else (keyFns[code - 1]?).map some

/-- The strap's host line rate in bit/s (R1). -/
def hostRate (strap : BitVec 3) : Nat :=
  match strap.toNat with
  | 1 => 19200
  | 2 => 38400
  | 3 => 57600
  | 4 => 115200
  | 5 => 230400
  | 6 => 460800
  | _ => 9600

/-! ## Copy code, slugs and labels (R4, R5, R21, R46) -/

/-- End of paragraph. -/
def codeEp : Byte := 0x0A
/-- Note open. -/
def codeOpen : Byte := 0x0E
/-- Note close. -/
def codeClose : Byte := 0x0F
/-- The space. -/
def codeSpace : Byte := 0x20

/-- Whether a code is printable (R4). -/
def printable (c : Byte) : Bool := decide (0x20 ≤ c.toNat) && decide (c.toNat ≤ 0x7E)

/-- Whether a code is in one of the four classes of the copy code (R4). -/
def isCopyCode (c : Byte) : Bool := printable c || c == codeEp || c == codeOpen || c == codeClose

/-- A byte brought into the copy code (R5). -/
def toCopyCode (c : Byte) : Byte := if isCopyCode c then c else 0x3F

/-- How many bytes R5 replaces in a text. -/
def replacements (t : List Byte) : Nat := t.countP fun c => !isCopyCode c

/-- A letter a to z as upper case (R21). -/
def foldCase (c : Byte) : Byte := if 0x61 ≤ c.toNat ∧ c.toNat ≤ 0x7A then c - 0x20 else c

/-- Whether a code is a decimal digit. -/
def isDigit (c : Byte) : Bool := decide (0x30 ≤ c.toNat) && decide (c.toNat ≤ 0x39)

/-- Whether a code is a letter A to Z. -/
def isUpper (c : Byte) : Bool := decide (0x41 ≤ c.toNat) && decide (c.toNat ≤ 0x5A)

/-- Whether a code may stand in a slug after folding (R21). -/
def isSlugCode (c : Byte) : Bool := isUpper c || isDigit c || c == 0x2D

/-- Whether a code may stand in a desk's name or a page's label after folding (R47, R158). -/
def isNameCode (c : Byte) : Bool := isSlugCode c || c == codeSpace

/-- A slug folded and checked (R21). -/
def slugOf (t : List Byte) : Option (List Byte) :=
  let f := t.map foldCase
  if 1 ≤ f.length ∧ f.length ≤ 12 ∧ f.all isSlugCode then some f else none

/-- A desk's name folded and checked (R47). -/
def nameOf (t : List Byte) : Option (List Byte) :=
  let f := t.map foldCase
  if 1 ≤ f.length ∧ f.length ≤ 8 ∧ f.all isNameCode ∧ f.head? ≠ some codeSpace then some f else none

/-- A page's label folded and checked (R158). -/
def labelOf (t : List Byte) : Option (List Byte) :=
  let f := t.map foldCase
  if f.length ≤ 8 ∧ f.all isNameCode then some f else none

/-- The number that decimal digits spell. -/
def ofDigits (t : List Byte) : Nat := t.foldl (fun a c => a * 10 + (c.toNat - 48)) 0

/-! ## Clamping (R71, R3) -/

/-- The value of a range nearest to a value. -/
def clampTo (low high v : Nat) : Nat := max low (min v high)

/-- A style with each field clamped to its range (R71). -/
def clampStyle (y : Style) : Style where
  face := min y.face 7
  size := clampTo 10 144 y.size
  set := clampTo 10 144 y.set
  leading := clampTo 10 288 y.leading
  measure := clampTo 36 1008 y.measure
  indent := min y.indent 72

/-- The fields of `new` that a presence mask names, counted from bit 0, and those of `old` for the rest (R210). -/
def overlayStyle (mask : Nat) (old new : Style) : Style where
  face := if mask.testBit 0 then new.face else old.face
  size := if mask.testBit 1 then new.size else old.size
  set := if mask.testBit 2 then new.set else old.set
  leading := if mask.testBit 3 then new.leading else old.leading
  measure := if mask.testBit 4 then new.measure else old.measure
  indent := if mask.testBit 5 then new.indent else old.indent

/-- Whether a field named by the mask is clamped. -/
def styleClamped (mask : Nat) (y : Style) : Bool :=
  decide (overlayStyle mask (clampStyle y) y ≠ clampStyle y)

end Sys2Proof.Machine
end

