-- ==== Sys2Proof/Machine/Flags.lean ====
section
/-! DEFINITION. The twelve attention flags: raising, clearing and the notice rule (R205, R206, R207). -/

namespace Sys2Proof.Machine

/-- The attention flags (R205). -/
inductive Flag where
  | pageSet | pageFailed | linkChange | linkPoor | proofDone | proofAlarm | lineDown | lineError
  | deskOverdue | storeLow | frameError | storyOrphaned
deriving DecidableEq, Repr

/-- The bit of a flag in the flag mask (11.6). -/
def Flag.bit : Flag → Nat
  | .pageSet => 0
  | .pageFailed => 1
  | .linkChange => 2
  | .linkPoor => 3
  | .proofDone => 4
  | .proofAlarm => 5
  | .lineDown => 6
  | .lineError => 7
  | .deskOverdue => 8
  | .storeLow => 9
  | .frameError => 10
  | .storyOrphaned => 11

/-- The mask that holds one flag. -/
def Flag.mask (f : Flag) : BitVec 12 := 1#12 <<< f.bit

/-- Whether a flag is raised. -/
def HostLine.raised (h : HostLine) (f : Flag) : Bool := h.flags.getLsbD f.bit

/-- Whether a flag is enabled. -/
def HostLine.enabled (h : HostLine) (f : Flag) : Bool := h.enables.getLsbD f.bit

/-- The line or desk named in a report joins the flag's set (R205). -/
def HostLine.join (h : HostLine) (f : Flag) (member : Nat) : HostLine :=
  match f with
  | .lineDown => { h with lineDown := insertNum member h.lineDown }
  | .lineError => { h with lineError := insertNum member h.lineError }
  | .deskOverdue => { h with deskOverdue := insertNum member h.deskOverdue }
  | _ => h

/-- A notice falls due unless one is outstanding (R206). -/
def HostLine.notify (h : HostLine) : HostLine :=
  if h.outstanding then h else { h with outstanding := true, noticesDue := h.noticesDue + 1 }

/-- A flag rises; a rise from clear is what the notice rule looks at (R205, R206). -/
def HostLine.rise (h : HostLine) (f : Flag) : HostLine :=
  let up := { h with flags := h.flags ||| f.mask }
  if h.raised f then up else up.notify

/-- A block reports a raise: an enabled flag rises, a disabled one drops the report (R205). -/
def State.raise (s : State) (f : Flag) : State :=
  if s.host.enabled f then { s with host := s.host.rise f } else s

/-- A block reports a raise that names a line or a desk. -/
def State.raiseFor (s : State) (f : Flag) (member : Nat) : State :=
  if s.host.enabled f then { s with host := (s.host.rise f).join f member } else s

/-- The three error flags of a line cleared (R148). -/
def Line.clearErrors (l : Line) : Line := { l with overrun := false, parityError := false, framing := false }

/-- The flags of a mask cleared, with their sets; clearing LINE_ERROR clears every line's error flags (R205, R207, R148). -/
def State.clearFlags (s : State) (mask : BitVec 12) : State :=
  { s with
    host := { s.host with
      flags := s.host.flags &&& ~~~mask
      lineDown := if mask.getLsbD Flag.lineDown.bit then [] else s.host.lineDown
      lineError := if mask.getLsbD Flag.lineError.bit then [] else s.host.lineError
      deskOverdue := if mask.getLsbD Flag.deskOverdue.bit then [] else s.host.deskOverdue }
    lines := if mask.getLsbD Flag.lineError.bit then s.lines.map Line.clearErrors else s.lines }

end Sys2Proof.Machine
end

