-- ==== Sys2Proof/Machine/CopyStore.lean ====
section
/-! DEFINITION. The copy store: blocks, chains, the free stack and the five text primitives (R9 to R17). -/

namespace Sys2Proof.Machine

/-- The character count of a chain: the sum of its used counts (R9). -/
def Chain.count (c : Chain) : Nat := (c.map fun b => b.chars.length).sum

/-- The text of a chain, read block by block (R9). -/
def Chain.text (c : Chain) : List Byte := c.flatMap Block.chars

/-- The block numbers of a chain. -/
def Chain.nums (c : Chain) : List Nat := c.map Block.num

/-- A list with one code put in at a place. -/
def insertCode (p : Nat) (c : Byte) (l : List Byte) : List Byte := l.take p ++ c :: l.drop p

/-- The case of R12 for a target block `b` at block position p, with `rest` after it. -/
def insertAt (c : Byte) (free : List Nat) (b : Block) (p : Nat) (rest : Chain) : Option (Chain × List Nat) :=
  if b.chars.length < Config.blockSize then
    some (⟨b.num, insertCode p c b.chars⟩ :: rest, free)
  else
    match free with
    | [] => none
    | n :: free =>
      if p = b.chars.length then
        some (b :: ⟨n, [c]⟩ :: rest, free)
      else if p ≤ 31 then
        some (⟨b.num, insertCode p c (b.chars.take 32)⟩ :: ⟨n, b.chars.drop 32⟩ :: rest, free)
      else
        some (⟨b.num, b.chars.take 32⟩ :: ⟨n, insertCode (p - 32) c (b.chars.drop 32)⟩ :: rest, free)

/-- Insert one code at an offset of a chain, walking to the target block of R10; none when a block is needed and none is free
(R12 steps 2 and 3). -/
def Chain.insert (c : Byte) (free : List Nat) : Chain → Nat → Option (Chain × List Nat)
  | [], _ =>
    match free with
    | [] => none
    | n :: free => some ([⟨n, [c]⟩], free)
  | b :: rest, x =>
    if x < b.chars.length ∨ rest = [] then insertAt c free b (min x b.chars.length) rest
    else (Chain.insert c free rest (x - b.chars.length)).map fun r => (b :: r.1, r.2)

/-- Delete the code at an offset of a chain; a block that empties is unlinked and pushed (R13). -/
def Chain.delete (free : List Nat) : Chain → Nat → Chain × List Nat
  | [], _ => ([], free)
  | b :: rest, x =>
    if x < b.chars.length then
      if b.chars.length = 1 then (rest, b.num :: free) else (⟨b.num, b.chars.eraseIdx x⟩ :: rest, free)
    else
      let r := Chain.delete free rest (x - b.chars.length)
      (b :: r.1, r.2)

/-- Room in the last block of a chain (R14). -/
def Chain.room : Chain → Nat
  | [] => 0
  | [b] => Config.blockSize - b.chars.length
  | _ :: rest => Chain.room rest

/-- The blocks an append of n codes needs (R14). -/
def Chain.needed (c : Chain) (n : Nat) : Nat :=
  if n ≤ c.room then 0 else (n - c.room + (Config.blockSize - 1)) / Config.blockSize

/-- The last block of a chain with codes put after its own. -/
def Chain.fillLast (run : List Byte) : Chain → Chain
  | [] => []
  | [b] => [⟨b.num, b.chars ++ run⟩]
  | b :: rest => b :: Chain.fillLast run rest

/-- The run that follows the last block, cut into blocks of the numbers popped (R14). -/
def blocksOf : List Nat → List Byte → Chain
  | [], _ => []
  | n :: nums, run => ⟨n, run.take Config.blockSize⟩ :: blocksOf nums (run.drop Config.blockSize)

/-- An append that passes its checks (R14). -/
def Chain.append (c : Chain) (free : List Nat) (run : List Byte) : Chain × List Nat :=
  let k := c.needed run.length
  (c.fillLast (run.take c.room) ++ blocksOf (free.take k) (run.drop c.room), free.drop k)

/-- Release a chain: its blocks are pushed in chain order (R16). -/
def Chain.release (c : Chain) (free : List Nat) : List Nat := c.nums.reverse ++ free

/-! ## The primitives on the part's store -/

/-- The chain of a story. -/
def State.chain (s : State) (n : Nat) : Chain := s.store.chains.getD n []

/-- The text of a story. -/
def State.text (s : State) (n : Nat) : List Byte := (s.chain n).text

/-- The character count of a story. -/
def State.count (s : State) (n : Nat) : Nat := (s.chain n).count

/-- The free count (R9). -/
def State.freeCount (s : State) : Nat := s.store.free.length

/-- Whether the free count is below the store-low threshold (R17). -/
def State.storeLow (s : State) : Bool := decide (s.freeCount < Config.storeLow)

/-- Whether a screen is signed on at a desk (R51). -/
def Screen.signedOn (c : Screen) : Bool :=
  match c.mode with
  | .desk | .edit | .view => true
  | .down | .signedOff => false

/-- Mark every signed-on screen for a layout at the present time of day: the store-low mark, which each of them shows, comes or
goes (R17, R96). -/
def State.touchSignedOn (s : State) : State :=
  { s with screens := s.screens.map fun c => if c.signedOn then { c with layoutTime := s.clock.time } else c }

/-- The report of a move of the free count across the threshold, to a state from one that was below it or was not: a fall raises
STORE_LOW, and a fall and a return alike lay the signed-on screens out (R11, R17, R96). -/
def State.reportCrossing (s : State) (wasLow : Bool) : State :=
  if wasLow == s.storeLow then s
  else if s.storeLow then (s.raise .storeLow).touchSignedOn
  else s.touchSignedOn

/-- Put a primitive's result in place, and report a crossing of the threshold (R11, R17). -/
def State.putChain (s : State) (n : Nat) (c : Chain) (free : List Nat) : State :=
  { s with store := ⟨free, s.store.chains.set n c⟩ }.reportCrossing s.storeLow

/-- Insert one character of story n (R12). -/
def State.insertChar (s : State) (n x : Nat) (c : Byte) : Except Status State :=
  if Config.maxStory ≤ s.count n then .error .limit
  else
    match (s.chain n).insert c s.store.free x with
    | none => .error .storeFull
    | some (chain, free) => .ok (s.putChain n chain free)

/-- Delete one character of story n (R13); none when the offset is at or past the count. -/
def State.deleteChar (s : State) (n x : Nat) : Option State :=
  if x < s.count n then
    let r := (s.chain n).delete s.store.free x
    some (s.putChain n r.1 r.2)
  else none

/-- Append a run to story n (R14). -/
def State.appendRun (s : State) (n : Nat) (run : List Byte) : Except Status State :=
  if Config.maxStory < s.count n + run.length then .error .limit
  else if s.freeCount < (s.chain n).needed run.length then .error .storeFull
  else
    let r := (s.chain n).append s.store.free run
    .ok (s.putChain n r.1 r.2)

/-- Read a run of story n (R15). -/
def State.readRun (s : State) (n x len : Nat) : List Byte := ((s.text n).drop x).take len

/-- Release the chain of story n (R16). -/
def State.releaseChain (s : State) (n : Nat) : State :=
  s.putChain n [] ((s.chain n).release s.store.free)

end Sys2Proof.Machine
end

