-- ==== Sys2Proof/Machine/FitRule.lean ====
section
/-! DEFINITION. Notes (R7, R8) and the fit rule in its six stages (R72 to R78), which the fit engine, set view and the galley
composer all apply. -/

namespace Sys2Proof.Machine

/-! ## Notes -/

/-- What a code is for R7: outside any note, a note's open, content of a note, a note's closing close, a stray close, or an EP. -/
inductive CodeClass where
  | plain | noteOpen | inner | noteClose | stray | ep
deriving DecidableEq, Repr

/-- The class of a code, by whether it follows inside a note (R7). -/
def classify (inside : Bool) (c : Byte) : CodeClass :=
  if c = codeEp then .ep
  else if inside then (if c = codeClose then .noteClose else .inner)
  else if c = codeOpen then .noteOpen
  else if c = codeClose then .stray
  else .plain

/-- Whether the offset after a code is inside a note (R8). -/
def insideAfter (inside : Bool) (c : Byte) : Bool :=
  match classify inside c with
  | .noteOpen | .inner => true
  | _ => false

/-- The classes of a text's codes, from a place inside a note or not. -/
def classes : Bool → List Byte → List CodeClass
  | _, [] => []
  | inside, c :: t => classify inside c :: classes (insideAfter inside c) t

/-- Whether an offset of a text is inside a note (R8). -/
def insideNote (t : List Byte) (x : Nat) : Bool := (t.take x).foldl insideAfter false

/-! ## Stage 1: line capacity (R72) -/

/-- The line capacity U. -/
def capacity (y : Style) : Nat := y.measure * 36 / y.set

/-- The effective indent of a body style. -/
def effectiveIndent (y : Style) : Nat := if y.indent < capacity y then y.indent else 0

/-! ## Stage 2: paragraphs and words (R73) -/

/-- A paragraph: the offset at which it begins, and its codes outside notes with their offsets. -/
structure Paragraph where
  start : Nat
  codes : List (Nat × Byte)
deriving DecidableEq, Repr

/-- The paragraphs of a text from an offset on. `here` is the paragraph being read, present once one of its characters is. -/
def paragraphsFrom (x : Nat) (inside : Bool) (here : Option Paragraph) : List Byte → List Paragraph
  | [] => here.toList
  | c :: t =>
    let p := here.getD ⟨x, []⟩
    match classify inside c with
    | .ep => p :: paragraphsFrom (x + 1) false none t
    | .plain => paragraphsFrom (x + 1) false (some ⟨p.start, p.codes ++ [(x, c)]⟩) t
    | .stray | .noteClose => paragraphsFrom (x + 1) false (some p) t
    | .noteOpen | .inner => paragraphsFrom (x + 1) true (some p) t

/-- The paragraphs of a text. -/
def paragraphs (t : List Byte) : List Paragraph := paragraphsFrom 0 false none t

/-- The words of a paragraph: maximal runs of codes other than the space. -/
def wordsOf (codes : List (Nat × Byte)) : List (List (Nat × Byte)) :=
  (codes.splitOnP fun c => c.2 == codeSpace).filter fun w => !w.isEmpty

/-! ## Stage 3: filling lines (R74, R75) -/

/-- Kinds of a body line (R181). -/
inductive LineKind where
  | first | middle | last | blank
deriving DecidableEq, Repr

/-- A line that the rule gives: its text, its overfull mark, its kind and its start offset (R107). -/
structure SetLine where
  text : List Byte
  overfull : Bool
  kind : LineKind
  start : Nat
deriving DecidableEq, Repr

/-- Filling a paragraph: the lines ended, and the line being filled with its width w, its codes and its word count k. -/
structure Filling where
  ended : List SetLine
  w : Nat
  codes : List Byte
  start : Nat
  k : Nat
deriving DecidableEq, Repr

/-- The line being filled ends. Kinds are settled when the paragraph is whole. -/
def Filling.endLine (f : Filling) (overfull : Bool) : Filling :=
  ⟨f.ended ++ [⟨f.codes, overfull, .middle, f.start⟩], 0, [], 0, 0⟩

/-- A character joins the line being filled. -/
def Filling.put (f : Filling) (width : Nat) (c : Nat × Byte) : Filling :=
  { f with w := f.w + width, codes := f.codes ++ [c.2], start := if f.codes = [] then c.1 else f.start }

/-- One character of a word on a line that holds no other word (R75): placed while it fits; on a line that already holds some
of the word the line ends and the character is judged again; the first character of a line is placed even when it does not
fit, and the line ends overfull. -/
def Filling.putChar (widthOf : Byte → Nat) (capacity : Nat) (f : Filling) (c : Nat × Byte) : Filling :=
  let fits (g : Filling) : Bool :=
    decide (g.w + widthOf c.2 ≤ capacity) && decide (g.codes.length < Config.maxLineChars)
  if fits f then f.put (widthOf c.2) c
  else if f.codes = [] then (f.put (widthOf c.2) c).endLine true
  else
    let g := f.endLine false
    if fits g then g.put (widthOf c.2) c else (g.put (widthOf c.2) c).endLine true

/-- A word on a fresh line (R75). Placing its characters in turn places it whole exactly when it fits whole. -/
def Filling.freshWord (widthOf : Byte → Nat) (capacity : Nat) (f : Filling) (word : List (Nat × Byte)) : Filling :=
  let g := word.foldl (Filling.putChar widthOf capacity) f
  { g with k := if g.codes = [] then 0 else 1 }

/-- The next word of a paragraph (R74, R75). -/
def Filling.putWord (widthOf : Byte → Nat) (capacity : Nat) (f : Filling) (word : List (Nat × Byte)) : Filling :=
  if f.k = 0 then f.freshWord widthOf capacity word
  else
    let ww := (word.map fun c => widthOf c.2).sum
    let sp := widthOf codeSpace
    if f.w + sp + ww ≤ capacity ∧ f.codes.length + 1 + word.length ≤ Config.maxLineChars then
      { f with w := f.w + sp + ww, codes := f.codes ++ codeSpace :: word.map Prod.snd, k := f.k + 1 }
    else (f.endLine false).freshWord widthOf capacity word

/-- The kinds of a paragraph's lines (R181). -/
def setKinds (isFirst : Bool) : List SetLine → List SetLine
  | [] => []
  | [l] => [{ l with kind := if isFirst then .first else .last }]
  | l :: rest => { l with kind := if isFirst then .first else .middle } :: setKinds false rest

/-- The lines of one paragraph; a paragraph with no words is one blank line. -/
def paragraphLines (widthOf : Byte → Nat) (capacity indent : Nat) (p : Paragraph) : List SetLine :=
  match wordsOf p.codes with
  | [] => [⟨[], false, .blank, p.start⟩]
  | words =>
    let f := words.foldl (Filling.putWord widthOf capacity) ⟨[], indent, [], 0, 0⟩
    setKinds true (if f.codes = [] then f.ended else (f.endLine false).ended)

/-- Every line of a text, before any is cut off. -/
def allLines (widthOf : Byte → Nat) (capacity indent : Nat) (t : List Byte) : List SetLine :=
  (paragraphs t).flatMap (paragraphLines widthOf capacity indent)

/-! ## Stages 4 to 6: counts, headline and depth (R76 to R78) -/

/-- The width of a code in a face; codes that are not printable have none. -/
def Face.width (f : Face) (c : Byte) : Nat :=
  if !printable c then 0
  else if c.toNat < 0x50 then f.lower.getD (c.toNat - 0x20) 0
  else f.upper.getD (c.toNat - 0x50) 0

/-- Whether a face is defined (R68). -/
def Face.defined (f : Face) : Bool := f.lowerLoaded && f.upperLoaded

/-- The body lines that are counted: at most 4,095 (R76). -/
def bodyLines (f : Face) (y : Style) (t : List Byte) : List SetLine :=
  (allLines f.width (capacity y) (effectiveIndent y) t).take Config.maxLines

/-- Whether the body's line filling is cut off at 4,095 (R76). -/
def bodySaturates (f : Face) (y : Style) (t : List Byte) : Bool :=
  decide (Config.maxLines < (allLines f.width (capacity y) (effectiveIndent y) t).length)

/-- The headline's lines: the same rule with an indent of 0 (R77). -/
def headLines (f : Face) (h : Headline) : List SetLine := allLines f.width (capacity h.style) 0 h.text

/-- The figures of a fit. -/
structure FitFigures where
  lines : Nat
  heads : Nat
  overfull : Nat
  depth : Nat
  saturated : Bool
  bust : Bool
deriving DecidableEq, Repr

/-- How many lines are marked overfull. -/
def overfullCount (l : List SetLine) : Nat := l.countP fun x => x.overfull

/-- The fit of a text in a style with a headline (R76, R77). -/
def fitFigures (body : Face) (y : Style) (t : List Byte) (head : Option (Face × Headline)) : FitFigures :=
  let b := bodyLines body y t
  let h := match head with
    | some (f, x) => headLines f x
    | none => []
  let headDepth := match head with
    | some (_, x) => h.length * x.style.leading
    | none => 0
  let bust := match head with
    | some (_, x) => decide (x.maxLines < h.length)
    | none => false
  let sum := b.length * y.leading + headDepth
  { lines := b.length
    heads := h.length
    overfull := min Config.maxLines (overfullCount b + overfullCount h)
    depth := min Config.maxDepth sum
    saturated := bodySaturates body y t || decide (Config.maxDepth < sum)
    bust := bust }

/-- A depth in tenths of an inch, rounded half up (R78). -/
def depthTenths (depth : Nat) : Nat := (depth * 10 + 72) / 144

/-- A depth as "nnn.n" (R78). -/
def depthText (depth : Nat) : List Byte :=
  decimal (depthTenths depth / 10) ++ 0x2E :: decimal (depthTenths depth % 10)

end Sys2Proof.Machine
end

