-- ==== Sys2Proof/Machine/Ops.lean ====
section
/-! DEFINITION. The named operations over the part's tables: reading and updating records, and what the rules ask of them most. -/

namespace Sys2Proof.Machine

/-! ## Reading and updating the tables -/

/-- The story of a number; none while its record is EMPTY. -/
def State.story (s : State) (n : Nat) : Option Story := s.stories.getD n none

/-- Change a story's record. -/
def State.updStory (s : State) (n : Nat) (f : Story → Story) : State :=
  { s with stories := s.stories.modify n (Option.map f) }

/-- The desk of a number; none while it is undefined. -/
def State.desk (s : State) (d : Nat) : Option Desk := s.desks.getD d none

/-- The basket of a desk. -/
def State.basket (s : State) (d : Nat) : List Entry := s.baskets.getD d []

/-- Change a desk's basket. -/
def State.updBasket (s : State) (d : Nat) (f : List Entry → List Entry) : State :=
  { s with baskets := s.baskets.modify d f }

/-- The screen of a number. -/
def State.screen (s : State) (n : Nat) : Screen := s.screens.getD n .reset

/-- Change a screen's context. -/
def State.updScreen (s : State) (n : Nat) (f : Screen → Screen) : State :=
  { s with screens := s.screens.modify n f }

/-- The line of a number. -/
def State.line (s : State) (n : Nat) : Line := s.lines.getD n .reset

/-- Change a line's record. -/
def State.updLine (s : State) (n : Nat) (f : Line → Line) : State :=
  { s with lines := s.lines.modify n f }

/-- The page of a number; none while it is undefined. -/
def State.page (s : State) (p : Nat) : Option Page := s.pages.getD p none

/-- Change a page's record. -/
def State.updPage (s : State) (p : Nat) (f : Page → Page) : State :=
  { s with pages := s.pages.modify p (Option.map f) }

/-- The face of a number. -/
def State.face (s : State) (f : Nat) : Face := s.fit.faces.getD f .reset

/-- The profile of a number. -/
def State.profile (s : State) (p : Nat) : Profile := s.profiles.getD p .basic

/-- The number of the profile that a line's configuration names; 0 while the line is OFF (log entry 4). -/
def State.lineProfile (s : State) (n : Nat) : Nat :=
  match (s.line n).config with
  | some c => c.profile
  | none => 0

/-- An operation taken for every screen number in ascending order. -/
def State.overScreens (s : State) (f : State → Nat → State) : State := (List.range Config.lines).foldl f s

/-! ## Finding -/

/-- The slug map: the number of the non-EMPTY story that has a slug (R21). -/
def State.findSlug (s : State) (slug : List Byte) : Option Nat :=
  (List.range Config.stories).find? fun n => (s.story n).any fun t => t.slug == slug

/-- The lowest-numbered EMPTY record (R20). -/
def State.emptyRecord (s : State) : Option Nat :=
  (List.range Config.stories).find? fun n => (s.story n).isNone

/-- The orphans of a desk in ascending order of story number (R55). -/
def State.orphans (s : State) (d : Nat) : List Nat :=
  (List.range Config.stories).filter fun n =>
    (s.story n).any fun t => t.state == .open_ && t.owner.isNone && t.desk == d

/-- The stories of a desk's basket view: its entries in basket order, then its orphans (R55, R101). -/
def State.basketView (s : State) (d : Nat) : List Nat := (s.basket d).map Entry.story ++ s.orphans d

/-- Whether a desk's basket has room for one more entry (R52). -/
def State.roomAt (s : State) (d : Nat) : Bool := decide ((s.basket d).length < Config.basketSize)

/-- The overdue count of a desk (R61). -/
def State.overdue (s : State) (d : Nat) : Nat := (s.basket d).countP fun e => e.escalated

/-- The basket entry of a story, in the basket of the desk its record names (R19, R22). -/
def State.entryOf (s : State) (n : Nat) : Option Entry :=
  (s.story n).bind fun t => (s.basket t.desk).find? fun e => e.story == n

/-- The age of an entry at a time of day (R59). -/
def ageAt (time entryTime : Nat) : Nat := (time + Config.day - entryTime) % Config.day

/-- Whether a story's body face, and its headline's face if it has a headline, are defined (R68, R86). -/
def State.facesDefined (s : State) (t : Story) : Bool :=
  (s.face t.style.face).defined && t.head.all fun h => (s.face h.style.face).defined

/-- The lines of a story by the fit rule: its headline's and its body's (R107, R181). -/
def State.setLines (s : State) (n : Nat) (t : Story) : List SetLine × List SetLine :=
  ((t.head.map fun h => headLines (s.face h.style.face) h).getD [],
   bodyLines (s.face t.style.face) t.style (s.text n))

/-! ## Screens and desks -/

/-- Whether a screen is signed on at desk d (R51). -/
def Screen.signedOnAt (c : Screen) (d : Nat) : Bool := c.signedOn && c.desk == some d

/-- Whether a screen's layout is computed: it is neither DOWN nor BLANKED (R96). -/
def Screen.laidOut (c : Screen) : Bool := c.mode != .down && !c.blanked

/-- The story of a screen, as owner or viewer. -/
def Screen.storyNo (c : Screen) : Option Nat := c.story.map Prod.fst

/-- Whether a screen shows story n as owner or viewer (R80). -/
def Screen.showsStory (c : Screen) (n : Nat) : Bool := c.storyNo == some n

/-- The edit rows of a screen (R96). -/
def Screen.editRows (c : Screen) : Nat := c.profile.rows - 2

/-- The desk record of the desk a screen is signed on at. -/
def State.deskOf (s : State) (c : Screen) : Option Desk := c.desk.bind s.desk

/-- Mark a screen for a layout at the present time of day (R96). -/
def State.touchScreen (s : State) (n : Nat) : State :=
  s.updScreen n fun c => { c with layoutTime := s.clock.time }

/-- Mark every screen signed on at a desk (R54). -/
def State.touchDesk (s : State) (d : Nat) : State :=
  { s with screens := s.screens.map fun c =>
      if c.signedOnAt d then { c with layoutTime := s.clock.time } else c }

/-- Mark every screen that shows a story, and the screens of the story's desk (R80). -/
def State.touchStory (s : State) (n : Nat) : State :=
  let t := { s with screens := s.screens.map fun c =>
      if c.showsStory n then { c with layoutTime := s.clock.time } else c }
  match s.story n with
  | some st => t.touchDesk st.desk
  | none => t

/-- Mark every screen (R96, R204). -/
def State.touchAll (s : State) : State :=
  { s with screens := s.screens.map fun c => { c with layoutTime := s.clock.time } }

/-! ## Replies -/

/-- A refusal: the state as it was, and a body of the status alone (R3, R202). -/
def refuse (s : State) (status : Status) : State × List Byte := (s, [status.code])

/-- A reply of a status and fields (R202). -/
def answer (s : State) (status : Status) (fields : List Byte) : State × List Byte := (s, status.code :: fields)

end Sys2Proof.Machine
end

