-- ==== Sys2Proof/Machine/Layout.lean ====
section
/-! DEFINITION. What a screen shows: type rows, set rows, the basket view, the status row, the message row and the cursor
(R96 to R107). -/

namespace Sys2Proof.Machine

/-! ## Type rows (R103) -/

/-- The place of the last code of a list that is a space. -/
def lastSpace (l : List Byte) : Option Nat :=
  (l.reverse.findIdx? (· == codeSpace)).map fun i => l.length - 1 - i

/-- The length of the type row that starts where `rest` does. -/
def typeRowLen (cols : Nat) (rest : List Byte) : Nat :=
  match (rest.take cols).findIdx? (· == codeEp) with
  | some i => i + 1
  | none =>
    if rest.length ≤ cols then rest.length
    else
      match lastSpace (rest.take cols) with
      | some i => i + 1
      | none => cols

/-- The row starts below the character count, from an offset on; `fuel` is at least the number of characters left. -/
def typeStartsFrom (cols : Nat) : Nat → Nat → List Byte → List Nat
  | 0, _, _ => []
  | _ + 1, _, [] => []
  | fuel + 1, x, rest =>
    x :: typeStartsFrom cols fuel (x + typeRowLen cols rest) (rest.drop (typeRowLen cols rest))

/-- The row starts of a text: those below the count, and the count itself when an empty last row stands there. -/
def typeStarts (cols : Nat) (t : List Byte) : List Nat :=
  let starts := typeStartsFrom cols t.length 0 t
  let lastLen := t.length - starts.getLastD 0
  if t = [] ∨ t.getLast? = some codeEp ∨ lastLen = cols then starts ++ [t.length] else starts

/-- The number of the row in which an offset lies. -/
def rowOf (starts : List Nat) (x : Nat) : Nat := starts.countP (· ≤ x) - 1

/-- The start of a row. -/
def startOf (starts : List Nat) (i : Nat) : Nat := starts.getD i 0

/-- An offset snapped to the start of the type row in which it lies (R106). -/
def snap (cols : Nat) (t : List Byte) (x : Nat) : Nat :=
  startOf (typeStarts cols t) (rowOf (typeStarts cols t) x)

/-! ## Rows of glyphs -/

/-- Codes in one attribute. -/
def glyphs (attr : Attr) (t : List Byte) : Row := t.map fun c => ⟨c, attr⟩

/-- A row with glyphs put at a column, cut to the row. -/
def putAt (row : Row) (col : Nat) (g : Row) : Row :=
  (row.take col ++ g ++ row.drop (col + g.length)).take row.length

/-- A text right aligned in a width. -/
def rightAlign (width : Nat) (t : List Byte) : List Byte := List.replicate (width - t.length) codeSpace ++ t

/-- A text left aligned in a width. -/
def leftAlign (width : Nat) (t : List Byte) : List Byte := t ++ List.replicate (width - t.length) codeSpace

/-- A code of the text as TYPE view shows it (R104). -/
def textGlyph (k : CodeClass) (c : Byte) : Glyph :=
  match k with
  | .plain => ⟨c, .normal⟩
  | .ep => ⟨0x3C, .dim⟩
  | .noteOpen => ⟨0x5B, .note⟩
  | .inner => ⟨if c = codeOpen then 0x5B else c, .note⟩
  | .noteClose => ⟨0x5D, .note⟩
  | .stray => ⟨0x5D, .alert⟩

/-- A text as TYPE view shows it, code by code. -/
def textGlyphs (t : List Byte) : Row := List.zipWith textGlyph (classes false t) t

/-- A set row (R107). -/
def setRow (cols : Nat) (l : SetLine) : Row :=
  let attr := if l.overfull then Attr.alert else .normal
  if cols < l.text.length then glyphs attr (l.text.take (cols - 1) ++ [0x2B]) else glyphs attr l.text

/-! ## The edit region -/

/-- The type rows from the row whose start is the viewport top (R103, R104). -/
def typeView (cols rows top : Nat) (t : List Byte) : List Row :=
  let starts := typeStarts cols t
  let g := textGlyphs t
  (List.range rows).map fun i =>
    let j := rowOf starts top + i
    if j < starts.length then
      let a := startOf starts j
      putAt (blankRow cols .normal) 0 ((g.drop a).take (starts.getD (j + 1) t.length - a))
    else blankRow cols .normal

/-- The set rows from the set top (R107). -/
def setView (cols rows top : Nat) (l : List SetLine) : List Row :=
  (List.range rows).map fun i =>
    match l[top + i]? with
    | some x => putAt (blankRow cols .normal) 0 (setRow cols x)
    | none => blankRow cols .normal

/-- A row of the basket view (R101). -/
def basketRow (s : State) (cols time : Nat) (d n : Nat) : Row :=
  match s.story n with
  | none => blankRow cols .normal
  | some t =>
    let entry := (s.basket d).find? fun e => e.story == n
    let age := match entry with
      | some e => rightAlign 4 (decimal (ageAt time e.time / 60))
      | none => []
    let stale := match t.fit with
      | some r => if r.valid then [] else [0x7E]
      | none => []
    let depth := match t.fit with
      | some r => rightAlign 5 (depthText r.depth)
      | none => []
    let row := putAt (blankRow cols .normal) 0 (glyphs .normal [t.priority.letter])
    let row := putAt row 2 (glyphs .normal t.slug)
    let row := putAt row 15 (glyphs .normal age)
    let row := putAt row 20 (glyphs .normal stale)
    let row := putAt row 21 (glyphs .normal depth)
    let row := if t.state = .setting then putAt row 27 (glyphs .setmark (str "SET")) else row
    let row := if entry.any (·.escalated) then putAt row 31 (glyphs .normal [0x21]) else row
    if entry.isNone then putAt row 33 (glyphs .normal (str "ORPHAN")) else row

/-- A whole row in SELECT. -/
def selectRow (row : Row) : Row := row.map fun g => { g with attr := .select }

/-- The basket view's edit region (R101). -/
def basketRows (s : State) (c : Screen) (time : Nat) (d : Nat) : List Row :=
  let cols := c.profile.cols
  let view := s.basketView d
  (List.range c.editRows).map fun i =>
    match view[c.basketTop + i]? with
    | some n =>
      let row := basketRow s cols time d n
      if c.selection.any (fun x => x.1 == n) then selectRow row else row
    | none =>
      if view = [] ∧ i = 0 then putAt (blankRow cols .normal) 0 (glyphs .dim (str "NO COPY"))
      else blankRow cols .normal

/-- The edit region of a screen (R96, R101, R103, R107). -/
def editRegion (s : State) (c : Screen) (time : Nat) : List Row :=
  let cols := c.profile.cols
  let blank := List.replicate c.editRows (blankRow cols .normal)
  match c.mode with
  | .down | .signedOff => blank
  | .desk => match c.desk with
    | some d => basketRows s c time d
    | none => blank
  | .edit | .view =>
    match c.storyNo.bind fun n => (s.story n).map fun t => (n, t) with
    | none => blank
    | some (n, t) =>
      if c.setView then
        let l := s.setLines n t
        setView cols c.editRows c.setTop (l.1 ++ l.2)
      else typeView cols c.editRows c.top (s.text n)

/-! ## The status row (R97) -/

/-- The fit display's text and whether it is of a STALE fit. -/
def fitDisplay (r : FitRecord) : List Byte :=
  let tilde := if r.valid then [] else [0x7E]
  let plus := if r.saturated then [0x2B] else []
  tilde ++ str "L=" ++ decimal r.lines ++ plus ++ codeSpace :: (tilde ++ depthText r.depth ++ str " IN")

/-- Marks one space apart. -/
def joinMarks : List (List Byte) → Row
  | [] => []
  | [m] => glyphs .alert m
  | m :: rest => glyphs .alert m ++ ⟨codeSpace, .strip⟩ :: joinMarks rest

/-- The marks field of a width: every mark if they all fit, and otherwise the longest leading run that ends before the last
column, which holds '*'. -/
def marksField (width : Nat) (marks : List (List Byte)) : Row :=
  if (joinMarks marks).length ≤ width then joinMarks marks
  else
    let fitting := (List.range marks.length).filter fun k => (joinMarks (marks.take k)).length ≤ width - 1
    let run := joinMarks (marks.take (fitting.getLastD 0))
    run ++ List.replicate (width - 1 - run.length) ⟨codeSpace, .strip⟩ ++ [⟨0x2A, .alert⟩]

/-- The marks of a signed-on screen, in order. -/
def marksOf (s : State) (c : Screen) : List (List Byte) :=
  let late := (c.desk.map s.overdue).getD 0
  let story := c.storyNo.bind s.story
  (if c.newMark then [str "NEW"] else [])
    ++ (if 1 ≤ late then [str "OVERDUE " ++ decimal late] else [])
    ++ (if s.storeLow then [str "STORE LOW"] else [])
    ++ (if story.any (fun t => t.fit.any (·.bust)) then [str "HED BUST"] else [])
    ++ (if story.any (fun t => !s.facesDefined t) then [str "NO FACE"] else [])

/-- A time of day as HH:MM. -/
def clockText (time : Nat) : List Byte :=
  twoDigits (time / 3600) ++ 0x3A :: twoDigits (time / 60 % 60)

/-- The status row; a screen signed on at no desk shows only the time (R96, R97). -/
def statusRow (s : State) (c : Screen) (time : Nat) : Row :=
  let cols := c.profile.cols
  let row := putAt (blankRow cols .strip) (cols - 5) (glyphs .strip (clockText time))
  if !c.signedOn then row
  else
    let row := match s.deskOf c with
      | some d => putAt row 0 (glyphs .strip d.name)
      | none => row
    let row := match c.desk with
      | some d => putAt row (cols - 8) (glyphs .strip (rightAlign 2 (decimal (s.basket d).length)))
      | none => row
    let row := putAt row 51 (marksField (cols - 60) (marksOf s c))
    match c.storyNo.bind s.story with
    | none => row
    | some t =>
      let row := putAt row 9 (glyphs .strip t.slug)
      let row := putAt row 22 (glyphs .strip [t.priority.letter])
      let row := putAt row 24 (glyphs .strip t.state.name)
      match t.fit with
      | none => row
      | some r =>
        if r.valid then putAt row 32 (glyphs .strip (fitDisplay r))
        else putAt row 32 (glyphs .stale (leftAlign 18 (fitDisplay r)))

/-! ## The message row (R98, R123) -/

/-- The label of a prompt (R123). -/
def Prompt.label : Prompt → List Byte
  | .closed => []
  | .signon => str "SIGN ON:"
  | .newSlug => str "NEW SLUG:"
  | .openSlug => str "SLUG:"
  | .sendDesk => str "TO DESK:"
  | .priority => str "PRIORITY 0-3:"
  | .pageRelease => str "RELEASE PAGE:"
  | .pageAbort => str "ABORT PAGE:"
  | .spikeConfirm => str "SPIKE? Y:"
  | .superTake => str "TAKE SLUG:"
  | .superMoveSlug => str "MOVE SLUG:"
  | .superMoveDesk => str "MOVE TO DESK:"

/-- A prompt's label and buffer; the SIGNON buffer shows its first two characters and '*' for the rest. -/
def promptText (c : Screen) : List Byte :=
  c.prompt.label ++
    (if c.prompt = .signon then c.buffer.take 2 ++ List.replicate (c.buffer.length - 2) 0x2A else c.buffer)

/-- The host message while its pending-acknowledge flag is set. -/
def Screen.shownHostMessage (c : Screen) : Option (List Byte) :=
  match c.hostMessage with
  | some (t, true) => some t
  | _ => none

/-- The message row. -/
def messageRow (c : Screen) : Row :=
  let row := blankRow c.profile.cols .strip
  match c.shownHostMessage with
  | some t => putAt row 0 (glyphs .alert t)
  | none =>
    match c.partMessage with
    | some t => putAt row 0 (glyphs .strip t)
    | none =>
      if c.prompt ≠ .closed then putAt row 0 (glyphs .strip (promptText c))
      else if c.mode = .signedOff then putAt row 0 (glyphs .strip (str "SIGN ON"))
      else row

/-! ## The whole layout and the cursor -/

/-- Every row of a screen as laid out at a time of day (R96). -/
def layoutAt (s : State) (c : Screen) (time : Nat) : List Row :=
  editRegion s c time ++ [statusRow s c time, messageRow c]

/-- Where the text cursor is shown in TYPE view (R105). -/
def textCursor (s : State) (c : Screen) : Option (Nat × Nat) :=
  match c.mode, c.setView, c.storyNo with
  | .edit, false, some n | .view, false, some n =>
    let starts := typeStarts c.profile.cols (s.text n)
    let r := rowOf starts c.cursor
    let a := rowOf starts c.top
    if a ≤ r ∧ r < a + c.editRows then some (r - a, c.cursor - startOf starts r) else none
  | _, _, _ => none

/-- Where the cursor is shown, if it is (R105). -/
def cursorPlace (s : State) (c : Screen) : Option (Nat × Nat) :=
  if !c.laidOut then none
  else if c.prompt ≠ .closed ∧ c.shownHostMessage = none then
    some (c.profile.rows - 1, min (promptText c).length (c.profile.cols - 1))
  else textCursor s c

/-- The paint list: the rows whose latest layout differs from the screen image (R108). -/
def Screen.paint (c : Screen) : List Nat :=
  (List.range (max c.layout.length c.image.length)).filter fun r => c.layout[r]? != c.image[r]?

end Sys2Proof.Machine
end

