-- ==== Sys2Proof/Machine/Screens.lean ====
section
/-! DEFINITION. The screen engine's own operations: bells, messages, prompts, blanking, repaint, the settling of selections and
viewports, the layout after each command, and the choice of what each line sends next (R92, R98 to R116). -/

namespace Sys2Proof.Machine

/-! ## Bells and messages (R98, R115) -/

/-- One bell made pending, in any state but DOWN, and at most 4 (R115). -/
def Screen.bell (c : Screen) : Screen := if c.mode = .down then c else { c with bells := min 4 (c.bells + 1) }

/-- One bell made pending at screen n. -/
def State.bell (s : State) (n : Nat) : State := s.updScreen n Screen.bell

/-- A part message replaces any held, and lays the screen out (R96, R98). -/
def State.tell (s : State) (n : Nat) (msg : List Byte) : State :=
  s.updScreen n fun c => { c with partMessage := some msg, layoutTime := s.clock.time }

/-- A refusal at a screen: its message and one bell (R122). -/
def State.deny (s : State) (n : Nat) (msg : List Byte) : State := (s.tell n msg).bell n

/-- A part message for each screen signed on at a composing desk, with no bell (R99). -/
def State.tellComposing (s : State) (msg : List Byte) : State :=
  { s with screens := s.screens.map fun c =>
      if c.signedOn && (s.deskOf c).any (·.composing) then { c with partMessage := some msg, layoutTime := s.clock.time }
      else c }

/-! ## Ringing (R64, R65, R115) -/

/-- Ringing stops: the timer is off and no ring bell is due. -/
def Screen.stopRinging (c : Screen) : Screen := { c with ringTimer := none, ringDue := false }

/-- A screen's whole ring list is emptied (R65). -/
def Screen.emptyRing (c : Screen) : Screen := { c with ring := [] }.stopRinging

/-- A story leaves a screen's ring list (R65). -/
def Screen.leaveRing (n : Nat) (c : Screen) : Screen :=
  if c.ring.contains n then
    let d := { c with ring := c.ring.filter (· != n) }
    if d.ring = [] then d.stopRinging else d
  else c

/-- A story leaves every ring list (R54, R65). -/
def State.leaveRings (s : State) (n : Nat) : State := { s with screens := s.screens.map (Screen.leaveRing n) }

/-- The ring interval that a screen's line's profile gives now (R94, R115). -/
def State.ringInterval (s : State) (n : Nat) : Nat := (s.profile (s.lineProfile n)).ringInterval

/-- A FLASH story joins the tail of a screen's ring list, and the screen begins to ring if it was not ringing (R64, R115). -/
def State.joinRing (s : State) (n story : Nat) : State :=
  s.updScreen n fun c =>
    if c.ring.contains story then c
    else if c.ring = [] then
      { c with ring := [story], ringDue := true, ringTimer := some (s.ringInterval n) }
    else { c with ring := c.ring ++ [story] }

/-! ## Prompts (R123, R125) -/

/-- A prompt is closed with no operation asked. -/
def Screen.closePrompt (c : Screen) : Screen := { c with prompt := .closed, buffer := [], promptArg := none }

/-- An event from outside the screen's keys closes the prompt and clears the escape count (R125). -/
def Screen.breakOff (c : Screen) : Screen := { c.closePrompt with escape := 0 }

/-- A prompt is opened with what its buffer holds at first. -/
def Screen.openPrompt (p : Prompt) (buffer : List Byte) (c : Screen) : Screen :=
  { c with prompt := p, buffer := buffer, promptArg := none }

/-! ## Viewports and view modes (R103, R106, R107) -/

/-- The viewport top of a screen in TYPE view snapped to the start of its type row (R106). A screen in SET view keeps its viewport top
at the start of the set top's line (R107) until it drops to TYPE, also where its profile is replaced (R94, R143; log entry 44:
DESIGN CHOICE). -/
def snapTop (s : State) (c : Screen) : Screen :=
  match c.storyNo with
  | some n => if c.setView then c else { c with top := snap c.profile.cols (s.text n) c.top }
  | none => c

/-- A screen in SET view drops, or switches, to TYPE view (R107). -/
def dropToType (s : State) (c : Screen) : Screen :=
  if c.setView then snapTop s { c with setView := false, setTop := 0 } else c

/-- Every screen that shows story n in SET view drops to TYPE view (R80, R107). -/
def State.dropSetViews (s : State) (n : Nat) : State :=
  { s with screens := s.screens.map fun c => if c.showsStory n then dropToType s c else c }

/-! ## Idle timer, repaint and profiles (R93, R94, R111, R113) -/

/-- A timer loaded with a limit, of which 0 means off (R113). -/
def loadIdle (limit : Nat) : Option Nat := if limit = 0 then none else some limit

/-- The idle limit of screen n's line. -/
def State.idleLimit (s : State) (n : Nat) : Nat :=
  match (s.line n).config with
  | some c => c.idleLimit
  | none => 0

/-- A full repaint: the clear-screen code is due and the image is blank; the layout that follows fills the paint list (R111). -/
def Screen.repaint (time : Nat) (c : Screen) : Screen :=
  { c with clearDue := true, image := blankRows c.profile.rows c.profile.cols, layoutTime := time }

/-- The screen takes the profile its line names (R94, R143). -/
def State.adopt (s : State) (n : Nat) (c : Screen) : Screen :=
  { c with profileNo := s.lineProfile n, profile := s.profile (s.lineProfile n) }

/-- A screen that is neither DOWN nor BLANKED takes the profile its line names, with a full repaint (R94, R143). -/
def State.reprofile (s : State) (n : Nat) : State :=
  s.updScreen n fun c => if c.laidOut then snapTop s ((s.adopt n c).repaint s.clock.time) else c

/-- A BLANKED screen wakes to its resume state (R114). -/
def State.wake (s : State) (n : Nat) : State :=
  s.updScreen n fun c =>
    if c.blanked then
      snapTop s ({ s.adopt n c with blanked := false, idle := loadIdle (s.idleLimit n) }.repaint s.clock.time)
    else c

/-- A screen comes UP into SIGNED_OFF, with its idle timer loaded and a full repaint (R92, R143, R154). -/
def State.comeUp (s : State) (n : Nat) : State :=
  s.updScreen n fun c =>
    { s.adopt n c with mode := .signedOff, blanked := false, idle := loadIdle (s.idleLimit n) }.repaint s.clock.time

/-! ## Moving between states (R92) -/

/-- The story, cursor, viewport top and set top are dropped and the view mode is TYPE (R92). -/
def Screen.dropStory (c : Screen) : Screen :=
  { c with story := none, cursor := 0, top := 0, setTop := 0, setView := false }

/-- A screen enters DESK at a desk, with the first item of its basket view selected (R92). -/
def State.enterDesk (s : State) (n d : Nat) : State :=
  s.updScreen n fun c =>
    { c.dropStory with
      mode := .desk, desk := some d, basketTop := 0, selection := (s.basketView d).head?.map fun x => (x, 0) }

/-- A screen enters DESK at the desk it is signed on at. -/
def State.backToDesk (s : State) (n : Nat) : State :=
  match (s.screen n).desk with
  | some d => s.enterDesk n d
  | none => s

/-- A screen enters EDIT or VIEW of a story at its start (R92). -/
def State.enterStory (s : State) (n story : Nat) (role : Role) : State :=
  s.updScreen n fun c =>
    { c.dropStory with
      mode := match role with
        | .owner => .edit
        | .viewer => .view
      story := some (story, role), selection := none, basketTop := 0 }

/-- A screen leaves a story's viewer set (R24). -/
def State.leaveViewers (s : State) (n story : Nat) : State :=
  s.updStory story fun t => { t with viewers := eraseNum n t.viewers }

/-- A screen that views a story leaves its viewer set (R24). -/
def State.stopViewing (s : State) (n : Nat) : State :=
  match (s.screen n).story with
  | some (story, .viewer) => s.leaveViewers n story
  | _ => s

/-- Sign-off of a screen in DESK or VIEW, BLANKED or not (R116). -/
def State.signOff (s : State) (n : Nat) : State :=
  (s.stopViewing n).updScreen n fun c =>
    { (c.dropStory.breakOff.emptyRing) with
      mode := .signedOff, desk := none, selection := none, basketTop := 0, newMark := false
      partMessage := none, bells := 0, layoutTime := s.clock.time }

/-! ## The basket selection (R102) -/

/-- The selection after step 1 of R102. -/
def settleSelection (view : List Nat) (selection : Option (Nat × Nat)) : Option (Nat × Nat) :=
  match selection with
  | none => view.head?.map fun n => (n, 0)
  | some (n, i) =>
    match view.findIdx? (· == n) with
    | some j => some (n, j)
    | none =>
      let j := min i (view.length - 1)
      view[j]?.map fun m => (m, j)

/-- The basket top after steps 2 and 3 of R102, with E edit rows and N items. -/
def settleTop (editRows items : Nat) (selection : Option (Nat × Nat)) (top : Nat) : Nat :=
  let top := match selection with
    | some (_, i) => if i < top then i else if top + editRows ≤ i then i + 1 - editRows else top
    | none => top
  min top (items - editRows)

/-- The selection and basket top of a screen in DESK, settled against its desk's basket view (R102). -/
def settleBasket (s : State) (c : Screen) : Screen :=
  match c.mode, c.desk with
  | .desk, some d =>
    let view := s.basketView d
    let sel := settleSelection view c.selection
    { c with selection := sel, basketTop := settleTop c.editRows view.length sel c.basketTop }
  | _, _ => c

/-- A change of a desk's basket or orphans is laid out on every screen signed on at the desk (R54, R55). -/
def State.reportDesk (s : State) (d : Nat) : State :=
  { s with screens := s.screens.map fun c =>
      if c.signedOnAt d && c.laidOut then settleBasket s { c with layoutTime := s.clock.time } else c }

/-! ## The layout after a command (R96, R108, R109) -/

/-- One screen laid out: at the present time if anything it shows has changed since its latest layout, and otherwise as that
layout stands (R96). The cursor address falls due when the cursor's place changes (R109). -/
def layOut (s : State) (c : Screen) : Screen :=
  if !c.laidOut then { c with layout := c.image, cursorAt := none }
  else
    let c := settleBasket s c
    let time := if layoutAt s c c.layoutTime = c.layout then c.layoutTime else s.clock.time
    { c with
      layout := layoutAt s c time
      layoutTime := time
      cursorAt := cursorPlace s c
      cursorDue := c.cursorDue || cursorPlace s c != c.cursorAt }

/-- Every screen laid out. -/
def State.layOutAll (s : State) : State := { s with screens := s.screens.map (layOut s) }

/-! ## What a line sends (R109, R110, R112) -/

/-- The attribute code of a logical attribute. -/
def Profile.attrCode (p : Profile) (a : Attr) : Byte :=
  p.attrCodes.getD (match a with
    | .normal => 0
    | .note => 1
    | .strip => 2
    | .alert => 3
    | .select => 4
    | .stale => 5
    | .setmark => 6
    | .dim => 7) 0

/-- The attribute sequence (R112). -/
def Profile.attrSeq (p : Profile) (a : Attr) : List Byte := [p.attrLead, p.attrCode a]

/-- A cursor address (R93, R110). -/
def Profile.cursorAddress (p : Profile) (row col : Nat) : List Byte :=
  [p.cursorLead, byte row + p.rowOffset, byte col + p.colOffset]

/-- Glyphs as codes, each attribute run preceded by its sequence; a NORMAL sequence follows a last run of another attribute. -/
def glyphCodes (p : Profile) : Option Attr → Row → List Byte
  | some .normal, [] | none, [] => []
  | some _, [] => p.attrSeq .normal
  | at_, g :: rest =>
    (if at_ = some g.attr then [] else p.attrSeq g.attr) ++ g.ch :: glyphCodes p (some g.attr) rest

/-- The columns of a row up to the last that is not a space in NORMAL (R110). -/
def trimRow (row : Row) : Row := (row.reverse.dropWhile (· == ⟨codeSpace, .normal⟩)).reverse

/-- The codes of a row transmission (R110). -/
def rowCodes (p : Profile) (r : Nat) (row : Row) : List Byte :=
  p.cursorAddress r 0 ++ glyphCodes p none (trimRow row) ++ [p.eorCode]

/-- The row to send first: the cursor row if it is in the paint list, and otherwise the lowest (R108). -/
def Screen.firstRow (c : Screen) : Option Nat :=
  match c.cursorAt with
  | some (r, _) => if c.paint.contains r then some r else c.paint.head?
  | none => c.paint.head?

/-- The next item of a screen whose line's transmitter can take one, and the screen after taking it (R109). -/
def nextItem (c : Screen) : Option Item × Screen :=
  if c.clearDue then (some ⟨.clear, [c.profile.clearCode]⟩, { c with clearDue := false })
  else if 0 < c.bells then
    (some ⟨.bells, List.replicate c.bells c.profile.bellCode⟩, { c with bells := 0 })
  else
    match (if c.blanked then none else c.firstRow) with
    | some r =>
      let row := c.layout.getD r []
      (some ⟨.row r, rowCodes c.profile r row⟩, { c with image := c.image.set r row })
    | none =>
      match (if c.cursorDue then c.cursorAt else none) with
      | some (r, col) =>
        (some ⟨.cursor, c.profile.cursorAddress r col⟩, { c with cursorDue := false })
      | none =>
        let c := { c with cursorDue := false }
        if c.ringDue then (some ⟨.ring, [c.profile.bellCode]⟩, { c with ringDue := false })
        else (none, c)

/-! ## The transmitter (R145, R155) -/

/-- A code as a line sends it: 7 data bits drop the top bit (R145). -/
def LineConfig.sent (c : LineConfig) (code : Byte) : Byte := if c.dataBits = 7 then code &&& 0x7F else code

/-- The count of mark bits of a code. -/
def marks (c : Byte) : Nat := (List.range 8).countP fun i => c.getLsbD i

/-- The level of the parity bit of a code, where the format has one (R145). -/
def LineConfig.parityBit (c : LineConfig) (code : Byte) : List Bool :=
  let odd := marks (c.sent code) % 2 == 1
  match c.parity with
  | .none => []
  | .even => [odd]
  | .odd => [!odd]

/-- The frame of a code as sent: a start bit of space, the data lowest bit first, the parity bit, and stop bits of mark (R145). -/
def LineConfig.frame (c : LineConfig) (code : Byte) : List Bool :=
  false :: ((List.range c.dataBits).map (fun i => code.getLsbD i) ++ c.parityBit code ++ List.replicate c.stopBits true)

/-- The bit times of a frame, 9 to 12 (R145). -/
def LineConfig.frameBits (c : LineConfig) : Nat :=
  1 + c.dataBits + (if c.parity = .none then 0 else 1) + c.stopBits

/-- The bits in a second of a rate's code (R141, 11.6). -/
def bitRate (rate : Nat) : Nat := 1200 * 2 ^ rate

/-- The whole codes that a line sends in a tenth of a second (R145; log entry 15). -/
def LineConfig.codesPerTenth (c : LineConfig) : Nat := bitRate c.rate / (10 * c.frameBits)

/-- A code in the shift of a line, with its frame at the line's format. -/
def Line.shifting (l : Line) (code : Byte) : Shifting := ⟨code, (l.config.map fun c => c.frame code).getD []⟩

/-- A code as it stands in a line's buffer. -/
def Line.sent (l : Line) (code : Byte) : Byte := (l.config.map fun c => c.sent code).getD code

/-- The levels on a line's transmit data: the frame in the shift, or mark at rest (R145, R155). -/
def Line.wire (l : Line) : List Bool := (l.shift.map Shifting.frame).getD [true]

/-- The code in the buffer moves into the shift, and the screen engine puts the item's next code into the buffer (R155). -/
def Line.shiftOn (l : Line) : Line :=
  { l with shift := l.buffer.map l.shifting, buffer := l.unfed.head?.map l.sent, unfed := l.unfed.drop 1 }

/-- The shift has finished its code, or was empty: the code in the buffer moves in, unless it is the item's last, whose move is
TRANSMISSION_COMPLETE; with nothing behind it the shift is empty (R155). -/
def Line.codeEnds (l : Line) : Line :=
  if l.unfed ≠ [] then l.shiftOn else if l.buffer.isSome then l else { l with shift := none }

/-- The transmitter is handed an item: its first code goes into the buffer, and on into a shift that is empty (R155). -/
def Line.takeItem (l : Line) (i : Item) : Line :=
  let t := { l with item := some i, buffer := i.codes.head?.map l.sent, unfed := i.codes.drop 1 }
  if l.shift.isNone then t.codeEnds else t

/-- The transmitter abandons its item; a code in the shift finishes on the wire (R144, R150). -/
def Line.abandon (l : Line) : Line := { l with item := none, unfed := [], buffer := none }

/-- The item's last code moves into the shift, and the transmitter can take a new item (R155). -/
def Line.itemEnds (l : Line) (i : Item) : Line :=
  { l.abandon with shift := i.codes.getLast?.map fun c => l.shifting (l.sent c) }

/-- A line whose transmitter can take an item takes the next one of its screen (R109, R155). -/
def startItem (l : Line) (c : Screen) : Line × Screen :=
  if l.state = .up ∧ l.item = none then
    match nextItem c with
    | (some i, d) => (l.takeItem i, d)
    | (none, d) => (l, d)
  else (l, c)

/-- Every free transmitter takes its next item. -/
def State.startItems (s : State) : State :=
  { s with
    lines := s.lines.mapIdx fun n l => (startItem l (s.screen n)).1
    screens := s.screens.mapIdx fun n c => (startItem (s.line n) c).2 }

/-- The end of every command: each screen is laid out, and each free transmitter takes its next item. -/
def State.settle (s : State) : State := s.layOutAll.startItems

/-! ## Commands of the screen engine -/

/-- The idle timer of a screen expires: the screen becomes BLANKED (R113). -/
def blank (c : Screen) : Screen :=
  { c with
    blanked := true, idle := none, clearDue := true
    image := blankRows c.profile.rows c.profile.cols }

/-- IDLE_TIMER_EXPIRY (R113). An idle timer that is off does not expire (R2). -/
def execIdleTimerExpiry (n : Fin 32) (s : State) : Host.Outcome State Fault Refusal :=
  .next (s.updScreen n fun c => if c.idle.isSome && c.laidOut then blank c else c).settle

/-- RING_TIMER_EXPIRY (R115). A ring timer that is off does not expire (R2). -/
def execRingTimerExpiry (n : Fin 32) (s : State) : Host.Outcome State Fault Refusal :=
  .next (s.updScreen n fun c =>
    if c.ringTimer.isNone then c
    else if c.ring = [] then c.stopRinging
    else { c with ringDue := true, ringTimer := some (s.ringInterval n) }).settle

/-- TRANSMISSION_COMPLETE (R155): the last code moves into the shift and the transmitter can take a new item. After a row or a
clear-screen the cursor address is due (R109). -/
def execTransmissionComplete (n : Fin 32) (s : State) : Host.Outcome State Fault Refusal :=
  match (s.line n).item with
  | none => .next s.settle
  | some i =>
    let t := s.updLine n fun l => l.itemEnds i
    let due := match i.kind with
      | .clear | .row _ => true
      | .bells | .cursor | .ring => false
    .next (t.updScreen n fun c => { c with cursorDue := c.cursorDue || due }).settle

/-! ## Requests of the screen engine -/

/-- The fields of PROFILE_DEFINE (R94) as carried; the key map as codes. -/
def readProfile : Rd (Nat × Profile × List Nat) := do
  let number ← readNat 1
  let rows ← readNat 1
  let cols ← readNat 1
  let cursorLead ← readByte
  let rowOffset ← readByte
  let colOffset ← readByte
  let clearCode ← readByte
  let eorCode ← readByte
  let attrLead ← readByte
  let attrCodes ← readBytes 8
  let bellCode ← readByte
  let superCode ← readByte
  let ringInterval ← readNat 4
  let keys ← readMany (readNat 1) 32
  return (number,
    ⟨rows, cols, cursorLead, rowOffset, colOffset, clearCode, eorCode, attrLead, attrCodes, bellCode, superCode,
      ringInterval, []⟩, keys)

/-- A profile's sizes clamped to their ranges (R93, R94). -/
def clampProfile (p : Profile) (keys : List (Option KeyFn)) : Profile :=
  { p with
    rows := clampTo 16 48 p.rows
    cols := clampTo 64 132 p.cols
    ringInterval := clampTo 5 50 p.ringInterval
    keyMap := keys }

/-- Whether screen n uses a profile (R93). -/
def State.usesProfile (s : State) (n p : Nat) : Bool :=
  match (s.line n).config with
  | some c => c.profile == p
  | none => false

/-- PROFILE_DEFINE (R94). -/
def reqProfileDefine (body : List Byte) (s : State) : State × List Byte :=
  match readBody readProfile body with
  | none => refuse s .badLength
  | some (number, carried, codes) =>
    match (if 3 < number then none else codes.mapM keyEntryOfCode) with
    | none => refuse s .badField
    | some keys =>
      if (List.range Config.lines).any fun n => s.usesProfile n number && (s.screen n).mode == .edit then
        refuse s .busy
      else
        let p := clampProfile carried keys
        let t := { s with profiles := s.profiles.set number p }
        let t := t.overScreens fun t n => if t.usesProfile n number then t.reprofile n else t
        answer t (okOr (decide (p ≠ { carried with keyMap := keys })))
          (be 1 p.rows ++ be 1 p.cols ++ be 4 p.ringInterval)

/-- The fields SCREEN_STATUS reports (R118). An absent host message takes the size of an empty text and its flag (log entry 53: DESIGN
CHOICE). -/
def screenReport (s : State) (n : Nat) : List Byte :=
  let c := s.screen n
  let message : List Byte × Bool → List Byte := fun m => textField 1 m.1 ++ flagByte m.2
  be 1 (if c.blanked then 5 else c.mode.code) ++ be 1 (if c.blanked then c.mode.code else 0)
    ++ be 1 c.profileNo ++ be 1 c.profile.rows ++ be 1 c.profile.cols
    ++ optField 1 (be 1) c.desk
    ++ optField 3 (fun x => be 2 x.1 ++ be 1 x.2.code) c.story
    ++ flagByte c.setView ++ be 2 c.cursor ++ be 2 c.top
    ++ be 1 c.prompt.code ++ be 1 c.buffer.length ++ be 1 c.escape
    ++ listField 1 (be 2) c.ring ++ flagByte c.newMark
    ++ optField 2 message c.hostMessage ++ flagByte c.partMessage.isSome
    ++ optField 4 (be 4) c.idle ++ optField 4 (be 4) c.grace
    ++ be 1 c.paint.length
    ++ flagByte ((s.line n).item.any fun i => match i.kind with
      | .row _ => true
      | _ => false)

/-- SCREEN_STATUS (R118). -/
def reqScreenStatus (body : List Byte) (s : State) : State × List Byte :=
  match readBody (readNat 1) body with
  | none => refuse s .badLength
  | some n => if 31 < n then refuse s .badField else answer s .ok (screenReport s n)

/-- A host message for a screen that is not DOWN: a text becomes the message with one bell, no text withdraws it, and either lays
the screen out (R96, R100). -/
def takeMessage (time : Nat) (text : List Byte) (c : Screen) : Screen :=
  if text = [] then { c with hostMessage := c.hostMessage.map fun m => (m.1, false), layoutTime := time }
  else { c with hostMessage := some (text, true), layoutTime := time }.bell

/-- SCREEN_MESSAGE (R100). -/
def reqScreenMessage (body : List Byte) (s : State) : State × List Byte :=
  match readBody (do let set ← readNat 4; let t ← readText 1; return (set, t)) body with
  | none => refuse s .badLength
  | some (set, carried) =>
    if 80 < carried.length then refuse s .limit
    else
      let text := carried.map fun b => if printable b then b else 0x3F
      let named := membersOf Config.lines set
      let reached := named.filter fun n => (s.screen n).mode != .down
      let t := reached.foldl (fun t n => t.updScreen n (takeMessage s.clock.time text)) s
      answer t .ok (be 1 reached.length ++ be 1 (named.length - reached.length))

/-- SCREEN_SIGNOFF (R117). -/
def reqScreenSignoff (body : List Byte) (s : State) : State × List Byte :=
  match readBody (readNat 1) body with
  | none => refuse s .badLength
  | some n =>
    if 31 < n then refuse s .badField
    else
      match (s.screen n).mode with
      | .down | .edit => refuse s .badState
      | .signedOff => answer s .ok []
      | .desk | .view => answer ((s.signOff n).tell n (str "SIGNED OFF")) .ok []

end Sys2Proof.Machine
end

