-- ==== Sys2Proof/Machine/FitEngine.lean ====
section
/-! DEFINITION. The fit engine: stale fits and versions, the refit list, the fit queue, the pass, and the commands FACE_DEFINE,
FIT_QUIET, FIT_REQUEST, FIT_STATUS, REFIT_DUE and FIT_PASS_COMPLETE (R25, R68 to R70, R80 to R90). -/

namespace Sys2Proof.Machine

/-! ## Scheduling (R82) -/

/-- An entry put at its place in due-step order, after the entries of its own step (R82). -/
def placeRefit (e : RefitEntry) (l : List RefitEntry) : List RefitEntry :=
  l.takeWhile (fun x => x.due ≤ e.due) ++ e :: l.dropWhile (fun x => x.due ≤ e.due)

/-- A story is scheduled: its entry, if it has one, is removed, and a new one falls due on the (q + 1)th step after now. -/
def State.schedule (s : State) (n : Nat) : State :=
  { s with fit := { s.fit with
      refit := placeRefit ⟨n, s.clock.steps + s.fit.quiet + 1⟩ (s.fit.refit.filter fun e => e.story != n) } }

/-- A VALID fit record becomes STALE and keeps its figures; an absent one stays absent (R70, R80). -/
def Story.staleFit (t : Story) : Story := { t with fit := t.fit.map fun r => { r with valid := false } }

/-- A story's fit is stale and its refit is due: screens showing it in SET view drop to TYPE, and it is scheduled (R80). -/
def State.makeStale (s : State) (n : Nat) : State :=
  (((s.updStory n Story.staleFit).dropSetViews n).schedule n).touchStory n

/-- A change of a story's version (R25). -/
def State.versionChange (s : State) (n : Nat) : State :=
  (s.updStory n fun t => { t with version := t.version + 1 }).makeStale n

/-! ## The queue and the engine (R84 to R86) -/

/-- Whether a story is placed on a page. -/
def State.placed (s : State) (n : Nat) : Bool := (s.story n).any fun t => t.placement.isSome

/-- The story the engine takes: the earliest-joined placed one, or else the earliest-joined (R84). -/
def State.pickFit (s : State) : Option Nat :=
  match s.fit.queue.find? s.placed with
  | some n => some n
  | none => s.fit.queue.head?

/-- The longest a pass over n characters takes, in tenths (R87). -/
def passLimit (count : Nat) : Nat := 1 + (count + 2999) / 3000

/-- What the engine records at the start of a pass (R86). -/
def State.startPass (s : State) (n : Nat) (t : Story) : State :=
  { s with fit := { s.fit with
      pass := some
        { story := n
          version := t.version
          bodyGen := (s.face t.style.face).generation
          headGen := t.head.map fun h => (s.face h.style.face).generation
          elapsed := 0
          limit := passLimit (s.count n) } } }

/-- A story leaves the fit queue. -/
def State.leaveFitQueue (s : State) (n : Nat) : State :=
  { s with fit := { s.fit with queue := s.fit.queue.filter (· != n) } }

/-- The idle engine takes stories from the queue until one's faces are defined or the queue is empty; `fuel` is the queue's
length (R86). -/
def State.engineTakeFor : Nat → State → State
  | 0, s => s
  | fuel + 1, s =>
    if s.fit.pass.isSome then s
    else
      match s.pickFit with
      | none => s
      | some n =>
        let t := s.leaveFitQueue n
        match t.story n with
        | none => State.engineTakeFor fuel t
        | some st => if t.facesDefined st then t.startPass n st else State.engineTakeFor fuel t

/-- The engine takes its next entry if it is IDLE (R86). -/
def State.engineTake (s : State) : State := State.engineTakeFor s.fit.queue.length s

/-- A story joins the tail of the fit queue, or keeps its place there, and an idle engine takes at once (R83, R85, R86). -/
def State.joinFitQueue (s : State) (n : Nat) : State :=
  (if s.fit.queue.contains n then s
   else { s with fit := { s.fit with queue := s.fit.queue ++ [n] } }).engineTake

/-- A story leaves the refit list. -/
def State.leaveRefit (s : State) (n : Nat) : State :=
  { s with fit := { s.fit with refit := s.fit.refit.filter fun e => e.story != n } }

/-- A story's fit is asked for at once (R85). -/
def State.fitNow (s : State) (n : Nat) : State := (s.leaveRefit n).joinFitQueue n

/-- A purged story leaves the refit list and the fit queue, and a pass on it is abandoned (R42, R87). -/
def State.forgetFit (s : State) (n : Nat) : State :=
  let t := (s.leaveRefit n).leaveFitQueue n
  (if t.fit.pass.any (fun p => p.story == n) then { t with fit := { t.fit with pass := none } } else t).engineTake

/-! ## The pass (R88) -/

/-- Whether a pass matches its story as it stands (R88). -/
def State.passMatches (s : State) (p : Pass) (t : Story) : Bool :=
  t.version == p.version && (s.face t.style.face).generation == p.bodyGen &&
    (p.headGen.all fun g => t.head.any fun h => (s.face h.style.face).generation == g)

/-- The figures of a story by the fit rule. -/
def State.storyFigures (s : State) (n : Nat) (t : Story) : FitFigures :=
  fitFigures (s.face t.style.face) t.style (s.text n) (t.head.map fun h => (s.face h.style.face, h))

/-- The record that a matching pass writes (R79, R88). -/
def fitRecordOf (p : Pass) (f : FitFigures) : FitRecord where
  valid := true
  lines := f.lines
  heads := f.heads
  overfull := f.overfull
  depth := f.depth
  saturated := f.saturated
  bust := f.bust
  basisVersion := p.version
  basisBody := p.bodyGen
  basisHead := p.headGen

/-- A pass completes: a match writes the record, a mismatch discards the figures, and the engine takes its next entry (R88). -/
def State.completePass (s : State) : State :=
  match s.fit.pass with
  | none => s
  | some p =>
    let t := { s with fit := { s.fit with pass := none } }
    (match s.story p.story with
      | some st =>
        if s.passMatches p st then
          (t.updStory p.story fun x =>
            { x with fit := some (fitRecordOf p (s.storyFigures p.story st)) }).touchStory p.story
        else t
      | none => t).engineTake

/-- FIT_PASS_COMPLETE (R88). With no pass under way nothing completes. -/
def execFitPassComplete (s : State) : Host.Outcome State Fault Refusal := .next s.completePass.settle

/-- The first entry of the refit list falls due, if its due step has come: an entry that a change moved ahead of this command does
not fall due at this step (R83). -/
def State.firstDue (s : State) : State :=
  match s.fit.refit with
  | [] => s
  | e :: rest =>
    if e.due ≤ s.clock.steps then ({ s with fit := { s.fit with refit := rest } }).joinFitQueue e.story else s

/-- REFIT_DUE (R83). -/
def execRefitDue (s : State) : Host.Outcome State Fault Refusal := .next s.firstDue.settle

/-! ## Requests of the fit engine -/

/-- The widths of one half loaded into a face (R69). -/
def Face.load (f : Face) (upper : Bool) (widths : List Nat) : Face :=
  if upper then { f with upper := widths, upperLoaded := true, generation := f.generation + 1 }
  else { f with lower := widths, lowerLoaded := true, generation := f.generation + 1 }

/-- Whether a story uses a face (R70). -/
def Story.usesFace (t : Story) (f : Nat) : Bool := t.style.face == f || t.head.any fun h => h.style.face == f

/-- The stories that use a face, in ascending order (R70). -/
def State.faceStories (s : State) (f : Nat) : List Nat :=
  (List.range Config.stories).filter fun n => (s.story n).any fun t => t.usesFace f

/-- Whether the setting queue holds a page or a page is SETTING (R69). -/
def State.pagesInHand (s : State) : Bool :=
  !s.settingQueue.isEmpty ||
    (List.range Config.pages).any fun p => (s.page p).any fun g => g.state == .setting

/-- A load of half a face (R69, R70): the state, and how many stories were made stale. -/
def State.loadFace (s : State) (f : Nat) (upper : Bool) (widths : List Nat) : State × Nat :=
  let t := { s with fit := { s.fit with faces := s.fit.faces.modify f fun x => x.load upper widths } }
  let users := t.faceStories f
  (users.foldl (fun t n => t.makeStale n) t,
   users.countP fun n => (s.story n).any fun x => x.fit.any (·.valid))

/-- FACE_DEFINE (R69). A body too short to hold a face and a half selector is refused BAD_LENGTH, whatever its first byte
(log entry 43: DESIGN CHOICE). -/
def reqFaceDefine (body : List Byte) (s : State) : State × List Byte :=
  match body with
  | face :: half :: rest =>
    let f := face.toNat
    if 7 < f ∨ 1 < half.toNat then refuse s .badField
    else
      match readBody (readList (readNat 1)) rest with
      | none => refuse s .badLength
      | some carried =>
        let upper := half.toNat == 1
        if carried.length ≠ (if upper then 47 else 48) then refuse s .badLength
        else if s.pagesInHand then refuse s .busy
        else
          let widths := carried.map (min Config.maxWidth)
          let (t, stale) := s.loadFace f upper widths
          answer t (okOr (decide (widths ≠ carried)))
            (be 1 f ++ be 1 half.toNat ++ be 4 (t.face f).generation.toNat ++ flagByte (t.face f).defined
              ++ be 2 stale ++ listField 1 (be 1) widths)
  | _ => refuse s .badLength

/-- FIT_QUIET (R81). -/
def reqFitQuiet (body : List Byte) (s : State) : State × List Byte :=
  match readBody (readNat 4) body with
  | none => refuse s .badLength
  | some q =>
    let stored := min q 50
    answer { s with fit := { s.fit with quiet := stored } } (okOr (decide (stored ≠ q))) (be 4 stored)

/-- FIT_REQUEST (R85). -/
def reqFitRequest (body : List Byte) (s : State) : State × List Byte :=
  match readBody (readNat 2) body with
  | none => refuse s .badLength
  | some n =>
    if 511 < n then refuse s .badField
    else
      match s.story n with
      | none => refuse s .noSuch
      | some t => answer (s.fitNow n) .ok (be 1 (fitStateCode t.fit))

/-- The fields FIT_STATUS reports (R89). -/
def fitReport (s : State) : List Byte :=
  be 1 (if s.fit.pass.isSome then 1 else 0) ++ be 2 ((s.fit.pass.map Pass.story).getD 0)
    ++ be 4 s.fit.quiet
    ++ be 2 s.fit.refit.length ++ listField 1 (be 2) ((s.fit.refit.take 16).map RefitEntry.story)
    ++ be 2 s.fit.queue.length ++ be 2 (s.fit.queue.countP s.placed) ++ listField 1 (be 2) (s.fit.queue.take 16)
    ++ s.fit.faces.flatMap fun f => flagByte f.defined ++ be 4 f.generation.toNat

/-- FIT_STATUS (R89). -/
def reqFitStatus (body : List Byte) (s : State) : State × List Byte :=
  match readBody readNothing body with
  | none => refuse s .badLength
  | some _ => answer s .ok (fitReport s)

end Sys2Proof.Machine
end

