-- ==== Sys2Proof/Machine/Desks.lean ====
section
/-! DEFINITION. The desk unit: basket entries, arrival alerting, filing, escalation, and the commands TIME_OF_DAY_ADVANCE,
TIME_SET, DESK_DEFINE, DESK_ROUTE and DESK_LIST (R46 to R66, R204). -/

namespace Sys2Proof.Machine

/-! ## Arrivals (R53, R63 to R66) -/

/-- One screen alerted for an arrival of a priority (R63). -/
def State.alertScreen (s : State) (n story : Nat) (p : Priority) : State :=
  match p with
  | .flash => (s.joinRing n story).wake n
  | .bulletin => s.bell n
  | .urgent | .routine => s.updScreen n fun c => { c with newMark := true }

/-- Every screen signed on at the desk alerted, but for the screen whose key caused the arrival (R63). -/
def State.alert (s : State) (d story : Nat) (p : Priority) (cause : Option Nat) : State :=
  s.overScreens fun t n =>
    if (t.screen n).signedOnAt d && cause != some n then t.alertScreen n story p else t

/-- The rank of an entry's class: its story's priority, FLASH 0 (R52). -/
def State.rank (s : State) (e : Entry) : Nat :=
  match s.story e.story with
  | some t => t.priority.code
  | none => 3

/-- An entry put at the tail of its class (R53). -/
def placeEntry (rank : Entry → Nat) (e : Entry) (l : List Entry) : List Entry :=
  l.takeWhile (fun x => rank x ≤ rank e) ++ e :: l.dropWhile (fun x => rank x ≤ rank e)

/-- A story enters the basket of its desk with a fresh entry, as an arrival; the caller has seen that there is room (R53). -/
def State.enterBasket (s : State) (n : Nat) (cause : Option Nat) : State :=
  match s.story n with
  | none => s
  | some t =>
    let u := s.updBasket t.desk (placeEntry s.rank ⟨n, s.clock.time, false⟩)
    (u.alert t.desk n t.priority cause).reportDesk t.desk

/-- A story becomes QUEUED, without an owner, with a fresh entry in its desk's basket (R22, R28). -/
def State.toQueued (s : State) (n : Nat) (cause : Option Nat) : State :=
  ((s.updStory n fun t => { t with state := .queued, owner := none }).enterBasket n cause).touchStory n

/-- A story leaves its desk's basket and every ring list (R54). -/
def State.leaveBasket (s : State) (n : Nat) : State :=
  match s.story n with
  | none => s
  | some t => ((s.updBasket t.desk fun l => l.filter fun e => e.story != n).leaveRings n).reportDesk t.desk

/-- A story that loses its owner is filed at its own desk, or becomes an orphan and STORY_ORPHANED is raised (R31). -/
def State.autoFile (s : State) (n : Nat) : State :=
  match s.story n with
  | none => s
  | some t =>
    if s.roomAt t.desk then s.toQueued n none
    else (((s.updStory n fun x => { x with owner := none }).raise .storyOrphaned).reportDesk t.desk).touchStory n

/-! ## Escalation (R59 to R61) -/

/-- A priority one class up, for the classes that escalate. -/
def Priority.up : Priority → Priority
  | .routine => .urgent
  | .urgent => .bulletin
  | .bulletin => .bulletin
  | .flash => .flash

/-- One entry escalated (R60). -/
def State.escalate (s : State) (d n : Nat) : State :=
  match (s.basket d).find? fun e => e.story == n with
  | none => s
  | some e =>
    let u := s.updStory n fun t => { t with priority := t.priority.up }
    let u := u.updBasket d fun l => placeEntry u.rank { e with escalated := true } (l.filter fun x => x.story != n)
    let u := (u.raiseFor .deskOverdue d).reportDesk d
    if (u.story n).any (fun t => t.priority == .bulletin) then
      { u with screens := u.screens.map fun c => if c.signedOnAt d then c.bell else c }
    else u

/-- Whether an entry of a desk with wait limit L escalates at a check (R59). -/
def State.escalates (s : State) (limit : Nat) (e : Entry) : Bool :=
  !e.escalated && decide (2 ≤ s.rank e) && decide (60 * limit ≤ ageAt s.clock.time e.time)

/-- The stories of a basket that escalate at a check, in basket order. -/
def State.overdueStories (s : State) (d : Nat) : List Nat :=
  match s.desk d with
  | none => []
  | some k => if k.waitLimit = 0 then [] else ((s.basket d).filter (s.escalates k.waitLimit)).map Entry.story

/-- The escalation check of every basket (R59). -/
def State.escalationCheck (s : State) : State :=
  (List.range Config.desks).foldl (fun t d => (t.overdueStories d).foldl (fun u n => u.escalate d n) t) s

/-- The clock one second on (R204). -/
def Clock.nextSecond (c : Clock) : Clock := ⟨c.steps, (c.time + 1) % Config.day, 10⟩

/-- A layout of every screen when the displayed minute changes (R204). -/
def State.showMinute (s : State) : State := if s.clock.time % 60 == 0 then s.touchAll else s

/-- The time of day advances by one second, with its escalation check and, at a new minute, a layout of every screen (R204). -/
def State.advance (s : State) : State :=
  { s with clock := s.clock.nextSecond }.escalationCheck.showMinute

/-- TIME_OF_DAY_ADVANCE (R204). -/
def execTimeOfDayAdvance (s : State) : Host.Outcome State Fault Refusal := .next s.advance.settle

/-! ## Requests -/

/-- An entry's time moved with the time of day, so that its age stays (R204). -/
def Entry.moveTime (old new : Nat) (e : Entry) : Entry :=
  { e with time := (e.time + (new + Config.day - old)) % Config.day }

/-- The time of day becomes a value: entry times move with it and the screens are laid out again (R62, R204). -/
def State.setTime (s : State) (v : Nat) : State :=
  let moved := s.baskets.map fun (l : List Entry) => l.map (Entry.moveTime s.clock.time v)
  { s with clock := ⟨s.clock.steps, v, 10⟩, baskets := moved }.touchAll

/-- TIME_SET (R204). -/
def reqTimeSet (body : List Byte) (s : State) : State × List Byte :=
  match readBody (readNat 4) body with
  | none => refuse s .badLength
  | some v => if Config.day ≤ v then refuse s .badField else answer (s.setTime v) .ok (be 4 v)

/-- The fields of DESK_DEFINE (R47) as carried. -/
structure DeskFields where
  number : Nat
  name : List Byte
  code : List Byte
  attrs : Nat
  waitLimit : Nat
  style : Style
deriving DecidableEq, Repr

/-- The layout of DESK_DEFINE. -/
def readDesk : Rd DeskFields := do
  let number ← readNat 1
  let name ← readText 1
  let code ← readText 1
  let attrs ← readNat 1
  let waitLimit ← readNat 4
  let style ← readStyle
  return ⟨number, name, code, attrs, waitLimit, style⟩

/-- A desk's record after a DESK_DEFINE with its name folded: a first definition has an empty routing, a redefinition keeps it
(R47). -/
def deskAfter (old : Option Desk) (f : DeskFields) (name : List Byte) : Desk where
  name := name
  code := f.code
  supervisor := f.attrs.testBit 0
  composing := f.attrs.testBit 1
  route := old.bind Desk.route
  allowed := (old.map Desk.allowed).getD []
  waitLimit := min f.waitLimit 240
  style := clampStyle f.style

/-- DESK_DEFINE (R47, R48). -/
def reqDeskDefine (body : List Byte) (s : State) : State × List Byte :=
  match readBody readDesk body with
  | none => refuse s .badLength
  | some f =>
    match (if 15 < f.number ∨ f.code.length ≠ 4 ∨ !f.code.all isDigit ∨ 3 < f.attrs then none else nameOf f.name) with
    | none => refuse s .badField
    | some name =>
      let k := deskAfter (s.desk f.number) f name
      let t := { s with desks := s.desks.set f.number (some k) }.touchDesk f.number
      answer t (okOr (decide (k.waitLimit ≠ f.waitLimit ∨ k.style ≠ f.style))) (be 4 k.waitLimit ++ styleField k.style)

/-- DESK_ROUTE (R49). The desk's record changes, so the screens signed on there are laid out (R96). R49's checks do not name a flag
byte that is neither 0 nor 1: it is refused BAD_FIELD with the numbers, before NO_SUCH (log entry 48: DESIGN CHOICE). -/
def reqDeskRoute (body : List Byte) (s : State) : State × List Byte :=
  match readBody (do
      let number ← readNat 1
      let flag ← readNat 1
      let route ← readNat 1
      let allowed ← readNat 2
      return (number, flag, route, allowed)) body with
  | none => refuse s .badLength
  | some (number, flag, route, allowed) =>
    if 15 < number ∨ 1 < flag ∨ (flag = 1 ∧ 15 < route) then refuse s .badField
    else
      match s.desk number with
      | none => refuse s .noSuch
      | some k =>
        let set := membersOf Config.desks allowed
        if set.contains number ∨ (flag = 1 ∧ route = number) ∨ (flag = 1 ∧ !set.contains route) then
          refuse s .badField
        else
          let t := { s with desks := s.desks.set number (some { k with
            route := if flag = 1 then some route else none, allowed := set }) }
          answer (t.touchDesk number) .ok []

/-- The fields DESK_LIST reports of a defined desk (R50). -/
def deskReport (s : State) (d : Nat) (k : Desk) : List Byte :=
  let entry : Entry → List Byte := fun e =>
    be 2 e.story ++ be 1 (s.rank e) ++ be 4 e.time ++ flagByte e.escalated
      ++ flagByte ((s.story e.story).any fun t => t.state == .setting)
  let screens := (List.range Config.lines).filter fun n => (s.screen n).signedOnAt d
  be 1 1 ++ textField 1 k.name ++ be 1 ((if k.supervisor then 1 else 0) + (if k.composing then 2 else 0))
    ++ be 4 k.waitLimit ++ optField 1 (be 1) k.route ++ be 2 (maskOf k.allowed) ++ styleField k.style
    ++ be 1 (s.basket d).length ++ be 1 (s.overdue d) ++ be 2 (s.orphans d).length
    ++ be 4 (maskOf screens)
    ++ listField 1 entry (s.basket d) ++ listField 1 (be 2) ((s.orphans d).take 64)

/-- DESK_LIST (R50). -/
def reqDeskList (body : List Byte) (s : State) : State × List Byte :=
  match readBody (readNat 1) body with
  | none => refuse s .badLength
  | some d =>
    if 15 < d then refuse s .badField
    else
      match s.desk d with
      | none => answer s .ok (be 1 0)
      | some k => answer s .ok (deskReport s d k)

end Sys2Proof.Machine
end

