-- ==== Sys2Proof/Machine/Stories.lean ====
section
/-! DEFINITION. The story table: creation, text changes, and the transitions and host requests of stories (R19 to R45). -/

namespace Sys2Proof.Machine

/-! ## Text changes and the offsets of other screens (R25, R106) -/

/-- An offset of another screen after an insert of n characters at x (R106). -/
def afterInsert (x n off : Nat) : Nat := if x ≤ off then off + n else off

/-- An offset of another screen after a delete at x (R106). -/
def afterDelete (x off : Nat) : Nat := if x < off then off - 1 else off

/-- The owner's viewport top after its own insert at x (R106). -/
def topAfterInsert (x top : Nat) : Nat := if x < top then top + 1 else top

/-- How a text change moves one screen: the screen whose key made it moves only its viewport top here. -/
def Screen.followText (move ownTop : Nat → Nat) (own : Bool) (c : Screen) : Screen :=
  if own then { c with top := ownTop c.top } else { c with top := move c.top, cursor := move c.cursor }

/-- Every screen of a story follows a text change and snaps its viewport top (R106). -/
def State.followText (s : State) (story : Nat) (by_ : Option Nat) (move ownTop : Nat → Nat) : State :=
  { s with screens := s.screens.mapIdx fun n c =>
      if c.showsStory story then snapTop s (c.followText move ownTop (by_ == some n)) else c }

/-- A character inserted by the key of the owner screen (R12, R25, R106). -/
def State.keyInsert (s : State) (screen story x : Nat) (c : Byte) : Except Status State :=
  match s.insertChar story x c with
  | .error e => .error e
  | .ok t => .ok ((t.followText story (some screen) (afterInsert x 1) (topAfterInsert x)).versionChange story)

/-- A character deleted by the key of the owner screen; none where the text has none there (R13, R25, R106). -/
def State.keyDelete (s : State) (screen story x : Nat) : Option State :=
  (s.deleteChar story x).map fun t =>
    (t.followText story (some screen) (afterDelete x) (afterDelete x)).versionChange story

/-! ## Creation and clearing (R20, R42) -/

/-- A record as creation fills it (R20). -/
def newStory (slug : List Byte) (state : StoryState) (priority : Priority) (desk : Nat) (owner : Option Nat) (style : Style)
    (time : Nat) : Story where
  slug := slug
  state := state
  priority := priority
  desk := desk
  owner := owner
  viewers := []
  version := 0
  style := style
  head := none
  fit := none
  placement := none
  created := time
  setEdition := none

/-- A record is filled, or returned to EMPTY. -/
def State.setStory (s : State) (n : Nat) (t : Option Story) : State := { s with stories := s.stories.set n t }

/-! ## States of placed stories -/

/-- Whether a page is WAITING or SETTING. -/
def State.pageReleased (s : State) (p : Nat) : Bool :=
  (s.page p).any fun g => g.state == .waiting || g.state == .setting

/-- Whether a story's placement is on a page that is WAITING or SETTING. -/
def State.onReleasedPage (s : State) (t : Story) : Bool := t.placement.any fun x => s.pageReleased x.1

/-- Whether STORY_STYLE and STORY_HEAD are refused for a story (R39, R40). -/
def State.styleFixed (s : State) (t : Story) : Bool :=
  t.state == .setting || (t.state == .set_ && s.onReleasedPage t)

/-- A story's placement is cleared from the slot and from the record (R42, R159, R162). -/
def State.unplace (s : State) (n : Nat) : State :=
  match (s.story n).bind Story.placement with
  | none => s
  | some (p, k) =>
    (s.updPage p fun g => { g with slots := g.slots.map fun x => if x.num = k then { x with story := none } else x }).updStory n
      fun t => { t with placement := none }

/-! ## Screens that lose a story (R32, R33, R42) -/

/-- A screen that holds a grace drops it with the story, the cursor, the viewport top and the desk it left (R32, R33, R153). -/
def Screen.dropGrace (c : Screen) : Screen := { c.dropStory with desk := none, grace := none }

/-- A screen goes to DESK, or resumes there, with a message and its prompt closed (R33, R42, R125). -/
def State.sendToDesk (s : State) (n : Nat) (msg : List Byte) : State :=
  ((s.backToDesk n).updScreen n Screen.breakOff).tell n msg

/-- The owner's screen after its story is spiked by the host (R33). -/
def State.ownerSpiked (s : State) (n : Nat) : State :=
  if (s.screen n).grace.isSome then s.updScreen n Screen.dropGrace else s.sendToDesk n (str "SPIKED")

/-- The previous owner's screen after a take; the viewer set is judged as the taker has left it (R32). An owner put into VIEW keeps its
view mode and set top along with the cursor and viewport top that R32 and R92 name (log entry 24: DESIGN CHOICE). -/
def State.ownerTaken (s : State) (story owner : Nat) : State :=
  if (s.screen owner).grace.isSome then s.updScreen owner Screen.dropGrace
  else if Config.maxViewers ≤ ((s.story story).map fun t => t.viewers.length).getD 0 then
    s.sendToDesk owner (str "TAKEN")
  else
    ((s.updStory story fun t => { t with viewers := insertNum owner t.viewers }).updScreen owner fun c =>
      { c.breakOff with mode := .view, story := some (story, .viewer) }).tell owner (str "TAKEN")

/-! ## Transitions -/

/-- A story of state QUEUED, or an orphan, becomes OPEN at a screen (R27). -/
def State.toOpen (s : State) (n screen : Nat) : State :=
  match s.story n with
  | none => s
  | some t =>
    let u := if t.state = .queued then s.leaveBasket n else s
    ((u.updStory n fun x => { x with state := .open_, owner := some screen }).reportDesk t.desk).touchStory n

/-- A story becomes SPIKED (R33); the screen of its owner is the caller's. -/
def State.toSpiked (s : State) (n : Nat) : State :=
  match s.story n with
  | none => s
  | some t =>
    let u := if t.state = .queued then s.leaveBasket n else s
    ((u.updStory n fun x => { x with state := .spiked, owner := none }).reportDesk t.desk).touchStory n

/-- Whether a story may be spiked (R33). -/
def State.spikable (s : State) (t : Story) : Bool :=
  (t.state == .open_ || t.state == .queued) && !s.onReleasedPage t

/-- The path of STORY_MOVE and of the supervisor move for a defined target desk (R41, R58). -/
def State.moveStory (s : State) (n target : Nat) (cause : Option Nat) : Except Status State :=
  match s.story n with
  | none => .error .noSuch
  | some t =>
    if t.state ≠ .queued then .error .badState
    else if target = t.desk then .ok s
    else if !s.roomAt target then .error .full
    else .ok ((((s.leaveBasket n).updStory n fun x => { x with desk := target }).enterBasket n cause).touchStory n)

/-- The supervisor take of an OPEN story by a screen that owns none (R32, R139). -/
def State.take (s : State) (n screen : Nat) : State :=
  match s.story n with
  | none => s
  | some t =>
    let kept := (s.screen screen).story == some (n, .viewer)
    let u := s.stopViewing screen
    let u := match t.owner with
      | some p => u.ownerTaken n p
      | none => u
    let u := u.updStory n fun x => { x with owner := some screen }
    let u := if kept then u.updScreen screen fun c => { c with mode := .edit, story := some (n, .owner) }
      else u.enterStory screen n .owner
    (u.reportDesk t.desk).touchStory n

/-- A story is purged (R42). -/
def State.purge (s : State) (n : Nat) : State :=
  match s.story n with
  | none => s
  | some t =>
    let u := t.viewers.foldl (fun u v => u.sendToDesk v (str "PURGED")) s
    (((u.unplace n).releaseChain n).setStory n none).forgetFit n

/-- A SET story becomes QUEUED again (R43). -/
def State.revise (s : State) (n : Nat) : State := (s.toQueued n none).versionChange n

/-! ## Requests (R35 to R44) -/

/-- The judgement of a request that names a story by number and passes the checks of R35. -/
def withStory (n : Nat) (s : State) (k : Story → State × List Byte) : State × List Byte :=
  if 511 < n then refuse s .badField
  else
    match s.story n with
    | none => refuse s .noSuch
    | some t => k t

/-- The fields of STORY_LOAD as carried. -/
structure LoadFields where
  slug : List Byte
  desk : Nat
  priority : Nat
  mask : Nat
  style : Style
  text : List Byte
deriving DecidableEq, Repr

/-- The layout of STORY_LOAD. -/
def readLoad : Rd LoadFields := do
  let slug ← readText 1
  let desk ← readNat 1
  let priority ← readNat 1
  let mask ← readNat 2
  let style ← readStyle
  let text ← readText 2
  return ⟨slug, desk, priority, mask, style, text⟩

/-- A story enters its desk's basket as a load (R36 step 5), or the load is taken back. -/
def State.finishLoad (s : State) (n desk : Nat) : Except State State :=
  if s.roomAt desk then .ok ((s.enterBasket n none).schedule n)
  else .error ((s.releaseChain n).setStory n none)

/-- STORY_LOAD (R36). -/
def reqStoryLoad (body : List Byte) (s : State) : State × List Byte :=
  match readBody readLoad body with
  | none => refuse s .badLength
  | some f =>
    if 960 < f.text.length then refuse s .badLength
    else
      match slugOf f.slug, Priority.ofCode f.priority with
      | some slug, some priority =>
        if 15 < f.desk ∨ 64 ≤ f.mask then refuse s .badField
        else
          match s.desk f.desk with
          | none => refuse s .noSuch
          | some k =>
            if (s.findSlug slug).isSome then refuse s .duplicate
            else
              match s.emptyRecord with
              | none => refuse s .full
              | some n =>
                let style := overlayStyle f.mask k.style (clampStyle f.style)
                let record := newStory slug .queued priority f.desk none style s.clock.time
                match (s.setStory n (some record)).appendRun n (f.text.map toCopyCode) with
                | .error _ => refuse s .storeFull
                | .ok t =>
                  match t.finishLoad n f.desk with
                  | .error u => refuse u .full
                  | .ok u =>
                    answer u (okOr (styleClamped f.mask f.style))
                      (be 2 n ++ be 2 (u.count n) ++ be 2 (replacements f.text) ++ styleField style)
      | _, _ => refuse s .badField

/-- A run of one or more codes appended by the host (R37). -/
def State.hostAppend (s : State) (n : Nat) (run : List Byte) : Except Status State :=
  match s.appendRun n run with
  | .error e => .error e
  | .ok t => .ok ((t.followText n none (afterInsert (s.count n) run.length) id).versionChange n)

/-- STORY_APPEND (R37). The story number stands in front of the text (log entry 49: DESIGN CHOICE). -/
def reqStoryAppend (body : List Byte) (s : State) : State × List Byte :=
  match readBody (do let n ← readNat 2; let t ← readText 2; return (n, t)) body with
  | none => refuse s .badLength
  | some (n, text) =>
    if 1000 < text.length then refuse s .badLength
    else
      withStory n s fun t =>
        if t.state ≠ .queued then refuse s .badState
        else if text = [] then answer s .ok (be 2 (s.count n) ++ be 2 0)
        else
          match s.hostAppend n (text.map toCopyCode) with
          | .error e => refuse s e
          | .ok u => answer u .ok (be 2 (u.count n) ++ be 2 (replacements text))

/-- STORY_READ (R38). The body is the story number, the offset and the length, in that order (log entry 49: DESIGN CHOICE). -/
def reqStoryRead (body : List Byte) (s : State) : State × List Byte :=
  match readBody (do
      let n ← readNat 2
      let x ← readNat 2
      let len ← readNat 2
      return (n, x, len)) body with
  | none => refuse s .badLength
  | some (n, x, len) =>
    if 1000 < len then refuse s .badField
    else
      withStory n s fun t =>
        answer s .ok (be 2 (s.count n) ++ be 4 t.version.toNat ++ textField 2 (s.readRun n x len))

/-- STORY_STYLE (R39). The body is the story number, the mask and the six values in R39's order, which the mask's bits follow (log entry
49: DESIGN CHOICE). -/
def reqStoryStyle (body : List Byte) (s : State) : State × List Byte :=
  match readBody (do
      let n ← readNat 2
      let mask ← readNat 2
      let style ← readStyle
      return (n, mask, style)) body with
  | none => refuse s .badLength
  | some (n, mask, carried) =>
    if 64 ≤ mask then refuse s .badField
    else
      withStory n s fun t =>
        if s.styleFixed t then refuse s .badState
        else
          let style := overlayStyle mask t.style (clampStyle carried)
          let u := if style = t.style then s
            else (s.updStory n fun x => { x with style := style }).versionChange n
          answer u (okOr (styleClamped mask carried)) (styleField style)

/-- The fields of STORY_HEAD as carried. -/
structure HeadFields where
  number : Nat
  remove : Nat
  mask : Nat
  style : Style
  maxLines : Nat
  text : List Byte
deriving DecidableEq, Repr

/-- The layout of STORY_HEAD. -/
def readHead : Rd HeadFields := do
  let number ← readNat 2
  let remove ← readNat 1
  let mask ← readNat 2
  let style ← readHeadStyle
  let maxLines ← readNat 1
  let text ← readText 1
  return ⟨number, remove, mask, style, maxLines, text⟩

/-- The headline that a STORY_HEAD without the remove flag stores (R40). -/
def headAfter (t : Story) (f : HeadFields) : Headline :=
  let old := t.head.getD ⟨[], { t.style with indent := 0 }, 1⟩
  { text := f.text.map toCopyCode
    style := { overlayStyle (f.mask % 32) old.style (clampStyle f.style) with indent := 0 }
    maxLines := if f.mask.testBit 5 then clampTo 1 4 f.maxLines else old.maxLines }

/-- Whether a STORY_HEAD clamps a value it stores. -/
def headClamped (f : HeadFields) : Bool :=
  styleClamped (f.mask % 32) f.style || (f.mask.testBit 5 && clampTo 1 4 f.maxLines != f.maxLines)

/-- The fields of a STORY_HEAD reply: the replacement count, and the headline's stored values if it is present (11.6). -/
def headReply (repl : Nat) (h : Option Headline) : List Byte :=
  be 2 repl ++ optField 8 (fun x => headStyleField x.style ++ be 1 x.maxLines) h

/-- STORY_HEAD (R40). The story number stands in front of what R40 lists (log entry 49: DESIGN CHOICE). -/
def reqStoryHead (body : List Byte) (s : State) : State × List Byte :=
  match readBody readHead body with
  | none => refuse s .badLength
  | some f =>
    if 120 < f.text.length then refuse s .badLength
    else if 1 < f.remove ∨ 64 ≤ f.mask then refuse s .badField
    else
      withStory f.number s fun t =>
        if s.styleFixed t then refuse s .badState
        else
          let head := if f.remove = 1 then none else some (headAfter t f)
          let u := if head = t.head then s
            else (s.updStory f.number fun x => { x with head := head }).versionChange f.number
          if f.remove = 1 then answer u .ok (headReply 0 none)
          else answer u (okOr (headClamped f)) (headReply (replacements f.text) head)

/-- STORY_MOVE (R41). The body is the story number and the desk, in that order (log entry 49: DESIGN CHOICE). -/
def reqStoryMove (body : List Byte) (s : State) : State × List Byte :=
  match readBody (do let n ← readNat 2; let d ← readNat 1; return (n, d)) body with
  | none => refuse s .badLength
  | some (n, d) =>
    if 15 < d then refuse s .badField
    else
      withStory n s fun _ =>
        if (s.desk d).isNone then refuse s .noSuch
        else
          match s.moveStory n d none with
          | .error e => refuse s e
          | .ok u => answer u .ok []

/-- STORY_SPIKE (R33). -/
def reqStorySpike (body : List Byte) (s : State) : State × List Byte :=
  match readBody (readNat 2) body with
  | none => refuse s .badLength
  | some n =>
    withStory n s fun t =>
      if !s.spikable t then refuse s .badState
      else
        let u := s.toSpiked n
        answer (match t.owner with
          | some p => u.ownerSpiked p
          | none => u) .ok []

/-- STORY_PURGE (R42). -/
def reqStoryPurge (body : List Byte) (s : State) : State × List Byte :=
  match readBody (readNat 2) body with
  | none => refuse s .badLength
  | some n =>
    withStory n s fun t =>
      if t.state = .spiked ∨ (t.state = .set_ ∧ !s.onReleasedPage t) then answer (s.purge n) .ok []
      else refuse s .badState

/-- STORY_REVISE (R43). -/
def reqStoryRevise (body : List Byte) (s : State) : State × List Byte :=
  match readBody (readNat 2) body with
  | none => refuse s .badLength
  | some n =>
    withStory n s fun t =>
      if t.state ≠ .set_ then refuse s .badState
      else if s.edition.closed then refuse s .editionClosed
      else if s.onReleasedPage t then refuse s .badState
      else if !s.roomAt t.desk then refuse s .full
      else answer (s.revise n) .ok []

/-- The figures of a fit record, as reported (R79). -/
def fitFields (r : FitRecord) : List Byte :=
  be 2 r.lines ++ be 2 r.heads ++ be 2 r.overfull ++ be 2 r.depth ++ flagByte r.saturated ++ flagByte r.bust
    ++ be 4 r.basisVersion.toNat ++ be 4 r.basisBody.toNat
    ++ optField 4 (fun g => be 4 g.toNat) r.basisHead

/-- The owner report of STORY_STATUS (11.6). -/
def ownerReport (t : Story) : List Byte :=
  match t.owner with
  | some n => be 1 1 ++ be 1 n
  | none => if t.state = .open_ then be 1 2 ++ be 1 0 else be 1 0 ++ be 1 0

/-- The fields STORY_STATUS reports of a non-EMPTY record (R44). -/
def storyReport (s : State) (n : Nat) (t : Story) : List Byte :=
  be 2 n ++ textField 1 t.slug ++ be 1 t.state.code ++ be 1 t.priority.code ++ be 1 t.desk ++ be 4 t.created
    ++ ownerReport t ++ be 4 (maskOf t.viewers)
    ++ be 2 (s.count n) ++ be 4 t.version.toNat ++ styleField t.style
    ++ optField 9 (fun h => be 1 h.text.length ++ headStyleField h.style ++ be 1 h.maxLines) t.head
    ++ be 1 (fitStateCode t.fit) ++ (t.fit.map fitFields).getD (List.replicate 23 0)
    ++ optField 2 (fun x => be 1 x.1 ++ be 1 x.2) t.placement
    ++ optField 5 (fun e => be 4 e.time ++ flagByte e.escalated) (s.entryOf n)
    ++ optField 1 (be 1) t.setEdition

/-- STORY_STATUS (R44). An EMPTY record reports the state EMPTY. -/
def reqStoryStatus (body : List Byte) (s : State) : State × List Byte :=
  match readBody (readNat 2) body with
  | none => refuse s .badLength
  | some n =>
    if 511 < n then refuse s .badField
    else
      match s.story n with
      | none => answer s .ok (be 1 0)
      | some t => answer s .ok (storyReport s n t)

/-- STORY_FIND (R44). -/
def reqStoryFind (body : List Byte) (s : State) : State × List Byte :=
  match readBody (readText 1) body with
  | none => refuse s .badLength
  | some carried =>
    match slugOf carried with
    | none => refuse s .badField
    | some slug =>
      match s.findSlug slug with
      | none => refuse s .noSuch
      | some n => answer s .ok (be 2 n ++ be 1 (((s.story n).map fun t => t.state.code).getD 0))

end Sys2Proof.Machine
end

