-- ==== Sys2Proof/Machine/Pages.lean ====
section
/-! DEFINITION. The page unit's own operations: placement, release checks, and the ends of a page (R157 to R168). -/

namespace Sys2Proof.Machine

/-! ## The stories of a page -/

/-- The placed stories of a page in slot order, with their slots. -/
def Page.placed (g : Page) : List (Slot × Nat) := g.slots.filterMap fun k => k.story.map fun n => (k, n)

/-- The stories of a page in slot order. -/
def Page.stories (g : Page) : List Nat := g.placed.map Prod.snd

/-- A page taken with an update of one of its slots. -/
def Page.updSlot (g : Page) (k : Nat) (f : Slot → Slot) : Page :=
  { g with slots := g.slots.map fun x => if x.num = k then f x else x }

/-- A page's number on a screen: "PAGE nn" and what follows (R99). -/
def pageMessage (p : Nat) (rest : List Byte) : List Byte := str "PAGE " ++ twoDigits p ++ rest

/-- The message of a failure cause (R99). -/
def Cause.message : Cause → List Byte
  | .aborted => str " ABORTED"
  | .linkErrors => str " LINK ERRORS"
  | .linkLost => str " LINK LOST"
  | .reset => str " RESET"

/-! ## The ends of a page (R34, R166, R167, R168) -/

/-- One story of a page that is set (R34, R166). -/
def State.storySet (s : State) (n : Nat) : State :=
  match s.story n with
  | none => s
  | some t =>
    let u := if t.state = .setting then s.leaveBasket n else s
    (u.updStory n fun x =>
      { x with
        state := if x.state = .setting then .set_ else x.state
        setEdition := some s.edition.number }).touchStory n

/-- One story of a page that fails or is aborted (R34). -/
def State.storyBack (s : State) (n : Nat) : State :=
  match s.story n with
  | none => s
  | some t =>
    if t.state = .setting then
      ((s.updStory n fun x => { x with state := .queued }).reportDesk t.desk).touchStory n
    else s

/-- A SETTING page is set; a page in another state is left (R166). -/
def State.pageSet (s : State) (p : Nat) : State :=
  match s.page p with
  | none => s
  | some g =>
    if g.state ≠ .setting then s
    else
      let t := g.stories.foldl State.storySet (s.updPage p fun x => { x with state := .set_ })
      (t.raise .pageSet).tellComposing (pageMessage p (str " SET"))

/-- A page goes back to OPEN with a cause: its stories return, PAGE_FAILED is raised and the composing desks are told. -/
def State.pageReturns (s : State) (p : Nat) (g : Page) (cause : Cause) : State :=
  let t := g.stories.foldl State.storyBack (s.updPage p fun x => { x with state := .open_, cause := some cause })
  (t.raise .pageFailed).tellComposing (pageMessage p cause.message)

/-- A SETTING page fails; a page in another state is left (R167). -/
def State.pageFailed (s : State) (p : Nat) (cause : Cause) : State :=
  match s.page p with
  | none => s
  | some g => if g.state ≠ .setting then s else s.pageReturns p g cause

/-! ## Release (R163, R164) -/

/-- Why a release is refused: the status, and the slot and the excess for the refusals that name them. -/
structure ReleaseRefusal where
  status : Status
  slot : Option Nat
  excess : Option Nat
deriving DecidableEq, Repr

/-- Check 4 of one placed story: QUEUED or SET. -/
def State.releaseState (s : State) (x : Slot × Nat) : Option ReleaseRefusal :=
  match (s.story x.2).map Story.state with
  | some .queued | some .set_ => none
  | some .open_ => some ⟨.storyOpen, some x.1.num, none⟩
  | some .spiked | some .setting | none => some ⟨.badState, some x.1.num, none⟩

/-- Check 5 of one placed story: a VALID fit. -/
def State.releaseFit (s : State) (x : Slot × Nat) : Option ReleaseRefusal :=
  if (s.story x.2).any fun t => t.fit.any (·.valid) then none
  else some ⟨.fitPending, some x.1.num, none⟩

/-- Check 6 of one placed story: it fits its slot. -/
def State.releaseDepth (s : State) (x : Slot × Nat) : Option ReleaseRefusal :=
  match (s.story x.2).bind Story.fit with
  | none => none
  | some r =>
    if r.saturated then some ⟨.overset, some x.1.num, some Config.maxDepth⟩
    else if x.1.allowance < r.depth then some ⟨.overset, some x.1.num, some (r.depth - x.1.allowance)⟩
    else none

/-- The seven checks of a release of a defined page, in order; none when it may be released (R163). -/
def State.releaseCheck (s : State) (g : Page) : Option ReleaseRefusal :=
  if s.edition.closed then some ⟨.editionClosed, none, none⟩
  else if g.state ≠ .open_ then some ⟨.badState, none, none⟩
  else if g.placed = [] then some ⟨.badState, none, none⟩
  else
    match g.placed.findSome? s.releaseState with
    | some r => some r
    | none =>
      match g.placed.findSome? s.releaseFit with
      | some r => some r
      | none =>
        match g.placed.findSome? s.releaseDepth with
        | some r => some r
        | none => if Config.settingQueue ≤ s.settingQueue.length then some ⟨.full, none, none⟩ else none

/-- One story of a page that is released (R34, R164). -/
def State.storyReleased (s : State) (n : Nat) : State :=
  match s.story n with
  | none => s
  | some t =>
    if t.state = .queued then
      ((s.updStory n fun x => { x with state := .setting }).reportDesk t.desk).touchStory n
    else s

/-- An accepted release: the stories become SETTING and the page WAITING at the queue's tail (R164). -/
def State.pageWaits (s : State) (p : Nat) (g : Page) : State :=
  let t := g.stories.foldl State.storyReleased
    (s.updPage p fun x => { x with state := .waiting, cause := none })
  { t with settingQueue := t.settingQueue ++ [p] }

/-! ## Placement (R160, R161) -/

/-- A story is put in a slot, and takes the slot's measure if its own differs (R160, R161). -/
def State.place (s : State) (p : Nat) (k : Slot) (n : Nat) : State :=
  let t := (s.updPage p fun g => g.updSlot k.num fun x => { x with story := some n }).updStory n fun x =>
    { x with placement := some (p, k.num) }
  if (s.story n).any fun x => x.style.measure != k.measure then
    (t.updStory n fun x => { x with style := { x.style with measure := k.measure } }).versionChange n
  else t

end Sys2Proof.Machine
end

