-- ==== Sys2Proof/Machine/Galley.lean ====
section
/-! DEFINITION. The galley: its records, their packing into blocks, the sending of blocks, and the taking of a page (R180 to
R183). -/

namespace Sys2Proof.Machine

/-! ## Records (R181, 11.6) -/

/-- A galley record: its kind and its field bytes. -/
structure GalleyRecord where
  kind : Byte
  fields : List Byte
deriving DecidableEq, Repr

/-- A record as sent: kind, length and fields. -/
def GalleyRecord.bytes (r : GalleyRecord) : List Byte := r.kind :: (be 1 r.fields.length ++ r.fields)

/-- The code of a line kind. -/
def LineKind.code : LineKind → Nat
  | .first => 1
  | .middle => 2
  | .last => 3
  | .blank => 4

/-- PAGE_HEAD. -/
def pageHead (p : Nat) (g : Page) : GalleyRecord :=
  ⟨0x01, be 1 p ++ leftAlign 8 g.label ++ be 1 g.edition ++ be 1 g.placed.length⟩

/-- SLOT_HEAD. -/
def slotHead (k : Slot) (n : Nat) (t : Story) : GalleyRecord :=
  ⟨0x02, be 1 k.num ++ be 2 k.measure ++ be 2 k.allowance ++ be 2 n ++ leftAlign 12 t.slug⟩

/-- STYLE. -/
def styleRecord (y : Style) : GalleyRecord := ⟨0x03, headStyleField y ++ be 1 (effectiveIndent y)⟩

/-- HED_STYLE. -/
def hedStyle (h : Headline) (lines : Nat) : GalleyRecord :=
  ⟨0x04, headStyleField h.style ++ be 1 lines ++ flagByte (decide (h.maxLines < lines))⟩

/-- HED_LINE. -/
def hedLine (l : SetLine) : GalleyRecord := ⟨0x05, flagByte l.overfull ++ l.text⟩

/-- LINE. -/
def lineRecord (l : SetLine) : GalleyRecord := ⟨0x06, be 1 l.kind.code ++ flagByte l.overfull ++ l.text⟩

/-- SLOT_END, with the figures of the fit record. -/
def slotEnd (r : FitRecord) : GalleyRecord := ⟨0x07, be 2 r.lines ++ be 1 r.heads ++ be 2 r.depth⟩

/-- PAGE_END. -/
def pageEnd (p slots lines : Nat) : GalleyRecord := ⟨0x08, be 1 p ++ be 1 slots ++ be 2 lines⟩

/-- The ABORT record. -/
def abortRecord (p : Nat) : GalleyRecord := ⟨0x09, be 1 p⟩

/-- Whether a record is a LINE. -/
def GalleyRecord.isLine (r : GalleyRecord) : Bool := r.kind == 0x06

/-- The records of one slot. -/
def slotRecords (s : State) (k : Slot) (n : Nat) : List GalleyRecord :=
  match s.story n with
  | none => []
  | some t =>
    let l := s.setLines n t
    slotHead k n t :: styleRecord t.style ::
      ((match t.head with
        | some h => hedStyle h l.1.length :: l.1.map hedLine
        | none => [])
      ++ l.2.map lineRecord
      ++ (match t.fit with
        | some r => [slotEnd r]
        | none => []))

/-- The galley of a page. -/
def galley (s : State) (p : Nat) (g : Page) : List GalleyRecord :=
  let body := g.placed.flatMap fun x => slotRecords s x.1 x.2
  pageHead p g :: (body ++ [pageEnd p g.placed.length (body.countP GalleyRecord.isLine)])

/-- The leading records that fit in the room of a block (R182). -/
def packed : Nat → List GalleyRecord → List GalleyRecord
  | _, [] => []
  | room, r :: rest =>
    if r.bytes.length ≤ room then r :: packed (room - r.bytes.length) rest else []

/-! ## The forward channel (R183) -/

/-- Change the link unit. -/
def State.updLink (s : State) (f : Link → Link) : State := { s with link := f s.link }

/-- A block joins the forward channel behind any that is being sent. -/
def Link.send (l : Link) (b : ForwardBlock) : Link := { l with forward := l.forward ++ [b] }

/-- The block number that a block which awaits an answer takes; the next one follows it (R182). -/
def Link.advance (l : Link) : Link := { l with nextNum := l.nextNum + 1 }

/-- The acknowledgement timer, loaded (R183). -/
def Link.loadAck (l : Link) : Link := { l with ackTimer := l.config.map LinkConfig.ackTimeout }

/-- The current block of the setting page, changed. -/
def Link.updCurrent (l : Link) (f : CurrentBlock → CurrentBlock) : Link :=
  { l with setting := l.setting.map fun x => { x with current := x.current.map f } }

/-- The current block, if there is one. -/
def Link.current (l : Link) : Option CurrentBlock := l.setting.bind SettingPage.current

/-- The current block is sent from its start. -/
def Link.sendCurrent (l : Link) : Link :=
  match l.current with
  | none => l
  | some b => (l.updCurrent fun x => { x with phase := .sending }).send ⟨b.num, .data, b.payload⟩

/-! ## Composition and taking (R180, R182) -/

/-- The next block of the setting page is composed, and sent unless the link is held (R182, R184, R185). -/
def State.composeNext (s : State) : State :=
  match s.link.setting with
  | none => s
  | some x =>
    match s.page x.page with
    | none => s
    | some g =>
      let all := galley s x.page g
      let records := packed Config.blockPayload (all.drop x.position)
      let block : CurrentBlock :=
        { num := s.link.nextNum
          payload := records.flatMap GalleyRecord.bytes
          last := decide (all.length ≤ x.position + records.length)
          tries := 1
          settled := false
          phase := .unsent }
      s.updLink fun l =>
        let l := { l.advance with setting := some { x with
          position := x.position + records.length
          linesSent := x.linesSent + records.countP GalleyRecord.isLine
          current := some block } }
        if l.held then l else l.sendCurrent

/-- Whether a page may start (R180). -/
def Link.mayTake (l : Link) : Bool :=
  l.cond == .up && l.activity == .idle && (!l.poor || !(l.config.any (·.holdOnPoor)))

/-- The head of the setting queue is taken if R180 allows. -/
def State.tryTake (s : State) : State :=
  match s.settingQueue with
  | [] => s
  | p :: rest =>
    if !s.link.mayTake then s
    else
      ({ s.updPage p fun g => { g with state := .setting } with settingQueue := rest }.updLink fun l =>
        { l with activity := .setting, setting := some ⟨p, 0, 0, 0, none, false, none⟩ }).composeNext

/-- The setting page and its current block are dropped with their timers, and the activity becomes IDLE (R184, R186, R188). -/
def Link.dropPage (l : Link) : Link := { l with setting := none, ackTimer := none, activity := .idle }

end Sys2Proof.Machine
end

