-- ==== Sys2Proof/Machine/ProofUnit.lean ====
section
/-! DEFINITION. Link proof: the pattern, the checker, the ends of a proof, and the commands PROOF_START, PROOF_STOP,
PROOF_RESULT, PROOF_BIT_RECEIVED, PROOF_TIMEBASE_REACHED and UNLOOP_SENT (R192 to R200). -/

namespace Sys2Proof.Machine

/-! ## The pattern (R194) -/

/-- The next bit of a generator, from its state: the latest bits, the last one lowest. -/
def Pattern.next (p : Pattern) (g : BitVec 32) : Bool :=
  match p with
  | .p7 => g.getLsbD 5 ^^ g.getLsbD 6
  | .p15 => g.getLsbD 13 ^^ g.getLsbD 14
  | .fixed _ => g.getLsbD 31

/-- A register of the latest 32 bits after one more. -/
def shiftIn (g : BitVec 32) (bit : Bool) : BitVec 32 := (g <<< 1) ||| (if bit then 1#32 else 0#32)

/-- A generator one bit on. -/
def Pattern.advance (p : Pattern) (g : BitVec 32) : BitVec 32 := shiftIn g (p.next g)

/-- The state in which the forward channel's generator starts each proof. -/
def Pattern.start : Pattern → BitVec 32
  | .p7 => 0x7F#32
  | .p15 => 0x7FFF#32
  | .fixed v => v

/-- Whether 32 bits are one of the rotations of a value. -/
def isRotation (v bits : BitVec 32) : Bool := (List.range 32).any fun k => v.rotateLeft k == bits

/-- The state that the checker takes from the latest received bits, of which it has seen so many in this search (R196). -/
def Pattern.found (p : Pattern) (recent : BitVec 32) (seen : Nat) : Option (BitVec 32) :=
  match p with
  | .p7 => if 7 ≤ seen ∧ recent &&& 0x7F#32 ≠ 0 then some (recent &&& 0x7F#32) else none
  | .p15 => if 15 ≤ seen ∧ recent &&& 0x7FFF#32 ≠ 0 then some (recent &&& 0x7FFF#32) else none
  | .fixed v => if 32 ≤ seen ∧ isRotation v recent then some recent else none

/-! ## Ending (R198, R199) -/

/-- The exponent of the summary byte: the smallest e below 8 for which the shifted count is 31 or less (R199). -/
def summaryExponent (errors : Nat) : Option Nat := (List.range 8).find? fun e => decide (errors / 4 ^ e ≤ 31)

/-- The summary byte of an error count (R199). -/
def summaryByte (errors : Nat) : Nat :=
  match summaryExponent errors with
  | some e => e * 32 + errors / 4 ^ e
  | none => 255

/-- Change the proof checker. -/
def State.updProof (s : State) (f : Proof → Proof) : State := { s with proof := f s.proof }

/-- PROOF_ALARM is raised once a proof (R197). -/
def State.proofAlarm (s : State) (r : ProofRequest) : State :=
  if r.threshold ≠ 0 ∧ !s.proof.alarmRaised then
    (s.raise .proofAlarm).updProof fun p => { p with alarmRaised := true }
  else s

/-- The result record of a proof that ends (R198). -/
def Proof.resultFor (p : Proof) (r : ProofRequest) (cause : EndCause) : ProofResult where
  pattern := r.pattern
  timebase := r.timebase
  checked := p.checked
  errors := p.errors
  summary := summaryByte p.errors
  syncLosses := p.syncLosses
  cause := cause

/-- The checker of an ended proof: IDLE, its window and LOOP block dropped (R198 steps 1 and 2). -/
def Proof.ended (p : Proof) (r : ProofRequest) (cause : EndCause) : Proof :=
  { p with
    state := .idle, request := none, loop := none, windowChecked := 0, windowErrors := 0
    result := some (p.resultFor r cause) }

/-- The activity becomes IDLE after a proof, the return channel is read as messages again, and PROOF_DONE is raised
(R198 steps 4 and 5). -/
def State.proofDone (s : State) : State :=
  (s.updLink fun l => { l with activity := .idle, returnBits := false }).raise .proofDone

/-- A proof past IDLE ends (R198); `unloop` says that the link is UP and an UNLOOP block is sent, whose sending the activity and
PROOF_DONE wait for. A LOOP block still on the wire at a PROOF_STOP completes there, and the UNLOOP block follows it (log entry 46:
DESIGN CHOICE). -/
def State.proofEnd (s : State) (cause : EndCause) (unloop : Bool) : State :=
  match s.proof.request with
  | none => s
  | some r =>
    let t := if (cause = .done ∨ cause = .stopped) ∧ !s.proof.firstSync then s.proofAlarm r else s
    let t := (t.updProof fun p => p.ended r cause).updLink fun l => { l with ackTimer := none }
    if unloop then t.updLink fun l => l.send ⟨l.nextNum, .unloop, []⟩ else t.proofDone

/-- Whether an UNLOOP block's sending is still awaited: the activity is PROVING and the proof IDLE (R198). -/
def State.unlooping (s : State) : Bool := s.link.activity == .proving && s.proof.state == .idle

/-- UNLOOP_SENT (R198). -/
def execUnloopSent (s : State) : Host.Outcome State Fault Refusal :=
  match s.link.forward.dropWhile (fun b => b.kind == .enquiry) with
  | ⟨_, .unloop, _⟩ :: rest =>
    let t := s.updLink fun l => { l with forward := rest }
    .next (if t.unlooping then t.proofDone.tryTake else t).settle
  | _ => .next s.settle

/-! ## The LOOP block (R195) -/

/-- Change the LOOP block. -/
def Proof.updLoop (p : Proof) (f : LoopBlock → LoopBlock) : Proof := { p with loop := p.loop.map f }

/-- The LOOP block is sent. -/
def State.sendLoop (s : State) : State :=
  match s.proof.loop with
  | none => s
  | some b =>
    (s.updProof fun p => p.updLoop fun x => { x with phase := .sending }).updLink fun l => l.send ⟨b.num, .loop, []⟩

/-- A try of the LOOP block fails (R195). -/
def State.failLoop (s : State) (b : LoopBlock) : State :=
  let t := s.updLink fun l => { l with ackTimer := none }
  if 4 ≤ b.tries then t.proofEnd .lost true
  else
    let t := t.updProof fun p => p.updLoop fun x => { x with tries := x.tries + 1, phase := .resendDue }
    if t.link.held then t else t.sendLoop

/-- A search for the place in the pattern starts on the bits that follow (R196). -/
def Proof.search (p : Proof) : Proof :=
  { p with state := .syncing, seen := 0, recent := 0, windowChecked := 0, windowErrors := 0 }

/-- The ACK of the LOOP block: SYNCING, and the forward channel begins the pattern (R195). -/
def State.loopAcked (s : State) (r : ProofRequest) : State :=
  (s.updProof fun p => { p.search with loop := none, received := 0, sender := r.pattern.start }).updLink fun l =>
    { l with ackTimer := none, returnBits := true }

/-! ## Received bits (R196, R197) -/

/-- One bit of a search; a place found enters COUNTING with an empty window. -/
def Proof.searchBit (p : Proof) (r : ProofRequest) (bit : Bool) : Proof :=
  let q := { p with recent := shiftIn p.recent bit, seen := p.seen + 1 }
  match r.pattern.found q.recent q.seen with
  | none => q
  | some g =>
    { q with state := .counting, generator := g, firstSync := true, windowChecked := 0, windowErrors := 0 }

/-- A count one higher, stopping at a limit. -/
def countTo (limit n : Nat) : Nat := min limit (n + 1)

/-- One bit compared with the prediction, before the window and the loss of sync are judged. -/
def Proof.judgeBit (p : Proof) (r : ProofRequest) (bit : Bool) : Proof :=
  let wrong := bit != r.pattern.next p.generator
  { p with
    generator := r.pattern.advance p.generator
    checked := countTo 4294967295 p.checked
    errors := if wrong then countTo 4294967295 p.errors else p.errors
    windowChecked := p.windowChecked + 1
    windowErrors := if wrong then p.windowErrors + 1 else p.windowErrors }

/-- The loss of sync and the end of a window, after a bit is judged; `wrong` says that the bit was a mismatch. -/
def Proof.endBit (p : Proof) (r : ProofRequest) (wrong : Bool) : Proof :=
  if wrong ∧ p.windowErrors = 9 ∧ !r.mask then { p.search with syncLosses := countTo 65535 p.syncLosses }
  else if p.windowChecked = 64 then { p with windowChecked := 0, windowErrors := 0 }
  else p

/-- One bit of COUNTING, with its loss of sync and its alarm (R197). -/
def State.countBit (s : State) (r : ProofRequest) (bit : Bool) : State :=
  let wrong := bit != r.pattern.next s.proof.generator
  let t := s.updProof fun p => (p.judgeBit r bit).endBit r wrong
  if r.threshold ≤ t.proof.errors then t.proofAlarm r else t

/-- One received bit of SYNCING or COUNTING, and the end of a proof whose timebase it reaches (R196). -/
def State.proofBit (s : State) (r : ProofRequest) (bit : Bool) : State :=
  let t := s.updProof fun p => { p with received := p.received + 1, sender := r.pattern.advance p.sender }
  let t := match s.proof.state with
    | .syncing => t.updProof fun p => p.searchBit r bit
    | .counting => t.countBit r bit
    | .idle | .starting => t
  if r.timebase = some t.proof.received then t.proofEnd .done true else t

/-- The request of a proof whose return channel is read as bits: one in SYNCING or COUNTING. -/
def Proof.running (p : Proof) : Option ProofRequest :=
  match p.state with
  | .syncing | .counting => p.request
  | .idle | .starting => none

/-- PROOF_BIT_RECEIVED (R196, R197). -/
def execProofBitReceived (bit : Bool) (s : State) : Host.Outcome State Fault Refusal :=
  match s.proof.running with
  | none => .next s.settle
  | some r => .next (s.proofBit r bit).settle

/-- PROOF_TIMEBASE_REACHED (R196): the bit that brings bits received to the timebase. -/
def execProofTimebaseReached (bit : Bool) (s : State) : Host.Outcome State Fault Refusal :=
  match s.proof.running with
  | none => .next s.settle
  | some r =>
    if r.timebase = some (s.proof.received + 1) then .next (s.proofBit r bit).settle else .next s.settle

/-! ## Requests (R193, R198, R200) -/

/-- The pattern of a code and a value (R193). -/
def patternOf (code value : Nat) : Option Pattern :=
  match code with
  | 0 => some .p7
  | 1 => some .p15
  | 2 => if value = 0 ∨ value = 4294967295 then none else some (.fixed (BitVec.ofNat 32 value))
  | _ => none

/-- A proof begins: STARTING, with its LOOP block composed, and sent unless the link is held (R193, R195). -/
def State.proofStart (s : State) (r : ProofRequest) : State :=
  let t := (s.updProof fun p =>
    { p with
      state := .starting, request := some r, loop := some ⟨s.link.nextNum, 1, .unsent⟩
      received := 0, checked := 0, errors := 0, windowChecked := 0, windowErrors := 0, syncLosses := 0
      firstSync := false, alarmRaised := false }).updLink fun l => { l.advance with activity := .proving }
  if t.link.held then t else t.sendLoop

/-- PROOF_START (R193). -/
def reqProofStart (body : List Byte) (s : State) : State × List Byte :=
  match readBody (do
      let pattern ← readNat 1
      let value ← readNat 4
      let timebase ← readNat 1
      let threshold ← readNat 4
      let mask ← readNat 1
      return (pattern, value, timebase, threshold, mask)) body with
  | none => refuse s .badLength
  | some (pattern, value, timebase, threshold, mask) =>
    match patternOf pattern value, timebaseOfCode timebase with
    | some p, some t =>
      if 1 < mask then refuse s .badField
      else if s.link.activity ≠ .idle then refuse s .busy
      else if s.link.cond ≠ .up then refuse s .badState
      else answer (s.proofStart ⟨p, t, threshold, mask == 1⟩) .accepted []
    | _, _ => refuse s .badField

/-- PROOF_STOP (R198). -/
def reqProofStop (body : List Byte) (s : State) : State × List Byte :=
  match readBody readNothing body with
  | none => refuse s .badLength
  | some _ => if s.proof.state = .idle then refuse s .badState else answer (s.proofEnd .stopped true) .ok []

/-- The fields of a running proof (R200). -/
def proofRunning (p : Proof) : List Byte :=
  match p.request with
  | none => []
  | some r =>
    be 1 r.pattern.code ++ be 1 (timebaseCode r.timebase) ++ be 4 r.threshold ++ flagByte r.mask
      ++ be 4 p.received ++ be 4 p.checked ++ be 4 p.errors ++ be 2 p.syncLosses ++ flagByte p.alarmRaised

/-- A result record as reported (R200). -/
def resultFields (r : ProofResult) : List Byte :=
  be 1 r.pattern.code ++ be 1 (timebaseCode r.timebase) ++ be 4 r.checked ++ be 4 r.errors ++ be 1 r.summary
    ++ be 2 r.syncLosses ++ be 1 r.cause.code

/-- PROOF_RESULT (R200). -/
def reqProofResult (body : List Byte) (s : State) : State × List Byte :=
  match readBody readNothing body with
  | none => refuse s .badLength
  | some _ =>
    answer s .ok (be 1 s.proof.state.code ++ proofRunning s.proof ++ optField 14 resultFields s.proof.result)

end Sys2Proof.Machine
end

