-- ==== Sys2Proof/Machine/LinkUnit.lean ====
section
/-! DEFINITION. The typesetter link unit: condition, loss of signal, acquisition, the block protocol, quality, suspension, abort
and status, with their commands and requests (R174 to R191). -/

namespace Sys2Proof.Machine

/-! ## Quality (R187) -/

/-- The SUCCESS entries of the quality window. -/
def Link.quality (l : Link) : Nat := l.window.countP id

/-- An outcome appended to the window. -/
def Link.record (l : Link) (success : Bool) : Link :=
  { l with window := (if Config.window ≤ l.window.length then l.window.drop 1 else l.window) ++ [success] }

/-- POOR judged against the window (R187). -/
def State.judgeQuality (s : State) : State :=
  match s.link.config with
  | none => s
  | some c =>
    if s.link.window.length ≠ Config.window then s
    else if !s.link.poor ∧ s.link.quality < c.poorAssert then
      (s.updLink fun l => { l with poor := true }).raise .linkPoor
    else if s.link.poor ∧ c.poorClear ≤ s.link.quality then s.updLink fun l => { l with poor := false }
    else s

/-- A first-try outcome is recorded (R187). -/
def State.recordOutcome (s : State) (success : Bool) : State := (s.updLink fun l => l.record success).judgeQuality

/-- The first try of a block is settled, if it was not (R184, R187). -/
def State.settleTry (s : State) (b : CurrentBlock) (success : Bool) : State :=
  if b.settled then s
  else (s.recordOutcome success).updLink fun l => l.updCurrent fun x => { x with settled := true }

/-! ## Condition (R177 to R179, R188, R189) -/

/-- Detection restarts: LOS is asserted and both counts are 0 (R177). -/
def Link.restart (l : Link) : Link := { l with los := true, quietCount := 0, activeCount := 0 }

/-- The phase of a block whose sending is abandoned by a fall (R188). -/
def BlockPhase.afterFall : BlockPhase → BlockPhase
  | .sending => .unsent
  | .unsent => .unsent
  | .sent => .sent
  | .resendDue => .resendDue

/-- The setting page suspended at a fall from UP (R188). -/
def Link.suspend (l : Link) : Link :=
  { l.updCurrent (fun x => { x with phase := x.phase.afterFall }) with
    setting := (l.updCurrent fun x => { x with phase := x.phase.afterFall }).setting.map fun x =>
      { x with suspended := true, lossTimer := l.config.map LinkConfig.lossLimit } }

/-- What a fall to DOWN does to the link's own fields; an abort wait, or an abort block not yet sent, ends (R178, R189). -/
def Link.fall (l : Link) : Link :=
  let d := if l.cond = .up then l.suspend else l
  { d with
    cond := .down, acquireTimer := none, held := false, forward := [], ackTimer := none, abortWait := none, resent := none
    activity := if l.activity = .setting ∧ l.setting.isNone then .idle else l.activity }

/-- A fall from UP or ACQUIRING to DOWN: LINK_CHANGE, the link's fields, and the end of a proof (R178, R198). -/
def State.linkFalls (s : State) : State :=
  let t := (s.raise .linkChange).updLink Link.fall
  if t.proof.state ≠ .idle then t.proofEnd .lost false
  else if t.unlooping then t.proofDone
  else t

/-- An ENQUIRY block is sent and the acquire timer loaded (R179). An earlier ENQUIRY has left the wire by then. -/
def Link.enquire (l : Link) : Link :=
  { l with
    forward := [⟨l.nextNum, .enquiry, []⟩]
    acquireTimer := l.config.map LinkConfig.acquireInterval }

/-- LOS clears: DOWN becomes ACQUIRING (R178, R179). -/
def State.losClears (s : State) : State :=
  if s.link.cond = .down then (s.raise .linkChange).updLink fun l => { l with cond := .acquiring }.enquire else s

/-- LOS is asserted: ACQUIRING and UP fall to DOWN (R178). -/
def State.losAsserts (s : State) : State :=
  if s.link.cond = .acquiring ∨ s.link.cond = .up then s.linkFalls else s

/-- The end of a window of the LOS detector (R177). -/
def State.losWindow (s : State) (c : LinkConfig) (active : Bool) : State :=
  let l := s.link
  if l.los then
    if !active then s.updLink fun l => { l with activeCount := 0 }
    else if c.losClear ≤ l.activeCount + 1 then
      (s.updLink fun l => { l with los := false, quietCount := 0, activeCount := 0 }).losClears
    else s.updLink fun l => { l with activeCount := l.activeCount + 1 }
  else
    if active then s.updLink fun l => { l with quietCount := 0 }
    else if c.losAssert ≤ l.quietCount + 1 then
      (s.updLink fun l => { l with los := true, quietCount := 0, activeCount := 0 }).losAsserts
    else s.updLink fun l => { l with quietCount := l.quietCount + 1 }

/-- LOS_WINDOW_END (R177). An unconfigured link has no detector. -/
def execLosWindowEnd (active : Bool) (s : State) : Host.Outcome State Fault Refusal :=
  match s.link.config with
  | none => .next s.settle
  | some c => .next (s.losWindow c active).settle

/-- ACQUIRE_TIMER_EXPIRY (R179). An acquire timer that is off does not expire (R2). -/
def execAcquireTimerExpiry (s : State) : Host.Outcome State Fault Refusal :=
  if s.link.cond = .acquiring ∧ s.link.acquireTimer.isSome then .next (s.updLink Link.enquire).settle
  else .next s.settle

/-- A suspended page resumes: its current block is sent again without counting a try, or the next one is composed (R188). -/
def State.resumePage (s : State) : State :=
  match s.link.setting with
  | none => s
  | some x =>
    let t := s.updLink fun l => { l with setting := some { x with suspended := false, lossTimer := none } }
    if x.current.isSome then t.updLink Link.sendCurrent else t.composeNext

/-- The link becomes UP (R179). -/
def State.linkUp (s : State) : State :=
  let t := (s.raise .linkChange).updLink fun l =>
    { l with cond := .up, acquireTimer := none, window := [], poor := false }
  t.resumePage.tryTake

/-! ## Return messages (R179, R183 to R185, R189, R195, R209) -/

/-- Whether a block of a phase has been sent and is not being sent. -/
def BlockPhase.answerable : BlockPhase → Bool
  | .sent | .resendDue => true
  | .unsent | .sending => false

/-- The current block that an answer names, once it has been sent (R184). -/
def Link.answered (l : Link) (number : Byte) : Option CurrentBlock :=
  l.current.filter fun b => b.num == number && b.phase.answerable

/-- The LOOP block that an answer names, once it has been sent (R195). -/
def State.loopAnswered (s : State) (number : Byte) : Option LoopBlock :=
  if s.proof.state = .starting then s.proof.loop.filter fun b => b.num == number && b.phase.answerable else none

/-- The activity becomes IDLE and the head of the setting queue is taken if R180 allows. -/
def State.activityIdle (s : State) : State := (s.updLink fun l => { l with activity := .idle }).tryTake

/-- The abort wait ends (R189). -/
def State.endAbortWait (s : State) : State := (s.updLink fun l => { l with abortWait := none }).activityIdle

/-- Whether an answer names the abort block of the abort wait. -/
def Link.namesAbort (l : Link) (number : Byte) : Bool := l.abortWait.any fun w => w.num == number

/-- The current block is finished by its ACK (R184, R186). -/
def State.blockAcked (s : State) (b : CurrentBlock) : State :=
  match s.link.setting with
  | none => s
  | some x =>
    let t := (s.updLink fun l => { l with ackTimer := none }).settleTry b true
    let t := t.updLink fun l => { l with setting := l.setting.map fun y =>
      { y with blocksDone := y.blocksDone + 1, current := none } }
    if b.last then ((t.updLink Link.dropPage).pageSet x.page).tryTake else t.composeNext

/-- A try of the current block fails (R184). -/
def State.failTry (s : State) (b : CurrentBlock) : State :=
  match s.link.setting with
  | none => s
  | some x =>
    let t := (s.updLink fun l => { l with ackTimer := none }).settleTry b false
    if 4 ≤ b.tries then ((t.updLink Link.dropPage).pageFailed x.page .linkErrors).tryTake
    else
      t.updLink fun l =>
        let l := l.updCurrent fun y => { y with tries := y.tries + 1, phase := .resendDue }
        if l.held then l else l.sendCurrent

/-- An ACK that is taken (R184, R189, R195). -/
def State.takeAck (s : State) (number : Byte) : State :=
  match s.link.answered number with
  | some b => s.blockAcked b
  | none =>
    if s.link.namesAbort number then s.endAbortWait
    else
      match s.loopAnswered number, s.proof.request with
      | some _, some r => s.loopAcked r
      | _, _ => s

/-- A NAK that is taken (R184, R189, R195). -/
def State.takeNak (s : State) (number : Byte) : State :=
  match s.link.answered number with
  | some b => s.failTry b
  | none =>
    if s.link.namesAbort number then s.endAbortWait
    else
      match s.loopAnswered number with
      | some b => s.failLoop b
      | none => s

/-- What an expiry leaves, where it had the block of a number sent again at this timebase step (R185). -/
def State.markResent (s : State) (number : Byte) : State :=
  if s.link.forward.any fun f => f.num == number then s.updLink fun l => { l with resent := some (s.clock.steps, number) }
  else s

/-- The acknowledgement timer expires: the try of the block it guards fails (R184, R195). -/
def State.ackExpires (s : State) : State :=
  match s.link.current with
  | some b => (s.failTry b).markResent b.num
  | none =>
    match s.proof.loop with
    | some b => (s.failLoop b).markResent b.num
    | none => s.updLink fun l => { l with ackTimer := none }

/-- ACK_TIMEOUT (R184). An acknowledgement timer that is off does not expire (R2). -/
def execAckTimeout (s : State) : Host.Outcome State Fault Refusal :=
  .next (if s.link.ackTimer.isSome then s.ackExpires else s).settle

/-- Whether an expiry of this timebase step had the block of a number sent again, and that sending goes on (R185). -/
def State.resentNow (s : State) (number : Byte) : Bool := s.link.resent == some (s.clock.steps, number)

/-- A block of a kind and a number leaves the forward channel before it has been sent. -/
def Link.withdraw (l : Link) (kind : BlockKind) (number : Byte) : Link :=
  { l with forward := l.forward.filter fun f => !(f.kind == kind && f.num == number), resent := none }

/-- The resend that an expiry made together with a HOLD waits for GO instead (R185). Two events come together where one timebase
step brings both (log entry 47: DESIGN CHOICE). -/
def State.holdResend (s : State) : State :=
  match s.link.current with
  | some b =>
    if b.phase = .sending ∧ s.resentNow b.num then
      s.updLink fun l => (l.updCurrent fun x => { x with phase := .resendDue }).withdraw .data b.num
    else s
  | none =>
    match s.proof.loop with
    | some b =>
      if b.phase = .sending ∧ s.resentNow b.num then
        (s.updProof fun p => p.updLoop fun x => { x with phase := .resendDue }).updLink fun l => l.withdraw .loop b.num
      else s
    | none => s

/-- HOLD that is taken (R185). -/
def State.takeHold (s : State) : State :=
  if s.link.held then s else (s.updLink fun l => { l with held := true, ackTimer := none }).holdResend

/-- GO on a current block (R185). -/
def Link.goBlock (l : Link) (b : CurrentBlock) : Link :=
  match b.phase with
  | .resendDue | .unsent => l.sendCurrent
  | .sent => l.loadAck
  | .sending => l

/-- GO on a LOOP block (R185, R195). -/
def State.goLoop (s : State) (b : LoopBlock) : State :=
  match b.phase with
  | .resendDue | .unsent => s.sendLoop
  | .sent => s.updLink Link.loadAck
  | .sending => s

/-- GO that is taken (R185). -/
def State.takeGo (s : State) : State :=
  if !s.link.held then s
  else
    let t := s.updLink fun l => { l with held := false }
    match t.link.current with
    | some b => t.updLink fun l => l.goBlock b
    | none =>
      match t.proof.loop with
      | some b => t.goLoop b
      | none => t

/-! ## The return receiver (R209) -/

/-- Whether the return channel is read as messages: the link is configured and no proof is past STARTING (R191, R195, R209). -/
def Link.listens (l : Link) : Bool := l.cond != .off && !l.returnBits

/-- A return message that has passed is taken or discarded by the link's condition (R178, R179, R185). -/
def State.takeReturn (s : State) (code : ReturnCode) (number : Byte) : State :=
  match code, s.link.cond with
  | .ready, .acquiring => s.linkUp
  | .ack, .up => s.takeAck number
  | .nak, .up => s.takeNak number
  | .hold, .up => s.takeHold
  | .go, .up => s.takeGo
  | _, _ => s

/-- The return receiver's state set. -/
def State.setReceiver (s : State) (r : Receiver) : State := s.updLink fun l => { l with receiver := r }

/-- One byte of the return channel (R209): the receiver hunts for the start byte, takes the four bytes after it, and hands on a
message that passes. R209 gives the receiver no gap time and names no framing error: a message being assembled is never
abandoned for either (log entry 18: DESIGN CHOICE). -/
def State.returnByte (s : State) (b : Byte) : State :=
  if !s.link.listens then s
  else
    match s.link.receiver with
    | .hunting => if b = 0x5A then s.setReceiver (.assembling []) else s
    | .assembling [code, number, high] =>
      let t := s.setReceiver .hunting
      match returnMessage code number high b with
      | some k => t.takeReturn k number
      | none => t
    | .assembling got => s.setReceiver (.assembling (got ++ [b]))

/-- The bytes of the return channel up to the end of a message. -/
def State.returnChannel (s : State) (code : ReturnCode) (number : ReturnNumber) (check : BitVec 16) : State :=
  (number.before ++ returnBytes code number.byte check).foldl State.returnByte s

/-- READY (R179). -/
def execReady (number : ReturnNumber) (check : BitVec 16) (s : State) : Host.Outcome State Fault Refusal :=
  .next (s.returnChannel .ready number check).settle

/-- ACK (R184). -/
def execAck (number : ReturnNumber) (check : BitVec 16) (s : State) : Host.Outcome State Fault Refusal :=
  .next (s.returnChannel .ack number check).settle

/-- NAK (R184). -/
def execNak (number : ReturnNumber) (check : BitVec 16) (s : State) : Host.Outcome State Fault Refusal :=
  .next (s.returnChannel .nak number check).settle

/-- HOLD (R185). -/
def execHold (number : ReturnNumber) (check : BitVec 16) (s : State) : Host.Outcome State Fault Refusal :=
  .next (s.returnChannel .hold number check).settle

/-- GO (R185). -/
def execGo (number : ReturnNumber) (check : BitVec 16) (s : State) : Host.Outcome State Fault Refusal :=
  .next (s.returnChannel .go number check).settle

/-! ## The end of a block's sending (R183, R189) -/

/-- The acknowledgement timer loaded unless the link is held. -/
def Link.awaitAnswer (l : Link) : Link := if l.held then l else l.loadAck

/-- A DATA block's sending ends: if it is the current block's, it now awaits its answer (R183). -/
def Link.dataSent (l : Link) (number : Byte) : Link :=
  if l.current.any fun b => b.num == number && b.phase == .sending then
    ({ l.updCurrent fun x => { x with phase := .sent } with resent := none } : Link).awaitAnswer
  else l

/-- The LOOP block's sending ends (R183, R195). -/
def State.loopSent (s : State) (number : Byte) : State :=
  if s.proof.loop.any fun b => b.num == number && b.phase == .sending then
    (s.updProof fun p => p.updLoop fun x => { x with phase := .sent }).updLink fun l =>
      ({ l with resent := none } : Link).awaitAnswer
  else s

/-- The abort block's sending ends: the abort wait begins (R189). -/
def Link.abortSent (l : Link) (number : Byte) : Link :=
  { l with abortWait := l.config.map fun c => ⟨number, c.ackTimeout⟩ }

/-- The block that is being sent leaves the transmitter. -/
def State.blockSent (s : State) (b : ForwardBlock) : State :=
  match b.kind with
  | .data => s.updLink fun l => l.dataSent b.num
  | .loop => s.loopSent b.num
  | .abort => s.updLink fun l => l.abortSent b.num
  | .enquiry | .unloop => s

/-- BLOCK_SENT (R183): a galley, LOOP or abort block ends; an ENQUIRY before it has ended unremarked. -/
def execBlockSent (s : State) : Host.Outcome State Fault Refusal :=
  match s.link.forward.dropWhile (fun b => b.kind == .enquiry) with
  | [] => .next s.settle
  | b :: rest =>
    if b.kind = .unloop then .next s.settle
    else .next ((s.updLink fun l => { l with forward := rest }).blockSent b).settle

/-! ## Loss timer, abort and reset (R188, R189, R191) -/

/-- The loss timer of a suspended page expires (R188). -/
def State.lossExpires (s : State) : State :=
  match s.link.setting with
  | none => s
  | some x =>
    if x.suspended ∧ x.lossTimer.isSome then
      ((s.updLink Link.dropPage).pageFailed x.page .linkLost).tryTake
    else s

/-- LOSS_TIMER_EXPIRY (R188). -/
def execLossTimerExpiry (s : State) : Host.Outcome State Fault Refusal := .next s.lossExpires.settle

/-- ABORT_WAIT_EXPIRY (R189). -/
def execAbortWaitExpiry (s : State) : Host.Outcome State Fault Refusal :=
  .next (if s.link.abortWait.isSome then s.endAbortWait else s).settle

/-- The page unit tells the link unit to end the galley of an aborted page (R189). -/
def State.galleyAbort (s : State) : State :=
  match s.link.setting with
  | none => s
  | some x =>
    if s.link.cond = .up ∧ !s.link.held then
      s.updLink fun l =>
        { l.advance with setting := none, ackTimer := none }.send ⟨l.nextNum, .abort, (abortRecord x.page).bytes⟩
    else (s.updLink Link.dropPage).tryTake

/-- The link reset's own work, after the proof and the page have ended (R191). -/
def Link.resetFields (l : Link) : Link :=
  { l with
    activity := .idle, setting := none, abortWait := none, acquireTimer := none, ackTimer := none, held := false
    window := [], poor := false, nextNum := 0, forward := [], returnBits := false, resent := none }

/-- A running proof, or the sending of its UNLOOP block, ends at a link reset (R191, R198). -/
def State.proofReset (s : State) : State :=
  if s.proof.state ≠ .idle then s.proofEnd .reset false
  else if s.unlooping then s.proofDone
  else s

/-- A page that is SETTING fails at a link reset (R191). -/
def State.pageReset (s : State) : State :=
  match s.link.setting with
  | none => s
  | some x => (s.updLink Link.dropPage).pageFailed x.page .reset

/-- A configured link becomes DOWN with detection restarted; a change of condition raises LINK_CHANGE (R178, R191). -/
def State.goDown (s : State) : State :=
  if s.link.config.isNone then s
  else
    let t := if s.link.cond ≠ .down then s.raise .linkChange else s
    t.updLink fun l => { l with cond := .down }.restart

/-- A link reset of the link unit (R191). -/
def State.linkReset (s : State) : State := (s.proofReset.pageReset.updLink Link.resetFields).goDown

/-! ## Requests (R175, R176, R190) -/

/-- The fields of LINK_CONFIGURE as carried. -/
structure LinkFields where
  rate : Nat
  mask : Nat
  config : LinkConfig
  hold : Nat
deriving DecidableEq, Repr

/-- The layout of LINK_CONFIGURE. -/
def readLink : Rd LinkFields := do
  let rate ← readNat 1
  let mask ← readNat 2
  let ackTimeout ← readNat 4
  let lossLimit ← readNat 4
  let acquireInterval ← readNat 4
  let losAssert ← readNat 1
  let losClear ← readNat 1
  let poorAssert ← readNat 1
  let poorClear ← readNat 1
  let hold ← readNat 1
  return ⟨rate, mask,
    ⟨rate, ackTimeout, lossLimit, acquireInterval, losAssert, losClear, poorAssert, poorClear, hold == 1⟩, hold⟩

/-- The defaults of R175. -/
def LinkConfig.default (rate : Nat) : LinkConfig := ⟨rate, 20, 300, 10, 16, 32, 24, 28, false⟩

/-- Every field in its range (R175). -/
def LinkConfig.clamp (c : LinkConfig) : LinkConfig :=
  ⟨c.rate, clampTo 5 100 c.ackTimeout, clampTo 10 3600 c.lossLimit, clampTo 5 100 c.acquireInterval,
    clampTo 1 255 c.losAssert, clampTo 1 255 c.losClear, clampTo 1 32 c.poorAssert, clampTo 1 32 c.poorClear,
    c.holdOnPoor⟩

/-- The fields of `new` that a presence mask names, and those of `old` for the rest; the rate is always carried. -/
def LinkConfig.overlay (mask : Nat) (old new : LinkConfig) : LinkConfig where
  rate := new.rate
  ackTimeout := if mask.testBit 0 then new.ackTimeout else old.ackTimeout
  lossLimit := if mask.testBit 1 then new.lossLimit else old.lossLimit
  acquireInterval := if mask.testBit 2 then new.acquireInterval else old.acquireInterval
  losAssert := if mask.testBit 3 then new.losAssert else old.losAssert
  losClear := if mask.testBit 4 then new.losClear else old.losClear
  poorAssert := if mask.testBit 5 then new.poorAssert else old.poorAssert
  poorClear := if mask.testBit 6 then new.poorClear else old.poorClear
  holdOnPoor := if mask.testBit 7 then new.holdOnPoor else old.holdOnPoor

/-- Poor clear raised to poor assert if it is below it (R175). -/
def LinkConfig.raisePoorClear (c : LinkConfig) : LinkConfig := { c with poorClear := max c.poorClear c.poorAssert }

/-- The configuration a LINK_CONFIGURE stores (R175). -/
def configAfter (old : Option LinkConfig) (f : LinkFields) : LinkConfig :=
  ((old.getD (LinkConfig.default f.rate)).overlay f.mask f.config.clamp).raisePoorClear

/-- Whether a LINK_CONFIGURE clamps a value. -/
def configClamped (old : Option LinkConfig) (f : LinkFields) : Bool :=
  decide (configAfter old f ≠ (old.getD (LinkConfig.default f.rate)).overlay f.mask f.config)

/-- The effect of an accepted LINK_CONFIGURE by the condition and the rate (R176). -/
def State.configureLink (s : State) (c : LinkConfig) : State :=
  let stored := s.updLink fun l => { l with config := some c }
  match s.link.config with
  | none =>
    (stored.raise .linkChange).updLink fun l => { l.restart with cond := .down, nextNum := 0 }
  | some old =>
    if old.rate = c.rate then stored.tryTake
    else if s.link.cond = .acquiring ∨ s.link.cond = .up then stored.linkFalls.updLink Link.restart
    else stored.updLink Link.restart

/-- The stored fields of a configuration as reported. -/
def configFields (c : LinkConfig) : List Byte :=
  be 1 c.rate ++ be 4 c.ackTimeout ++ be 4 c.lossLimit ++ be 4 c.acquireInterval ++ be 1 c.losAssert ++ be 1 c.losClear
    ++ be 1 c.poorAssert ++ be 1 c.poorClear ++ flagByte c.holdOnPoor

/-- LINK_CONFIGURE (R175, R176). -/
def reqLinkConfigure (body : List Byte) (s : State) : State × List Byte :=
  match readBody readLink body with
  | none => refuse s .badLength
  | some f =>
    if 6 < f.rate ∨ 256 ≤ f.mask ∨ (f.mask.testBit 7 ∧ 1 < f.hold) then refuse s .badField
    else
      let c := configAfter s.link.config f
      let t := s.configureLink c
      answer t (okOr (configClamped s.link.config f)) (be 1 t.link.cond.code ++ configFields c)

/-- The fields LINK_STATUS reports (R190). The current block is an item that may be absent (log entry 53: DESIGN CHOICE). -/
def linkReport (s : State) : List Byte :=
  let l := s.link
  be 1 l.cond.code ++ flagByte l.los
    ++ optField 18 configFields l.config
    ++ be 1 l.activity.code ++ optField 1 (fun x => be 1 x.page) l.setting ++ flagByte l.abortWait.isSome
    ++ optField 3 (fun b => [b.num, byte b.tries, b.phase.code]) l.current ++ [l.nextNum]
    ++ flagByte l.held
    ++ flagByte (l.setting.any (·.suspended)) ++ optField 4 (be 4) (l.setting.bind SettingPage.lossTimer)
    ++ be 1 l.window.length ++ be 1 l.quality ++ flagByte l.poor
    ++ be 4 ((l.setting.map SettingPage.blocksDone).getD 0) ++ be 2 ((l.setting.map SettingPage.linesSent).getD 0)

/-- LINK_STATUS (R190). -/
def reqLinkStatus (body : List Byte) (s : State) : State × List Byte :=
  match readBody readNothing body with
  | none => refuse s .badLength
  | some _ => answer s .ok (linkReport s)

end Sys2Proof.Machine
end

