-- ==== Sys2Proof/Machine/PageRequests.lean ====
section
/-! DEFINITION. Release and abort of a page as the host and the composing desks ask for them, and the requests of the page unit
(R157 to R172). -/

namespace Sys2Proof.Machine

/-! ## Release and abort (R163, R164, R168) -/

/-- A release of a page that is defined: the checks of R163, and the acceptance with the link's taking of the head. -/
def State.releasePage (s : State) (p : Nat) (g : Page) : Except ReleaseRefusal State :=
  match s.releaseCheck g with
  | some r => .error r
  | none => .ok (s.pageWaits p g).tryTake

/-- An abort of a page that is defined; none where its state refuses it (R168). -/
def State.abortPage (s : State) (p : Nat) (g : Page) : Option State :=
  match g.state with
  | .open_ | .set_ => none
  | .waiting =>
    some { s.pageReturns p g .aborted with settingQueue := s.settingQueue.filter (· != p) }
  | .setting => some (s.pageReturns p g .aborted).galleyAbort

/-! ## Requests -/

/-- The judgement of a request that names a page by number and passes the checks of R157. -/
def withPage (p : Nat) (s : State) (k : Page → State × List Byte) : State × List Byte :=
  match s.page p with
  | none => refuse s .noSuch
  | some g => k g

/-- One slot definition (R158). -/
def readSlot : Rd Slot := do
  let num ← readNat 1
  let measure ← readNat 2
  let allowance ← readNat 2
  return ⟨num, measure, allowance, none⟩

/-- Slots in ascending slot number. -/
def sortSlots (l : List Slot) : List Slot :=
  (List.range Config.slots).filterMap fun k => l.find? fun x => x.num == k

/-- A slot with its measure in the range of a story's (R158). -/
def clampSlot (k : Slot) : Slot := { k with measure := clampTo 36 1008 k.measure }

/-- The stories whose slots a redefinition removes (R159). -/
def removedStories (g : Page) (slots : List Slot) : List Nat :=
  (g.placed.filter fun x => slots.all fun k => k.num != x.1.num).map Prod.snd

/-- A new slot takes over the story of the old slot of its number (R159). -/
def keepStory (g : Page) (k : Slot) : Slot :=
  { k with story := (g.slots.find? fun x => x.num == k.num).bind Slot.story }

/-- An OPEN page is redefined (R159). -/
def State.redefinePage (s : State) (p : Nat) (g : Page) (label : List Byte) (slots : List Slot) : State :=
  ((removedStories g slots).foldl State.unplace s).updPage p fun x =>
    { x with label := label, slots := slots.map (keepStory g) }

/-- A page is defined for the first time (R158). -/
def State.definePage (s : State) (p : Nat) (label : List Byte) (slots : List Slot) : State :=
  { s with pages := s.pages.set p (some ⟨label, s.edition.number, .open_, none, slots⟩) }

/-- The stored slots as PAGE_DEFINE echoes them. -/
def slotEcho (slots : List Slot) : List Byte :=
  listField 1 (fun k => be 1 k.num ++ be 2 k.measure ++ be 2 k.allowance) slots

/-- PAGE_DEFINE (R158, R159). -/
def reqPageDefine (body : List Byte) (s : State) : State × List Byte :=
  match readBody (do
      let p ← readNat 1
      let label ← readText 1
      let slots ← readList readSlot
      return (p, label, slots)) body with
  | none => refuse s .badLength
  | some (p, carriedLabel, carried) =>
    if Config.slots < carried.length then refuse s .badLength
    else
      match labelOf carriedLabel with
      | none => refuse s .badField
      | some label =>
        if 31 < p ∨ (carried.any fun k => decide (15 < k.num)) ∨ !(carried.map Slot.num).Nodup then
          refuse s .badField
        else
          let slots := sortSlots (carried.map clampSlot)
          let status := okOr (decide (carried.map clampSlot ≠ carried))
          match s.page p with
          | none => answer (s.definePage p label slots) status (slotEcho slots)
          | some g =>
            if g.state ≠ .open_ then refuse s .badState
            else answer (s.redefinePage p g label slots) status (slotEcho slots)

/-- PAGE_PLACE (R160, R161). -/
def reqPagePlace (body : List Byte) (s : State) : State × List Byte :=
  match readBody (do
      let p ← readNat 1
      let k ← readNat 1
      let n ← readNat 2
      return (p, k, n)) body with
  | none => refuse s .badLength
  | some (p, k, n) =>
    if 31 < p ∨ 15 < k ∨ 511 < n then refuse s .badField
    else
      withPage p s fun g =>
        match g.slots.find? (fun x => x.num == k), s.story n with
        | some slot, some t =>
          if g.state ≠ .open_ then refuse s .badState
          else if t.state = .spiked then refuse s .badState
          else if t.placement.isSome then refuse s .duplicate
          else if slot.story.isSome then refuse s .duplicate
          else
            let u := s.place p slot n
            let version := ((u.story n).map fun x => x.version.toNat).getD 0
            answer u .ok (be 2 slot.measure ++ flagByte (t.style.measure != slot.measure) ++ be 4 version)
        | _, _ => refuse s .noSuch

/-- PAGE_UNPLACE (R162). -/
def reqPageUnplace (body : List Byte) (s : State) : State × List Byte :=
  match readBody (do let p ← readNat 1; let k ← readNat 1; return (p, k)) body with
  | none => refuse s .badLength
  | some (p, k) =>
    if 31 < p ∨ 15 < k then refuse s .badField
    else
      withPage p s fun g =>
        match g.slots.find? (fun x => x.num == k) with
        | none => refuse s .noSuch
        | some slot =>
          if g.state ≠ .open_ then refuse s .badState
          else
            match slot.story with
            | none => answer s .ok []
            | some n => answer (s.unplace n) .ok []

/-- The body of a refused release: the status, and the slot and the excess that the refusal names (R163). -/
def ReleaseRefusal.fields (r : ReleaseRefusal) : List Byte :=
  ((r.slot.map (be 1)).getD []) ++ ((r.excess.map (be 2)).getD [])

/-- PAGE_RELEASE (R163, R164). -/
def reqPageRelease (body : List Byte) (s : State) : State × List Byte :=
  match readBody (readNat 1) body with
  | none => refuse s .badLength
  | some p =>
    if 31 < p then refuse s .badField
    else
      withPage p s fun g =>
        match s.releasePage p g with
        | .error r => answer s r.status r.fields
        | .ok t => answer t .accepted []

/-- PAGE_ABORT (R168). -/
def reqPageAbort (body : List Byte) (s : State) : State × List Byte :=
  match readBody (readNat 1) body with
  | none => refuse s .badLength
  | some p =>
    if 31 < p then refuse s .badField
    else
      withPage p s fun g =>
        match s.abortPage p g with
        | none => refuse s .badState
        | some t => answer t .ok []

/-- What PAGE_STATUS reports of a placed story: its fit figures are zeros where it has no fit record (R169). -/
def placedReport (s : State) (n : Nat) : List Byte :=
  match s.story n with
  | none => []
  | some t =>
    be 1 t.state.code ++ be 1 (fitStateCode t.fit)
      ++ be 2 ((t.fit.map FitRecord.depth).getD 0) ++ flagByte (t.fit.any (·.saturated))
      ++ be 2 t.style.measure

/-- The place of a page in the setting queue, counted from 1. -/
def State.queuePlace (s : State) (p : Nat) : Option Nat := (s.settingQueue.findIdx? (· == p)).map (· + 1)

/-- The fields PAGE_STATUS reports of a defined page (R169). A slot's story or none is an item that may be absent (log entry 53: DESIGN
CHOICE). -/
def pageReport (s : State) (p : Nat) (g : Page) : List Byte :=
  textField 1 g.label ++ be 1 g.edition ++ be 1 g.state.code ++ optField 1 (fun c => be 1 c.code) g.cause
    ++ optField 1 (be 1) (s.queuePlace p)
    ++ listField 1 (fun k => be 1 k.num ++ be 2 k.measure ++ be 2 k.allowance ++ optField 2 (be 2) k.story) g.slots
    ++ listField 1 (placedReport s) g.stories

/-- PAGE_STATUS (R169). -/
def reqPageStatus (body : List Byte) (s : State) : State × List Byte :=
  match readBody (readNat 1) body with
  | none => refuse s .badLength
  | some p =>
    if 31 < p then refuse s .badField
    else
      match s.page p with
      | none => answer s .ok (be 1 0)
      | some g => answer s .ok (pageReport s p g)

/-- The pages of a state. -/
def State.pagesIn (s : State) (state : PageState) : Nat :=
  s.pages.countP fun g => g.any fun x => x.state == state

/-- EDITION_CLOSE (R170). -/
def reqEditionClose (body : List Byte) (s : State) : State × List Byte :=
  match readBody readNothing body with
  | none => refuse s .badLength
  | some _ =>
    answer { s with edition := { s.edition with closed := true } } .ok
      (be 1 s.edition.number ++ be 1 (s.pagesIn .waiting + s.pagesIn .setting))

/-- The next edition begins (R171). -/
def State.rollover (s : State) (number : Nat) : State :=
  { s with
    edition := ⟨number, false⟩
    pages := s.pages.map fun g => g.map fun x => { x with edition := number, state := .open_, cause := none } }

/-- EDITION_ROLLOVER (R171). -/
def reqEditionRollover (body : List Byte) (s : State) : State × List Byte :=
  match readBody (readNat 1) body with
  | none => refuse s .badLength
  | some restart =>
    if 1 < restart then refuse s .badField
    else if !s.edition.closed then refuse s .badState
    else if s.pagesIn .waiting + s.pagesIn .setting ≠ 0 then refuse s .busy
    else if restart = 0 ∧ 99 ≤ s.edition.number then refuse s .limit
    else
      let number := if restart = 1 then 1 else s.edition.number + 1
      answer (s.rollover number) .ok (be 1 number)

/-- The page that is SETTING. -/
def State.settingPage (s : State) : Option Nat :=
  (List.range Config.pages).find? fun p => (s.page p).any fun g => g.state == .setting

/-- EDITION_STATUS (R172). -/
def reqEditionStatus (body : List Byte) (s : State) : State × List Byte :=
  match readBody readNothing body with
  | none => refuse s .badLength
  | some _ =>
    answer s .ok (be 1 s.edition.number ++ flagByte s.edition.closed ++ listField 1 (be 1) s.settingQueue
      ++ optField 1 (be 1) s.settingPage
      ++ be 1 (s.pagesIn .open_) ++ be 1 (s.pagesIn .waiting) ++ be 1 (s.pagesIn .setting) ++ be 1 (s.pagesIn .set_))

end Sys2Proof.Machine
end

