-- ==== Sys2Proof/Machine/Lines.lean ====
section
/-! DEFINITION. The terminal line controller: configuration and restart, received frames, errors, breaks, dead lines and grace
(R141 to R154), and the screens reset (R119, R156). -/

namespace Sys2Proof.Machine

/-! ## Receive errors and the type-ahead queue (R146, R148) -/

/-- The summary flag of a line. -/
def Line.summary (l : Line) : Bool := l.overrun || l.parityError || l.framing

/-- An error flag of line n is set; LINE_ERROR is reported if the summary flag was clear (R148). -/
def State.lineFault (s : State) (n : Nat) (set : Line → Line) : State :=
  let t := s.updLine n set
  if (s.line n).summary then t else t.raiseFor .lineError n

/-- A key enters the type-ahead queue through the holding buffer, or is lost to an overrun (R146). -/
def State.enqueue (s : State) (n : Nat) (k : QueuedKey) : State :=
  let l := s.line n
  if l.queue.length < Config.typeAhead then s.updLine n fun l => { l with queue := l.queue ++ [k] }
  else if l.holding.isNone then s.updLine n fun l => { l with holding := some k }
  else (s.lineFault n fun l => { l with overrun := true }).bell n

/-- A line whose oldest key is taken; the key in the holding buffer moves in (R146). -/
def Line.dequeue (l : Line) : Line := { l with queue := l.queue.drop 1 ++ l.holding.toList, holding := none }

/-! ## Frames (R145, R146, R154) -/

/-- The code of a frame under a format. -/
def LineConfig.codeOf (c : LineConfig) (f : TermFrame) : Byte := c.sent f.data

/-- Whether the parity sample agrees with the configured parity (R145). -/
def LineConfig.parityAgrees (c : LineConfig) (f : TermFrame) : Bool :=
  let count := marks (c.codeOf f) + (if f.parity then 1 else 0)
  match c.parity with
  | .none => true
  | .even => count % 2 == 0
  | .odd => count % 2 == 1

/-- What a frame is (R146). -/
inductive FrameCase where
  | breakStart | framing | parity | valid (code : Byte)
deriving DecidableEq, Repr

/-- The first case of R146 that applies to a frame. -/
def LineConfig.judge (c : LineConfig) (f : TermFrame) : FrameCase :=
  if c.codeOf f = 0 ∧ (c.parity = .none ∨ f.parity = false) ∧ f.stop = false then .breakStart
  else if f.stop = false then .framing
  else if !c.parityAgrees f then .parity
  else .valid (c.codeOf f)

/-- A DEAD line comes back with a character, which is consumed (R154). -/
def State.lineBack (s : State) (n : Nat) : State := (s.updLine n fun l => { l with state := .up }).comeUp n

/-- A frame on a configured line on which no break runs (R146, R154). -/
def State.takeFrame (s : State) (n : Nat) (c : LineConfig) (f : TermFrame) : State :=
  match (s.line n).state, c.judge f with
  | .up, .breakStart => s.updLine n fun l => { l with breakTimer := some c.deadThreshold }
  | .up, .framing => s.lineFault n fun l => { l with framing := true }
  | .up, .parity => s.lineFault n fun l => { l with parityError := true }
  | .up, .valid code => s.enqueue n (.code code)
  | .dead, .valid _ => s.lineBack n
  | .dead, .breakStart | .dead, .framing | .dead, .parity | .off, _ => s

/-- TERMINAL_CHARACTER_RECEIVED (R146). An OFF line ignores its receiver, and no frame is looked for while a break runs. -/
def execTerminalCharacterReceived (n : Fin 32) (frame : TermFrame) (s : State) : Host.Outcome State Fault Refusal :=
  match (s.line n).config with
  | none => .next s.settle
  | some c => .next (if (s.line n).breakTimer.isSome then s else s.takeFrame n c frame).settle

/-- BREAK_END (R149). A line on which no break runs is at mark already. -/
def execBreakEnd (n : Fin 32) (s : State) : Host.Outcome State Fault Refusal :=
  if (s.line n).breakTimer.isSome then
    .next ((s.updLine n fun l => { l with breakTimer := none }).enqueue n .brk).settle
  else .next s.settle

/-! ## Dead lines (R150) -/

/-- The line's part of going DEAD; a code in the shift finishes on the wire, as at a restart (R144, R150). -/
def Line.die (l : Line) : Line :=
  { l.abandon with state := .dead, assembling := [], breakTimer := none, holding := none, queue := [] }

/-- The screen's fields that go with a screen going DOWN (R150). -/
def Screen.goDown (c : Screen) : Screen :=
  { c.breakOff.emptyRing with
    mode := .down, blanked := false, newMark := false, bells := 0, partMessage := none, idle := none
    selection := none, basketTop := 0 }

/-- The screen of a line that goes DEAD: an owner keeps its story under grace, a screen with a grace keeps it as it is, and any
other drops its story and its desk (R150). -/
def State.screenDown (s : State) (n : Nat) : State :=
  let grace := ((s.line n).config.map LineConfig.grace).getD 0
  (s.stopViewing n).updScreen n fun c =>
    let d := (dropToType s c).goDown
    if c.mode = .edit then { d with grace := some grace }
    else if c.grace.isSome then d
    else { d.dropStory with desk := none }

/-- A line goes DEAD (R150). -/
def State.lineDies (s : State) (n : Nat) : State :=
  ((s.updLine n Line.die).raiseFor .lineDown n).screenDown n

/-- BREAK_TIMER_EXPIRY (R149). A break timer that is off does not expire (R2). -/
def execBreakTimerExpiry (n : Fin 32) (s : State) : Host.Outcome State Fault Refusal :=
  .next (if (s.line n).breakTimer.isSome then s.lineDies n else s).settle

/-! ## Grace (R151, R153) -/

/-- The story that a screen owns, in EDIT or under a grace. -/
def Screen.owned (c : Screen) : Option Nat :=
  match c.story with
  | some (n, .owner) => some n
  | _ => none

/-- A story, if there is one, is filed at its own desk or orphaned (R31). -/
def State.autoFileOf (s : State) (story : Option Nat) : State :=
  match story with
  | some n => s.autoFile n
  | none => s

/-- The grace of a screen ends by its expiry (R153). -/
def State.graceExpires (s : State) (n : Nat) : State :=
  (s.autoFileOf (s.screen n).owned).updScreen n Screen.dropGrace

/-- GRACE_EXPIRY (R153). A grace timer that is off does not expire (R2). -/
def execGraceExpiry (n : Fin 32) (s : State) : Host.Outcome State Fault Refusal :=
  .next (if (s.screen n).grace.isSome then s.graceExpires n else s).settle

/-! ## Restart and screens reset (R144, R119, R156) -/

/-- A line as a restart leaves it; the code in the shift finishes on the wire (R144). -/
def Line.restart (l : Line) (c : LineConfig) : Line := { Line.reset with state := .up, config := some c, shift := l.shift }

/-- A line and its screen restarted, but for the story that the screen owned (R144, R119). -/
def State.restartLine (s : State) (n : Nat) (c : LineConfig) : State :=
  (((s.updLine n fun l => l.restart c).stopViewing n).updScreen n fun _ => Screen.reset).comeUp n

/-- A restart of one line (R144). The story that the screen owned is filed as an arrival, which alerts the other screens signed on at its
desk (R31, R63), although R67 and R144 leave other screens as they were (log entry 50: DESIGN CHOICE). -/
def State.restart (s : State) (n : Nat) (c : LineConfig) : State :=
  (s.restartLine n c).autoFileOf (s.screen n).owned

/-- A configured line restarted with its configuration kept, but for the story that the screen owned. -/
def State.restartKept (s : State) (n : Nat) : State :=
  match (s.line n).config with
  | some c => s.restartLine n c
  | none => s

/-- A screens reset: every configured line is restarted, and then the stories that were owned are filed or orphaned in ascending
order of owner screen, when no screen is signed on to be alerted (R31, R45, R67, R119, R156). -/
def State.screensReset (s : State) : State :=
  let owned := (List.range Config.lines).filterMap fun n => (s.screen n).owned
  owned.foldl State.autoFile (s.overScreens State.restartKept)

/-! ## LINE_CONFIGURE (R142, R143) -/

/-- The fields of LINE_CONFIGURE as carried. -/
structure LineFields where
  line : Nat
  rate : Nat
  dataBits : Nat
  parity : Nat
  stopBits : Nat
  profile : Nat
  mask : Nat
  idleLimit : Nat
  deadThreshold : Nat
  grace : Nat
deriving DecidableEq, Repr

/-- The layout of LINE_CONFIGURE. -/
def readLine : Rd LineFields := do
  let line ← readNat 1
  let rate ← readNat 1
  let dataBits ← readNat 1
  let parity ← readNat 1
  let stopBits ← readNat 1
  let profile ← readNat 1
  let mask ← readNat 2
  let idleLimit ← readNat 4
  let deadThreshold ← readNat 4
  let grace ← readNat 4
  return ⟨line, rate, dataBits, parity, stopBits, profile, mask, idleLimit, deadThreshold, grace⟩

/-- Whether the values of LINE_CONFIGURE are among those it takes (R142 check 2), with its parity. -/
def LineFields.parity? (f : LineFields) : Option Parity :=
  if 31 < f.line ∨ 5 < f.rate ∨ (f.dataBits ≠ 7 ∧ f.dataBits ≠ 8) ∨ (f.stopBits ≠ 1 ∧ f.stopBits ≠ 2)
      ∨ 3 < f.profile ∨ 8 ≤ f.mask then none
  else Parity.ofCode f.parity

/-- The configuration that a LINE_CONFIGURE stores (R142). -/
def lineConfigAfter (old : Option LineConfig) (f : LineFields) (p : Parity) : LineConfig where
  rate := f.rate
  dataBits := f.dataBits
  parity := p
  stopBits := f.stopBits
  profile := f.profile
  idleLimit := if f.mask.testBit 0 then min f.idleLimit 3600 else (old.map LineConfig.idleLimit).getD 0
  deadThreshold :=
    if f.mask.testBit 1 then clampTo 5 100 f.deadThreshold else (old.map LineConfig.deadThreshold).getD 20
  grace := if f.mask.testBit 2 then min f.grace 600 else (old.map LineConfig.grace).getD 120

/-- Whether a LINE_CONFIGURE clamps a value. -/
def lineClamped (f : LineFields) (c : LineConfig) : Bool :=
  (f.mask.testBit 0 && c.idleLimit != f.idleLimit) || (f.mask.testBit 1 && c.deadThreshold != f.deadThreshold)
    || (f.mask.testBit 2 && c.grace != f.grace)

/-- Whether two configurations have one format (R141). -/
def LineConfig.sameFormat (a b : LineConfig) : Bool :=
  a.rate == b.rate && a.dataBits == b.dataBits && a.parity == b.parity && a.stopBits == b.stopBits

/-- A configuration stored on a line whose format stays (R143). -/
def State.storeLine (s : State) (n : Nat) (old c : LineConfig) : State :=
  let t := s.updLine n fun l => { l with config := some c }
  let t := if old.profile ≠ c.profile then t.reprofile n else t
  if old.idleLimit ≠ c.idleLimit then
    t.updScreen n fun x => if x.laidOut then { x with idle := loadIdle c.idleLimit } else x
  else t

/-- The effect of a LINE_CONFIGURE on its line and screen; none where it is refused BUSY (R143). -/
def State.configureLine (s : State) (n : Nat) (c : LineConfig) : Option State :=
  match (s.line n).config with
  | none => some ((s.updLine n fun l => l.restart c).comeUp n)
  | some old =>
    if !old.sameFormat c then some (s.restart n c)
    else if old.profile ≠ c.profile ∧ (s.screen n).mode = .edit then none
    else some (s.storeLine n old c)

/-- LINE_CONFIGURE (R142). -/
def reqLineConfigure (body : List Byte) (s : State) : State × List Byte :=
  match readBody readLine body with
  | none => refuse s .badLength
  | some f =>
    match f.parity? with
    | none => refuse s .badField
    | some p =>
      let c := lineConfigAfter (s.line f.line).config f p
      match s.configureLine f.line c with
      | none => refuse s .busy
      | some t =>
        answer t (okOr (lineClamped f c))
          (be 1 (t.line f.line).state.code ++ be 4 c.idleLimit ++ be 4 c.deadThreshold ++ be 4 c.grace)

end Sys2Proof.Machine
end

