-- ==== Sys2Proof/Machine/Keys.lean ====
section
/-! DEFINITION. What each key does: prompts, the basket view, moving through text, editing, the supervisor sequence and pages
(R120 to R140). -/

namespace Sys2Proof.Machine

/-- What a code is (R120). -/
inductive Key where
  | char (c : Byte)
  | fn (f : KeyFn)
  | unmapped
deriving DecidableEq, Repr

/-- A key as taken: `superCode` says that its code is the profile's supervisor code. -/
structure Struck where
  superCode : Bool
  key : Key
deriving DecidableEq, Repr

/-- The key of a code under a profile, the supervisor sequence apart (R120). -/
def Profile.keyOf (p : Profile) (c : Byte) : Key :=
  if printable c then .char c
  else
    match (if c.toNat < 32 then p.keyMap.getD c.toNat none else none) with
    | some f => .fn f
    | none => .unmapped

/-- A code of a type-ahead queue as a key (R120). -/
def Profile.struck (p : Profile) : QueuedKey → Struck
  | .code c => ⟨c == p.superCode, p.keyOf c⟩
  | .brk => ⟨false, .fn .cancel⟩

/-! ## Acknowledge and cancel (R135) -/

/-- ACK: the ring list is emptied and the host message acknowledged. -/
def Screen.acknowledge (c : Screen) : Screen :=
  { c.emptyRing with hostMessage := c.hostMessage.map fun m => (m.1, false) }

/-- ACK at screen n. -/
def State.acknowledge (s : State) (n : Nat) : State := s.updScreen n Screen.acknowledge

/-- CANCEL at screen n: any prompt is closed and the escape count is 0. -/
def State.cancel (s : State) (n : Nat) : State := s.updScreen n Screen.breakOff

/-- A prompt opened at screen n. -/
def State.ask (s : State) (n : Nat) (p : Prompt) (buffer : List Byte) : State := s.updScreen n (Screen.openPrompt p buffer)

/-- Whether the desk of screen n has an attribute. -/
def State.deskHas (s : State) (n : Nat) (attr : Desk → Bool) : Bool := (s.deskOf (s.screen n)).any attr

/-! ## Signing on (R51, R126, R152) -/

/-- A grace ends by a sign-on at the desk left: EDIT of the story with its cursor and viewport top (R152). -/
def State.resume (s : State) (n : Nat) : State :=
  s.updScreen n fun c =>
    (snapTop s { c with grace := none, mode := .edit, setView := false }).repaint s.clock.time

/-- A screen enters DESK with a full repaint. -/
def State.enterDeskFresh (s : State) (n d : Nat) : State :=
  (s.enterDesk n d).updScreen n (Screen.repaint s.clock.time)

/-- A screen that the desk unit has admitted (R126, R152). -/
def State.letIn (s : State) (n d : Nat) : State :=
  let c := s.screen n
  if c.grace.isNone then s.enterDeskFresh n d
  else if c.desk = some d then s.resume n
  else (s.graceExpires n).enterDeskFresh n d

/-- The SIGNON prompt completed (R51, R126). -/
def State.signOn (s : State) (n : Nat) (buffer : List Byte) : State :=
  let d := ofDigits (buffer.take 2)
  if buffer.length = 6 ∧ d ≤ 15 ∧ (s.desk d).any (fun k => k.code == buffer.drop 2) then s.letIn n d
  else s.deny n (str "SIGN-ON REFUSED")

/-! ## Stories asked for at screens (R24, R26, R27) -/

/-- Whether R27 lets a screen of a desk open a story. -/
def Story.openableAt (t : Story) (desk : Option Nat) : Bool :=
  desk == some t.desk && (t.state == .queued || (t.state == .open_ && t.owner.isNone))

/-- A screen in DESK opens a story (R27). -/
def State.openAt (s : State) (n story : Nat) : State :=
  match s.story story with
  | none => s.deny n (str "NOT FOUND")
  | some t =>
    if t.openableAt (s.screen n).desk then (s.toOpen story n).enterStory n story .owner
    else s.deny n (str "NOT AVAILABLE")

/-- A screen in DESK views a story (R24). -/
def State.viewAt (s : State) (n story : Nat) : State :=
  match s.story story with
  | none => s.deny n (str "NOT FOUND")
  | some t =>
    if Config.maxViewers ≤ t.viewers.length then s.deny n (str "VIEWERS FULL")
    else (s.updStory story fun x => { x with viewers := insertNum n x.viewers }).enterStory n story .viewer

/-- The story that a slug typed at a prompt names, or the message of its refusal (R21, R122). -/
def State.namedStory (s : State) (buffer : List Byte) : Except (List Byte) Nat :=
  match slugOf buffer with
  | none => .error (str "BAD SLUG")
  | some slug =>
    match s.findSlug slug with
    | none => .error (str "NOT FOUND")
    | some n => .ok n

/-- The OPEN_SLUG prompt completed as an open or a view (R127). -/
def State.openSlug (s : State) (n : Nat) (view : Bool) (buffer : List Byte) : State :=
  match s.namedStory buffer with
  | .error msg => s.deny n msg
  | .ok story => if view then s.viewAt n story else s.openAt n story

/-- A story created OPEN at a screen (R20, R26). -/
def State.createAt (s : State) (n d story : Nat) (k : Desk) (slug : List Byte) : State :=
  (s.setStory story (some (newStory slug .open_ .routine d (some n) k.style s.clock.time))).enterStory n story .owner

/-- The NEW_SLUG prompt completed (R26, R128). -/
def State.newAt (s : State) (n : Nat) (buffer : List Byte) : State :=
  match slugOf buffer, (s.screen n).desk with
  | some slug, some d =>
    if (s.findSlug slug).isSome then s.deny n (str "SLUG IN USE")
    else
      match s.emptyRecord, s.desk d with
      | some story, some k =>
        if !s.roomAt d then s.deny n (str "QUEUE FULL") else s.createAt n d story k slug
      | _, _ => s.deny n (str "TABLE FULL")
  | _, _ => s.deny n (str "BAD SLUG")

/-! ## The owned story as a whole (R28 to R30, R33, R57, R133) -/

/-- FILE (R28). -/
def State.fileAt (s : State) (n story : Nat) : State :=
  match s.story story with
  | none => s
  | some t =>
    if s.roomAt t.desk then (s.toQueued story (some n)).backToDesk n else s.deny n (str "QUEUE FULL")

/-- The desk a send goes to, or the message of its refusal (R57). -/
def State.sendTo (s : State) (t : Story) (buffer : List Byte) : Except (List Byte) Nat :=
  let k := s.desk t.desk
  match (if buffer = [] then k.bind Desk.route else some (ofDigits buffer)) with
  | none => .error (str "NO ROUTE")
  | some d =>
    if !(k.any fun x => x.allowed.contains d) then .error (str "NOT ROUTED")
    else if (s.desk d).isNone then .error (str "NO DESK")
    else if !s.roomAt d then .error (str "QUEUE FULL")
    else .ok d

/-- The SEND_DESK prompt completed (R29, R57, R133). -/
def State.sendAt (s : State) (n story : Nat) (buffer : List Byte) : State :=
  match s.story story with
  | none => s
  | some t =>
    match s.sendTo t buffer with
    | .error msg => s.deny n msg
    | .ok d => ((s.updStory story fun x => { x with desk := d }).toQueued story (some n)).backToDesk n

/-- The spike confirmed (R33, R133). -/
def State.spikeAt (s : State) (n story : Nat) : State :=
  match s.story story with
  | none => s
  | some t => if s.spikable t then (s.toSpiked story).backToDesk n else s.deny n (str "NOT ALLOWED")

/-- The priority chosen (R30, R133). -/
def State.priorityAt (s : State) (story : Nat) (p : Priority) : State :=
  (s.updStory story fun t => { t with priority := p }).touchStory story

/-! ## Pages (R136) -/

/-- The message of a refused release (R122). -/
def ReleaseRefusal.message (r : ReleaseRefusal) : List Byte :=
  let slot := twoDigits (r.slot.getD 0)
  match r.status with
  | .editionClosed => str "EDITION CLOSED"
  | .storyOpen => str "STORY OPEN SLOT " ++ slot
  | .fitPending => str "FIT PENDING SLOT " ++ slot
  | .overset => str "OVERSET SLOT " ++ slot ++ str " +" ++ decimal (r.excess.getD 0) ++ str " HP"
  | .full => str "SETTING QUEUE FULL"
  | _ => str "BAD PAGE STATE"

/-- The page that a page prompt names (R136). -/
def State.typedPage (s : State) (buffer : List Byte) : Option (Nat × Page) :=
  if buffer = [] ∨ 31 < ofDigits buffer then none else (s.page (ofDigits buffer)).map fun g => (ofDigits buffer, g)

/-- The PAGE_RELEASE prompt completed (R136). -/
def State.releaseAt (s : State) (n : Nat) (buffer : List Byte) : State :=
  if !s.deskHas n Desk.composing then s.deny n (str "NOT PERMITTED")
  else
    match s.typedPage buffer with
    | none => s.deny n (str "NO PAGE")
    | some (p, g) =>
      match s.releasePage p g with
      | .error r => s.deny n r.message
      | .ok t => t.tell n (pageMessage p (str " WAITING"))

/-- The PAGE_ABORT prompt completed (R136). -/
def State.abortAt (s : State) (n : Nat) (buffer : List Byte) : State :=
  if !s.deskHas n Desk.composing then s.deny n (str "NOT PERMITTED")
  else
    match s.typedPage buffer with
    | none => s.deny n (str "NO PAGE")
    | some (p, g) =>
      match s.abortPage p g with
      | none => s.deny n (str "BAD PAGE STATE")
      | some t => t

/-! ## Supervisor functions (R138 to R140) -/

/-- The SUPER_TAKE prompt completed (R139). -/
def State.takeAt (s : State) (n : Nat) (buffer : List Byte) : State :=
  if !s.deskHas n Desk.supervisor then s.deny n (str "NOT PERMITTED")
  else
    match s.namedStory buffer with
    | .error msg => s.deny n msg
    | .ok story =>
      if (s.story story).any fun t => t.state == .open_ then s.take story n else s.deny n (str "NOT OPEN")

/-- The SUPER_MOVE_SLUG prompt completed (R140). -/
def State.moveSlugAt (s : State) (n : Nat) (buffer : List Byte) : State :=
  if !s.deskHas n Desk.supervisor then s.deny n (str "NOT PERMITTED")
  else
    match s.namedStory buffer with
    | .error msg => s.deny n msg
    | .ok story =>
      if (s.story story).any fun t => t.state == .queued then
        (s.ask n .superMoveDesk []).updScreen n fun c => { c with promptArg := some story }
      else s.deny n (str "NOT QUEUED")

/-- The message of a refused move (R122, R140). -/
def moveMessage : Status → List Byte
  | .noSuch => str "NOT FOUND"
  | .full => str "QUEUE FULL"
  | _ => str "NOT QUEUED"

/-- The SUPER_MOVE_DESK prompt completed for the story held as its argument (R140). -/
def State.moveDeskAt (s : State) (n : Nat) (buffer : List Byte) (story : Option Nat) : State :=
  if buffer = [] ∨ 15 < ofDigits buffer then s.deny n (str "BAD DESK")
  else if !s.deskHas n Desk.supervisor then s.deny n (str "NOT PERMITTED")
  else
    match story.filter fun k => (s.story k).isSome with
    | none => s.deny n (str "NOT FOUND")
    | some k =>
      if (s.desk (ofDigits buffer)).isNone then s.deny n (str "NO DESK")
      else
        match s.moveStory k (ofDigits buffer) (some n) with
        | .error e => s.deny n (moveMessage e)
        | .ok t => t.tell n (str "MOVED")

/-- The function key of an armed screen (R138). -/
def State.functionKey (s : State) (n : Nat) (k : Key) : State :=
  if !s.deskHas n Desk.supervisor then s.deny n (str "NOT PERMITTED")
  else
    match k with
    | .char c =>
      if foldCase c = 0x54 then
        if (s.screen n).mode = .edit then s.deny n (str "FILE FIRST") else s.ask n .superTake []
      else if foldCase c = 0x4D then s.ask n .superMoveSlug []
      else s.bell n
    | .fn .cancel => s
    | .fn _ | .unmapped => s.bell n

/-! ## Prompts (R123, R124) -/

/-- The class of a prompt's characters. -/
def Prompt.takes (p : Prompt) (c : Byte) : Bool :=
  match p with
  | .closed => false
  | .signon | .sendDesk | .pageRelease | .pageAbort | .superMoveDesk => isDigit c
  | .newSlug | .openSlug | .superTake | .superMoveSlug => isSlugCode (foldCase c)
  | .priority => decide (0x30 ≤ c.toNat) && decide (c.toNat ≤ 0x33)
  | .spikeConfirm => foldCase c == 0x59

/-- The buffer limit of a prompt. -/
def Prompt.limit : Prompt → Nat
  | .closed => 0
  | .signon => 6
  | .newSlug | .openSlug | .superTake | .superMoveSlug => 12
  | .sendDesk | .pageRelease | .pageAbort | .superMoveDesk => 2
  | .priority | .spikeConfirm => 1

/-- An operation on the story that a screen owns; a screen that owns none is left. -/
def State.onOwned (s : State) (n : Nat) (f : Nat → State) : State :=
  match (s.screen n).owned with
  | some story => f story
  | none => s

/-- A prompt completed: it is closed, and its operation asked for with what its buffer held (R124). -/
def State.complete (s : State) (n : Nat) : State :=
  let c := s.screen n
  let t := s.updScreen n Screen.closePrompt
  match c.prompt with
  | .closed | .priority => t
  | .signon => t.signOn n c.buffer
  | .newSlug => t.newAt n c.buffer
  | .openSlug => t.openSlug n false c.buffer
  | .sendDesk => t.onOwned n fun story => t.sendAt n story c.buffer
  | .pageRelease => t.releaseAt n c.buffer
  | .pageAbort => t.abortAt n c.buffer
  | .spikeConfirm => t.tell n (str "NOT SPIKED")
  | .superTake => t.takeAt n c.buffer
  | .superMoveSlug => t.moveSlugAt n c.buffer
  | .superMoveDesk => t.moveDeskAt n c.buffer c.promptArg

/-- A character joins a prompt's buffer, letters of slugs folded (R123), or gives one bell (R124). -/
def Screen.bufferChar (c : Screen) (k : Byte) : Screen :=
  if c.prompt.takes k ∧ c.buffer.length < c.prompt.limit then { c with buffer := c.buffer ++ [foldCase k] } else c.bell

/-- A printable key with a prompt open (R124, R133). -/
def State.promptChar (s : State) (n : Nat) (k : Byte) : State :=
  let c := s.screen n
  match c.prompt with
  | .spikeConfirm =>
    let t := s.updScreen n Screen.closePrompt
    if c.prompt.takes k then t.onOwned n fun story => t.spikeAt n story else t.tell n (str "NOT SPIKED")
  | .priority =>
    match (if c.prompt.takes k then Priority.ofCode (k.toNat - 0x30) else none) with
    | some p =>
      let t := s.updScreen n Screen.closePrompt
      t.onOwned n fun story => t.priorityAt story p
    | none => s.bell n
  | _ => s.updScreen n fun c => c.bufferChar k

/-- RUBOUT with a prompt open (R124). -/
def Screen.bufferRubout (c : Screen) : Screen := if c.buffer = [] then c.bell else { c with buffer := c.buffer.dropLast }

/-- VIEW with a prompt open (R124). -/
def State.promptView (s : State) (n : Nat) : State :=
  let c := s.screen n
  if c.prompt = .openSlug then (s.updScreen n Screen.closePrompt).openSlug n true c.buffer else s.bell n

/-- A key with a prompt open (R124). -/
def State.promptKey (s : State) (n : Nat) (k : Key) : State :=
  match k with
  | .char c => s.promptChar n c
  | .fn .rubout => s.updScreen n Screen.bufferRubout
  | .fn .enter | .fn .insertEp => s.complete n
  | .fn .cancel => s.cancel n
  | .fn .ack => s.acknowledge n
  | .fn .viewStory => s.promptView n
  | .fn _ | .unmapped => s.bell n

/-! ## SIGNED_OFF and DESK (R126 to R128) -/

/-- A key in SIGNED_OFF with no prompt (R126). -/
def State.signedOffKey (s : State) (n : Nat) (k : Key) : State :=
  match k with
  | .char c => s.ask n .signon (if isDigit c then [c] else [])
  | .fn .enter | .fn .insertEp => s.ask n .signon []
  | .fn .ack => s.acknowledge n
  | .fn .cancel => s.cancel n
  | .fn _ | .unmapped => s.bell n

/-- The index a selection key moves to, with E edit rows and a view of so many items (R127). -/
def selectionTo (k : KeyFn) (editRows items i : Nat) : Nat :=
  match k with
  | .up => i - 1
  | .down => min (i + 1) (items - 1)
  | .top => 0
  | .bottom => items - 1
  | .prev => i - (editRows - 1)
  | .next => min (i + (editRows - 1)) (items - 1)
  | _ => i

/-- A selection key in DESK (R127). -/
def State.moveSelection (s : State) (n : Nat) (k : KeyFn) : State :=
  s.updScreen n fun c =>
    match c.selection, c.desk with
    | some (_, i), some d =>
      let view := s.basketView d
      let j := selectionTo k c.editRows view.length i
      match view[j]? with
      | some story => settleBasket s { c with selection := some (story, j) }
      | none => c
    | _, _ => c

/-- OPEN or VIEW of the selected item (R127). -/
def State.openSelected (s : State) (n : Nat) (view : Bool) : State :=
  match (s.screen n).selection with
  | none => s.deny n (str "NOT FOUND")
  | some (story, _) => if view then s.viewAt n story else s.openAt n story

/-- RELEASE or ABORT in DESK (R136). -/
def State.askPage (s : State) (n : Nat) (p : Prompt) : State :=
  if s.deskHas n Desk.composing then s.ask n p [] else s.deny n (str "NOT PERMITTED")

/-- A key in DESK with no prompt (R127, R128). -/
def State.deskKey (s : State) (n : Nat) (k : Key) : State :=
  match k with
  | .char c => if Prompt.openSlug.takes c then s.ask n .openSlug [foldCase c] else s.bell n
  | .fn .up => s.moveSelection n .up
  | .fn .down => s.moveSelection n .down
  | .fn .top => s.moveSelection n .top
  | .fn .bottom => s.moveSelection n .bottom
  | .fn .prev => s.moveSelection n .prev
  | .fn .next => s.moveSelection n .next
  | .fn .openStory => s.openSelected n false
  | .fn .viewStory => s.openSelected n true
  | .fn .newStory => s.ask n .newSlug []
  | .fn .signoff => s.signOff n
  | .fn .release => s.askPage n .pageRelease
  | .fn .abort => s.askPage n .pageAbort
  | .fn .ack => s.acknowledge n
  | .fn .cancel => s.cancel n
  | .fn _ | .unmapped => s.bell n

/-! ## Moving through text (R105, R129, R130) -/

/-- The viewport top that brings row r to edit row floor(E/2), or row 0 (R105). -/
def centredTop (starts : List Nat) (editRows r : Nat) : Nat := startOf starts (r - editRows / 2)

/-- A viewport moved before a key that is taken with the cursor hidden (R105). -/
def Screen.reveal (starts : List Nat) (c : Screen) : Screen :=
  let r := rowOf starts c.cursor
  let a := rowOf starts c.top
  if a ≤ r ∧ r < a + c.editRows then c else { c with top := centredTop starts c.editRows r }

/-- A viewport that follows the cursor after a key (R105). -/
def Screen.follow (starts : List Nat) (c : Screen) : Screen :=
  let r := rowOf starts c.cursor
  let a := rowOf starts c.top
  if a ≤ r ∧ r < a + c.editRows then c
  else if r + 1 = a then { c with top := startOf starts r }
  else if r = a + c.editRows then { c with top := startOf starts (a + 1) }
  else { c with top := centredTop starts c.editRows r }

/-- The last offset of a row, with the character count (R129). -/
def lastOffset (starts : List Nat) (count r : Nat) : Nat :=
  if r + 1 < starts.length then startOf starts (r + 1) - 1 else count

/-- The new cursor of a cursor key (R129). -/
def cursorTo (k : KeyFn) (starts : List Nat) (count x : Nat) : Nat :=
  let r := rowOf starts x
  let col := x - startOf starts r
  match k with
  | .left => x - 1
  | .right => min (x + 1) count
  | .up => if r = 0 then x else min (startOf starts (r - 1) + col) (lastOffset starts count (r - 1))
  | .down =>
    if r + 1 < starts.length then min (startOf starts (r + 1) + col) (lastOffset starts count (r + 1)) else x
  | .top => 0
  | .bottom => count
  | _ => x

/-- A cursor key in TYPE view: the viewport is brought to the cursor, the cursor moves, and the viewport follows (R105, R129).
The cursor address is due after every cursor key, also after one that leaves a shown cursor where it was (log entry 52: DESIGN
CHOICE). -/
def Screen.moveCursor (k : KeyFn) (starts : List Nat) (count : Nat) (c : Screen) : Screen :=
  let d := c.reveal starts
  { ({ d with cursor := cursorTo k starts count d.cursor } : Screen).follow starts with cursorDue := true }

/-- PREV or NEXT in TYPE view (R105). -/
def Screen.scroll (back : Bool) (starts : List Nat) (c : Screen) : Screen :=
  let a := rowOf starts c.top
  let r := if back then a - (c.editRows - 1) else min (a + (c.editRows - 1)) (starts.length - 1)
  { c with top := startOf starts r }

/-- The set top after a key, with E edit rows and so many set rows (R107, R130). -/
def setTopTo (k : KeyFn) (editRows rows top : Nat) : Nat :=
  match k with
  | .up => top - 1
  | .down => min (top + 1) (rows - 1)
  | .prev => top - (editRows - 1)
  | .next => min (top + (editRows - 1)) (rows - 1)
  | .top => 0
  | .bottom => rows - editRows
  | _ => top

/-- The viewport top at a set top: the start offset of the body line there, or 0 at a headline row (R107). -/
def setTopOffset (l : List SetLine × List SetLine) (top : Nat) : Nat :=
  if top < l.1.length then 0 else (l.2[top - l.1.length]?.map SetLine.start).getD 0

/-- The set rows of the story of a screen. -/
def State.setLinesOf (s : State) (c : Screen) : List SetLine × List SetLine :=
  match c.storyNo.bind fun n => (s.story n).map fun t => (n, t) with
  | some (n, t) => s.setLines n t
  | none => ([], [])

/-- A set top put in place (R107). -/
def Screen.putSetTop (l : List SetLine × List SetLine) (top : Nat) (c : Screen) : Screen :=
  { c with setTop := top, top := setTopOffset l top }

/-- The set top on switching to SET view (R107). -/
def firstSetTop (l : List SetLine × List SetLine) (cursor : Nat) : Nat :=
  let i := (l.2.takeWhile fun x => x.start ≤ cursor).length - 1
  if i = 0 then 0 else l.1.length + i

/-- The type row starts of the story of a screen. -/
def State.startsOf (s : State) (c : Screen) : List Nat :=
  typeStarts c.profile.cols ((c.storyNo.map s.text).getD [])

/-- The character count of the story of a screen. -/
def State.countOf (s : State) (c : Screen) : Nat := (c.storyNo.map s.count).getD 0

/-- A cursor key or a scroll key in EDIT or VIEW (R105, R129, R130). -/
def State.moveKey (s : State) (n : Nat) (k : KeyFn) : State :=
  s.updScreen n fun c =>
    if c.setView then
      match k with
      | .left | .right =>
        let d := dropToType s c
        d.moveCursor k (s.startsOf d) (s.countOf d)
      | _ =>
        let l := s.setLinesOf c
        c.putSetTop l (setTopTo k c.editRows (l.1.length + l.2.length) c.setTop)
    else
      match k with
      | .prev => c.scroll true (s.startsOf c)
      | .next => c.scroll false (s.startsOf c)
      | _ => c.moveCursor k (s.startsOf c) (s.countOf c)

/-- VIEWMODE in EDIT or VIEW (R107, R130). -/
def State.switchView (s : State) (n : Nat) : State :=
  let c := s.screen n
  if c.setView then s.updScreen n (dropToType s)
  else if (c.storyNo.bind s.story).any fun t => t.fit.any (·.valid) then
    let l := s.setLinesOf c
    s.updScreen n fun c => ({ c with setView := true } : Screen).putSetTop l (firstSetTop l c.cursor)
  else s.deny n (str "FIT PENDING")

/-! ## Editing (R131) -/

/-- A screen made ready for an edit key: in TYPE view, with the viewport brought to the cursor (R105, R107, R131). -/
def State.readyToEdit (s : State) (n : Nat) : State :=
  s.updScreen n fun c =>
    let d := dropToType s c
    d.reveal (s.startsOf d)

/-- The owner's cursor after an edit, with the viewport following it (R105, R106, R131). -/
def State.editedTo (s : State) (n x : Nat) : State :=
  s.updScreen n fun c =>
    let d := { c with cursor := x }
    d.follow (s.startsOf d)

/-- The message of a refused insert (R122). -/
def insertMessage : Status → List Byte
  | .storeFull => str "STORE FULL"
  | .limit => str "STORY LIMIT"
  | _ => str "NOT ALLOWED"

/-- Whether a screen is the owner of an OPEN story (R23). -/
def State.owns (s : State) (n story : Nat) : Bool :=
  (s.story story).any fun t => t.state == .open_ && t.owner == some n

/-- A code inserted at the cursor by a key of screen n (R12, R23, R131). -/
def State.insertKey (s : State) (n story : Nat) (c : Byte) : State :=
  let t := s.readyToEdit n
  let x := (t.screen n).cursor
  if !t.owns n story then t.deny n (str "NOT ALLOWED")
  else
    match t.keyInsert n story x c with
    | .error e => t.deny n (insertMessage e)
    | .ok u => u.editedTo n (x + 1)

/-- The code at an offset deleted by a key of screen n, after which the cursor stands there (R13, R23, R131). -/
def State.deleteKeyAt (s : State) (n story x : Nat) : State :=
  if !s.owns n story then s.deny n (str "NOT ALLOWED")
  else
    match s.keyDelete n story x with
    | none => s.bell n
    | some u => u.editedTo n x

/-- RUBOUT in EDIT (R131). -/
def State.ruboutKey (s : State) (n story : Nat) : State :=
  let t := s.readyToEdit n
  let x := (t.screen n).cursor
  if x = 0 then t.bell n else t.deleteKeyAt n story (x - 1)

/-- DELETE in EDIT (R131). -/
def State.deleteKey (s : State) (n story : Nat) : State :=
  let t := s.readyToEdit n
  t.deleteKeyAt n story (t.screen n).cursor

/-- NOTE in EDIT: a note open outside a note, a note close inside one (R8, R131). -/
def State.noteKey (s : State) (n story : Nat) : State :=
  s.insertKey n story (if insideNote (s.text story) (s.screen n).cursor then codeClose else codeOpen)

/-! ## EDIT and VIEW (R133, R134) -/

/-- A key in EDIT with no prompt (R129 to R133). -/
def State.editKey (s : State) (n story : Nat) (k : Key) : State :=
  match k with
  | .char c => s.insertKey n story c
  | .fn .insertEp => s.insertKey n story codeEp
  | .fn .note => s.noteKey n story
  | .fn .rubout => s.ruboutKey n story
  | .fn .delete => s.deleteKey n story
  | .fn .left => s.moveKey n .left
  | .fn .right => s.moveKey n .right
  | .fn .up => s.moveKey n .up
  | .fn .down => s.moveKey n .down
  | .fn .prev => s.moveKey n .prev
  | .fn .next => s.moveKey n .next
  | .fn .top => s.moveKey n .top
  | .fn .bottom => s.moveKey n .bottom
  | .fn .file => s.fileAt n story
  | .fn .send => s.ask n .sendDesk []
  | .fn .spike => s.ask n .spikeConfirm []
  | .fn .priority => s.ask n .priority []
  | .fn .fit => s.fitNow story
  | .fn .viewmode => s.switchView n
  | .fn .ack => s.acknowledge n
  | .fn .cancel => s.cancel n
  | .fn .closeView | .fn .signoff => s.deny n (str "FILE OR SEND")
  | .fn .newStory | .fn .openStory | .fn .viewStory | .fn .release | .fn .abort | .fn .enter | .unmapped => s.bell n

/-- CLOSE in VIEW (R134). -/
def State.closeView (s : State) (n : Nat) : State := (s.stopViewing n).backToDesk n

/-- A key in VIEW with no prompt (R129, R130, R134). -/
def State.viewKey (s : State) (n : Nat) (k : Key) : State :=
  match k with
  | .fn .left => s.moveKey n .left
  | .fn .right => s.moveKey n .right
  | .fn .up => s.moveKey n .up
  | .fn .down => s.moveKey n .down
  | .fn .prev => s.moveKey n .prev
  | .fn .next => s.moveKey n .next
  | .fn .top => s.moveKey n .top
  | .fn .bottom => s.moveKey n .bottom
  | .fn .viewmode => s.switchView n
  | .fn .ack => s.acknowledge n
  | .fn .cancel => s.cancel n
  | .fn .closeView => s.closeView n
  | .char _ | .fn .insertEp | .fn .rubout | .fn .delete | .fn .note | .fn .fit | .fn .priority | .fn .file
  | .fn .send | .fn .spike => s.deny n (str "VIEW ONLY")
  | .fn .newStory | .fn .openStory | .fn .viewStory | .fn .signoff | .fn .release | .fn .abort =>
    s.deny n (str "CLOSE FIRST")
  | .fn .enter | .unmapped => s.bell n

/-! ## Taking a key (R121, R137, R147) -/

/-- A key taken by the rules of the screen's state (R121 step 6). -/
def State.stateKey (s : State) (n : Nat) (k : Key) : State :=
  match (s.screen n).mode with
  | .down => s
  | .signedOff => s.signedOffKey n k
  | .desk => s.deskKey n k
  | .edit => s.onOwned n fun story => s.editKey n story k
  | .view => s.viewKey n k

/-- The escape count of screen n set. -/
def State.setEscape (s : State) (n count : Nat) : State := s.updScreen n fun c => { c with escape := count }

/-- A key judged by the supervisor sequence and then by the rules of the state, with no prompt open at a signed-on screen
(R137). -/
def State.sequenceKey (s : State) (n : Nat) (k : Struck) : State :=
  let count := (s.screen n).escape
  if 4 ≤ count then (s.setEscape n 0).functionKey n k.key
  else if k.superCode then
    if count = 3 then (s.setEscape n 4).tell n (str "SUPERVISOR") else s.setEscape n (count + 1)
  else (s.setEscape n 0).stateKey n k.key

/-- Steps 2 and 3 of R121, and the mark for the layout that ends every key (R96). -/
def State.keySteps (s : State) (n : Nat) : State :=
  s.updScreen n fun c =>
    { c with
      idle := loadIdle (s.idleLimit n)
      partMessage := none
      newMark := if c.mode = .desk then false else c.newMark
      layoutTime := s.clock.time }

/-- A key taken by a screen (R121). -/
def State.takeKey (s : State) (n : Nat) (k : Struck) : State :=
  let c := s.screen n
  if c.mode = .down then s
  else if c.blanked then s.wake n
  else
    let t := s.keySteps n
    if c.prompt ≠ .closed then t.promptKey n k.key
    else if c.mode = .signedOff then t.signedOffKey n k.key
    else t.sequenceKey n k

/-- The line whose oldest key the interpreter takes next: the first after the one it took last (R147). -/
def State.nextLine (s : State) : Option Nat :=
  ((List.range Config.lines).map fun i => (s.keyTurn + 1 + i) % Config.lines).find? fun n => !(s.line n).queue.isEmpty

/-- Whether the oldest key of line n is this one. -/
def State.headIs (s : State) (n : Nat) (k : Struck) : Bool :=
  (s.line n).queue.head?.any fun q => (s.screen n).profile.struck q == k

/-- The interpreter takes a key of line n. With keys waiting, it takes the oldest key of the line whose turn it is, and this key
must be that one; with none waiting, a key that arrives on an UP line is taken at once (R147). A key that only wakes its screen
(R114, R121) waits for the turn and counts in the rotation like any other (log entry 51: DESIGN CHOICE). -/
def State.keyTaken (s : State) (n : Nat) (k : Struck) : State :=
  match s.nextLine with
  | some m =>
    if m = n ∧ s.headIs n k then ({ s.updLine n Line.dequeue with keyTurn := n }).takeKey n k else s
  | none => if (s.line n).state = .up then ({ s with keyTurn := n }).takeKey n k else s

/-- The meaning of every key command. -/
def keyOutcome (n : Fin 32) (k : Struck) (s : State) : Host.Outcome State Fault Refusal := .next (s.keyTaken n k).settle

/-- A key function as struck. -/
def Struck.fn (f : KeyFn) : Struck := ⟨false, .fn f⟩

end Sys2Proof.Machine
end

