-- ==== Sys2Proof/Machine/KeyCommands.lean ====
section
/-! DEFINITION. The key commands: each is one key taken at a screen (R120, R121, R147). -/

namespace Sys2Proof.Machine

/-- KEY_PRINTABLE (R131). A code that is not printable is no printable key (R120). -/
def execKeyPrintable (n : Fin 32) (code : Byte) (s : State) : Host.Outcome State Fault Refusal :=
  if printable code then keyOutcome n ((s.screen n).profile.struck (.code code)) s else .next s.settle

/-- KEY_UNMAPPED (R120). -/
def execKeyUnmapped (n : Fin 32) (s : State) : Host.Outcome State Fault Refusal := keyOutcome n ⟨false, .unmapped⟩ s

/-- KEY_SUPERVISOR_CODE (R137). -/
def execKeySupervisorCode (n : Fin 32) (s : State) : Host.Outcome State Fault Refusal :=
  keyOutcome n ((s.screen n).profile.struck (.code (s.screen n).profile.superCode)) s

/-- KEY_INSERT_EP (R131). -/
def execKeyInsertEp (n : Fin 32) (s : State) : Host.Outcome State Fault Refusal := keyOutcome n (.fn .insertEp) s

/-- KEY_RUBOUT (R131). -/
def execKeyRubout (n : Fin 32) (s : State) : Host.Outcome State Fault Refusal := keyOutcome n (.fn .rubout) s

/-- KEY_DELETE (R131). -/
def execKeyDelete (n : Fin 32) (s : State) : Host.Outcome State Fault Refusal := keyOutcome n (.fn .delete) s

/-- KEY_NOTE (R8). -/
def execKeyNote (n : Fin 32) (s : State) : Host.Outcome State Fault Refusal := keyOutcome n (.fn .note) s

/-- KEY_LEFT (R129). -/
def execKeyLeft (n : Fin 32) (s : State) : Host.Outcome State Fault Refusal := keyOutcome n (.fn .left) s

/-- KEY_RIGHT (R129). -/
def execKeyRight (n : Fin 32) (s : State) : Host.Outcome State Fault Refusal := keyOutcome n (.fn .right) s

/-- KEY_UP (R129). -/
def execKeyUp (n : Fin 32) (s : State) : Host.Outcome State Fault Refusal := keyOutcome n (.fn .up) s

/-- KEY_DOWN (R129). -/
def execKeyDown (n : Fin 32) (s : State) : Host.Outcome State Fault Refusal := keyOutcome n (.fn .down) s

/-- KEY_PREV (R105). -/
def execKeyPrev (n : Fin 32) (s : State) : Host.Outcome State Fault Refusal := keyOutcome n (.fn .prev) s

/-- KEY_NEXT (R105). -/
def execKeyNext (n : Fin 32) (s : State) : Host.Outcome State Fault Refusal := keyOutcome n (.fn .next) s

/-- KEY_TOP (R129). -/
def execKeyTop (n : Fin 32) (s : State) : Host.Outcome State Fault Refusal := keyOutcome n (.fn .top) s

/-- KEY_BOTTOM (R129). -/
def execKeyBottom (n : Fin 32) (s : State) : Host.Outcome State Fault Refusal := keyOutcome n (.fn .bottom) s

/-- KEY_ENTER (R124). -/
def execKeyEnter (n : Fin 32) (s : State) : Host.Outcome State Fault Refusal := keyOutcome n (.fn .enter) s

/-- KEY_CANCEL (R135). -/
def execKeyCancel (n : Fin 32) (s : State) : Host.Outcome State Fault Refusal := keyOutcome n (.fn .cancel) s

/-- KEY_NEW (R128). -/
def execKeyNew (n : Fin 32) (s : State) : Host.Outcome State Fault Refusal := keyOutcome n (.fn .newStory) s

/-- KEY_OPEN (R127). -/
def execKeyOpen (n : Fin 32) (s : State) : Host.Outcome State Fault Refusal := keyOutcome n (.fn .openStory) s

/-- KEY_VIEW (R127). -/
def execKeyView (n : Fin 32) (s : State) : Host.Outcome State Fault Refusal := keyOutcome n (.fn .viewStory) s

/-- KEY_CLOSE (R134). -/
def execKeyClose (n : Fin 32) (s : State) : Host.Outcome State Fault Refusal := keyOutcome n (.fn .closeView) s

/-- KEY_FILE (R133). -/
def execKeyFile (n : Fin 32) (s : State) : Host.Outcome State Fault Refusal := keyOutcome n (.fn .file) s

/-- KEY_SEND (R133). -/
def execKeySend (n : Fin 32) (s : State) : Host.Outcome State Fault Refusal := keyOutcome n (.fn .send) s

/-- KEY_SPIKE (R133). -/
def execKeySpike (n : Fin 32) (s : State) : Host.Outcome State Fault Refusal := keyOutcome n (.fn .spike) s

/-- KEY_PRIORITY (R133). -/
def execKeyPriority (n : Fin 32) (s : State) : Host.Outcome State Fault Refusal := keyOutcome n (.fn .priority) s

/-- KEY_FIT (R133). -/
def execKeyFit (n : Fin 32) (s : State) : Host.Outcome State Fault Refusal := keyOutcome n (.fn .fit) s

/-- KEY_VIEWMODE (R130). -/
def execKeyViewmode (n : Fin 32) (s : State) : Host.Outcome State Fault Refusal := keyOutcome n (.fn .viewmode) s

/-- KEY_ACK (R135). -/
def execKeyAck (n : Fin 32) (s : State) : Host.Outcome State Fault Refusal := keyOutcome n (.fn .ack) s

/-- KEY_SIGNOFF (R116). -/
def execKeySignoff (n : Fin 32) (s : State) : Host.Outcome State Fault Refusal := keyOutcome n (.fn .signoff) s

/-- KEY_RELEASE (R136). -/
def execKeyRelease (n : Fin 32) (s : State) : Host.Outcome State Fault Refusal := keyOutcome n (.fn .release) s

/-- KEY_ABORT (R136). -/
def execKeyAbort (n : Fin 32) (s : State) : Host.Outcome State Fault Refusal := keyOutcome n (.fn .abort) s

end Sys2Proof.Machine
end

