-- ==== Sys2Proof/WellFormed.lean ====
section
/-! DEFINITION. Which commands a sender can make: a frame body holds at most 1,024 bytes (R201) and a printable key carries a
printable code (R120). Every other operand has the range its type gives it. -/

namespace Sys2Proof

/-- The longest body of a host frame (R201). -/
def maxBody : Nat := 1024

/-- Whether a code is printable (R4): 0x20 to 0x7E. -/
def isPrintable (c : Byte) : Bool := decide (0x20 ≤ c.toNat) && decide (c.toNat ≤ 0x7E)

/-- The body of a request command; none for the other commands. -/
def Instr.body? : Instr → Option (List Byte)
  | .identify _ b | .timeSet _ b | .attentionRead _ b | .attentionEnable _ b | .profileDefine _ b
  | .lineConfigure _ b | .screenStatus _ b | .screenMessage _ b | .screenSignoff _ b | .deskDefine _ b
  | .deskRoute _ b | .deskList _ b | .faceDefine _ b | .fitQuiet _ b | .fitRequest _ b | .fitStatus _ b
  | .linkConfigure _ b | .linkStatus _ b | .proofStart _ b | .proofStop _ b | .proofResult _ b
  | .storyLoad _ b | .storyAppend _ b | .storyRead _ b | .storyStatus _ b | .storyStyle _ b
  | .storyHead _ b | .storyMove _ b | .storySpike _ b | .storyPurge _ b | .storyRevise _ b
  | .storyFind _ b | .pageDefine _ b | .pagePlace _ b | .pageUnplace _ b | .pageRelease _ b
  | .pageAbort _ b | .pageStatus _ b | .editionClose _ b | .editionRollover _ b | .editionStatus _ b => some b
  | .powerOn _ | .hostFrameReceived _ | .frameAbandoned _ | .frameGapTimeout _ | .replySent
  | .attentionNotice | .resetScreens _ | .resetLink _ | .resetAll _ | .timeOfDayAdvance
  | .idleTimerExpiry _ | .ringTimerExpiry _ | .graceExpiry _ | .refitDue | .fitPassComplete
  | .terminalCharacterReceived _ _ | .breakEnd _ | .breakTimerExpiry _ | .keyPrintable _ _
  | .keyUnmapped _ | .keySupervisorCode _ | .keyInsertEp _ | .keyRubout _ | .keyDelete _ | .keyNote _
  | .keyLeft _ | .keyRight _ | .keyUp _ | .keyDown _ | .keyPrev _ | .keyNext _ | .keyTop _ | .keyBottom _
  | .keyEnter _ | .keyCancel _ | .keyNew _ | .keyOpen _ | .keyView _ | .keyClose _ | .keyFile _
  | .keySend _ | .keySpike _ | .keyPriority _ | .keyFit _ | .keyViewmode _ | .keyAck _ | .keySignoff _
  | .keyRelease _ | .keyAbort _ | .transmissionComplete _ | .losWindowEnd _ | .acquireTimerExpiry
  | .ready _ _ | .blockSent | .ack _ _ | .nak _ _ | .ackTimeout | .hold _ _ | .go _ _ | .lossTimerExpiry
  | .abortWaitExpiry | .proofBitReceived _ | .proofTimebaseReached _ | .unloopSent => none

/-- The character of a printable key; none for the other commands. -/
def Instr.char? : Instr → Option Byte
  | .keyPrintable _ c => some c
  | _ => none

/-- Whether a sender can make this command. -/
def Instr.wf (c : Instr) : Bool :=
  (c.body?.all fun b => decide (b.length ≤ maxBody)) && c.char?.all isPrintable

end Sys2Proof
end

