-- ==== Sys2Proof/Machine/HostLine.lean ====
section
/-! DEFINITION. The host line unit: requests, replies, notices, the frame receiver, resets and power-on (R201 to R208). -/

namespace Sys2Proof.Machine

/-! ## Identification and attention (R203, R205, R207) -/

/-- Change the host line unit. -/
def State.updHost (s : State) (f : HostLine → HostLine) : State := { s with host := f s.host }

/-- The fields of IDENTIFY's reply: the part, its revision, the strap as read, and the capacities (R203). -/
def identity (strap : BitVec 3) : List Byte :=
  be 2 5318 ++ be 1 0x02 ++ be 1 strap.toNat ++ be 1 Config.lines ++ be 2 Config.stories ++ be 4 Config.blocks
    ++ be 1 Config.desks ++ be 1 Config.pages ++ be 1 Config.faces

/-- IDENTIFY (R203). -/
def reqIdentify (body : List Byte) (s : State) : State × List Byte :=
  match readBody readNothing body with
  | none => refuse s .badLength
  | some _ => answer s .ok (identity s.host.strap)

/-- The three error flags of a line in a byte (11.6). -/
def Line.errorByte (l : Line) : Byte :=
  byte ((if l.overrun then 1 else 0) + (if l.parityError then 2 else 0) + (if l.framing then 4 else 0))

/-- The fields of ATTENTION_READ's reply (R207, 11.6). -/
def attentionReport (s : State) : List Byte :=
  be 2 s.host.flags.toNat ++ be 2 s.host.enables.toNat ++ be 4 (maskOf s.host.lineDown)
    ++ be 4 (maskOf s.host.lineError) ++ be 2 (maskOf s.host.deskOverdue)
    ++ (List.range Config.lines).map fun n => if s.host.lineError.contains n then (s.line n).errorByte else 0

/-- After the clearing of an ATTENTION_READ: outstanding is false, and a flag still raised makes a new notice due (R207). -/
def HostLine.reopen (h : HostLine) : HostLine :=
  let g := { h with outstanding := false }
  if g.flags &&& g.enables = 0 then g else g.notify

/-- ATTENTION_READ (R207). -/
def reqAttentionRead (body : List Byte) (s : State) : State × List Byte :=
  match readBody (readNat 2) body with
  | none => refuse s .badLength
  | some mask =>
    if 4096 ≤ mask then refuse s .badField
    else answer ((s.clearFlags (BitVec.ofNat 12 mask)).updHost HostLine.reopen) .ok (attentionReport s)

/-- ATTENTION_ENABLE (R205). -/
def reqAttentionEnable (body : List Byte) (s : State) : State × List Byte :=
  match readBody (readNat 2) body with
  | none => refuse s .badLength
  | some mask =>
    if 4096 ≤ mask then refuse s .badField
    else
      let new := BitVec.ofNat 12 mask
      let t := s.clearFlags (s.host.enables &&& ~~~new)
      answer (t.updHost fun h => { h with enables := new }) .ok (be 2 mask)

/-! ## Resets (R208) -/

/-- A full reset: every block as its chapter states. The queue of commands, the pins, the step counter and the count of free
values drawn are not the part's to reset. -/
def State.fullReset (s : State) : State :=
  { State.reset with
    host := { HostLine.reset with strap := s.strapPins }
    clock := ⟨s.clock.steps, 0, 10⟩
    strapPins := s.strapPins
    drawn := s.drawn
    pending := s.pending }

/-- RESET by its scope (R208). -/
def reqReset (body : List Byte) (s : State) : State × List Byte :=
  match readBody (readNat 1) body with
  | none => refuse s .badLength
  | some scope =>
    match scope with
    | 0 => answer s.screensReset .ok []
    | 1 => answer s.linkReset .ok []
    | 2 => answer s.fullReset .ok []
    | _ => refuse s .badField

/-! ## Serving (R202) -/

/-- The catalogue of requests by kind (11.5). -/
def catalogue (kind : Nat) : Option (List Byte → State → State × List Byte) :=
  match kind with
  | 0x01 => some reqIdentify
  | 0x02 => some reqTimeSet
  | 0x03 => some reqReset
  | 0x04 => some reqAttentionRead
  | 0x05 => some reqAttentionEnable
  | 0x10 => some reqProfileDefine
  | 0x11 => some reqLineConfigure
  | 0x12 => some reqScreenStatus
  | 0x13 => some reqScreenMessage
  | 0x14 => some reqScreenSignoff
  | 0x20 => some reqDeskDefine
  | 0x21 => some reqDeskRoute
  | 0x22 => some reqDeskList
  | 0x30 => some reqFaceDefine
  | 0x31 => some reqFitQuiet
  | 0x32 => some reqFitRequest
  | 0x33 => some reqFitStatus
  | 0x40 => some reqStoryLoad
  | 0x41 => some reqStoryAppend
  | 0x42 => some reqStoryRead
  | 0x43 => some reqStoryStatus
  | 0x44 => some reqStoryStyle
  | 0x45 => some reqStoryHead
  | 0x46 => some reqStoryMove
  | 0x47 => some reqStorySpike
  | 0x48 => some reqStoryPurge
  | 0x49 => some reqStoryRevise
  | 0x4A => some reqStoryFind
  | 0x50 => some reqPageDefine
  | 0x51 => some reqPagePlace
  | 0x52 => some reqPageUnplace
  | 0x53 => some reqPageRelease
  | 0x54 => some reqPageAbort
  | 0x55 => some reqPageStatus
  | 0x56 => some reqEditionClose
  | 0x57 => some reqEditionRollover
  | 0x58 => some reqEditionStatus
  | 0x60 => some reqLinkConfigure
  | 0x61 => some reqLinkStatus
  | 0x62 => some reqProofStart
  | 0x63 => some reqProofStop
  | 0x64 => some reqProofResult
  | _ => none

/-- Whether a notice may go before a reply that has just become ready: one was due with it. The new notice of an ATTENTION_READ
follows its reply (R202, R207). -/
def noticeContends (kind : Byte) (before after : State) : Bool :=
  if kind = 0x04 then before.host.noticesDue != 0 else after.host.noticesDue != 0

/-- A reply of a kind, with a tag and a body, becomes ready (R202). -/
def State.reply (s : State) (kind tag : Byte) (body : List Byte) (contended : Bool) : State :=
  s.updHost fun h => { h with reply := some ⟨hostFrame kind tag body, contended⟩ }

/-- A request taken and answered (R202). -/
def State.serve (s : State) (r : Request) : State :=
  match catalogue r.kind.toNat with
  | none => s.reply 0x80 r.tag [Status.unknownKind.code, r.kind] (s.host.noticesDue != 0)
  | some handler =>
    let t := handler r.body s
    t.1.reply (r.kind + 0x80) r.tag t.2 (noticeContends r.kind s t.1)

/-- A frame that passes its CRC: taken at once, held, or discarded with FRAME_ERROR (R201). -/
def State.accept (s : State) (r : Request) : State :=
  if s.host.reply.isNone then s.serve r
  else if s.host.hold.isNone then s.updHost fun h => { h with hold := some r }
  else s.raise .frameError

/-! ## The receiver (R201) -/

/-- The receiver returns to HUNTING. -/
def State.hunt (s : State) : State := s.updHost fun h => { h with receiver := .hunting }

/-- A frame is abandoned or discarded. -/
def State.frameLost (s : State) : State := s.hunt.raise .frameError

/-- The bytes after a start byte as a frame of body length n whose last CRC byte is in: the request, if the CRC agrees. -/
def frameRequest (bytes : List Byte) (n : Nat) : Option Request :=
  match bytes.drop 2 with
  | kind :: tag :: rest =>
    if be 2 (crc16 (bytes.take (n + 4))).toNat = rest.drop n then some ⟨kind, tag, rest.take n⟩ else none
  | _ => none

/-- The bytes of a frame so far, with one more: abandoned when the length exceeds 1,024, judged when the last byte is in. -/
def State.assemble (s : State) (bytes : List Byte) : State :=
  let n := ofBe (bytes.take 2)
  if bytes.length < 2 then s.updHost fun h => { h with receiver := .assembling bytes }
  else if maxBody < n then s.frameLost
  else if bytes.length < n + 6 then s.updHost fun h => { h with receiver := .assembling bytes }
  else
    match frameRequest bytes n with
    | some r => s.hunt.accept r
    | none => s.frameLost

/-- One byte of the host line. -/
def State.hostByte (s : State) (b : Byte) : State :=
  match s.host.receiver with
  | .hunting => if b = 0xA5 then s.updHost fun h => { h with receiver := .assembling [] } else s
  | .assembling bytes => s.assemble (bytes ++ [b])

/-- Bytes of the host line, in order. -/
def State.hostBytes (s : State) (bytes : List Byte) : State := bytes.foldl State.hostByte s

/-- A frame that is being assembled is abandoned; a receiver that is HUNTING drops what it has without report. -/
def State.breakFrame (s : State) : State :=
  match s.host.receiver with
  | .hunting => s
  | .assembling _ => s.frameLost

/-- HOST_FRAME_RECEIVED (R201). -/
def execHostFrameReceived (bytes : List Byte) (s : State) : Host.Outcome State Fault Refusal :=
  .next (s.hostBytes bytes).settle

/-- FRAME_ABANDONED (R201): bytes, and then one with a framing error. -/
def execFrameAbandoned (bytes : List Byte) (s : State) : Host.Outcome State Fault Refusal :=
  .next (s.hostBytes bytes).breakFrame.settle

/-- FRAME_GAP_TIMEOUT (R201): bytes, and then none for more than 50 ms. -/
def execFrameGapTimeout (bytes : List Byte) (s : State) : Host.Outcome State Fault Refusal :=
  .next (s.hostBytes bytes).breakFrame.settle

/-! ## Sending (R202, R206) -/

/-- The reply has been sent: the frame in the hold, if there is one, is taken (R202). -/
def State.replySent (s : State) : State :=
  if s.host.reply.isNone then s
  else
    match s.host.hold with
    | none => s.updHost fun h => { h with reply := none }
    | some r => (s.updHost fun h => { h with reply := none, hold := none }).serve r

/-- REPLY_SENT (R202). With no reply being sent there is none to end. -/
def execReplySent (s : State) : Host.Outcome State Fault Refusal := .next s.replySent.settle

/-- Whether the transmitter may send a notice now (R202, R206). -/
def HostLine.mayNotice (h : HostLine) : Bool := h.noticesDue != 0 && h.reply.all (·.contended)

/-- A notice is sent, with the flags as they stand; a reply that was ready with it goes next (R202, R206). -/
def HostLine.sendNotice (h : HostLine) : HostLine :=
  { h with
    noticesDue := h.noticesDue - 1
    notice := some (hostFrame 0xFF 0 (be 2 h.flags.toNat))
    reply := h.reply.map fun r => { r with contended := false } }

/-- ATTENTION_NOTICE (R206). -/
def execAttentionNotice (s : State) : Host.Outcome State Fault Refusal :=
  .next (if s.host.mayNotice then s.updHost HostLine.sendNotice else s).settle

/-! ## Power-on and the requests as commands -/

/-- POWER_ON (R208, R1). -/
def execPowerOn (pins : BitVec 3) (s : State) : Host.Outcome State Fault Refusal :=
  .next ({ s with strapPins := pins }).fullReset.settle

/-- An intact frame of a request completes (R201); no frame has a body above 1,024 bytes. -/
def State.requestIn (s : State) (r : Request) : State :=
  if maxBody < r.body.length then s.frameLost else s.hunt.accept r

/-- The outcome of a request command. -/
def requestOutcome (kind tag : Byte) (body : List Byte) (s : State) : Host.Outcome State Fault Refusal :=
  .next (s.requestIn ⟨kind, tag, body⟩).settle

end Sys2Proof.Machine
end

