-- ==== Sys2Proof/Machine/Requests.lean ====
section
/-! DEFINITION. The request commands: each is an intact frame of its kind that completes (R201, R202, 11.5). -/

namespace Sys2Proof.Machine

/-- IDENTIFY (R203). -/
def execIdentify (tag : Byte) (body : List Byte) (s : State) : Host.Outcome State Fault Refusal :=
  requestOutcome 0x01 tag body s

/-- TIME_SET (R204). -/
def execTimeSet (tag : Byte) (body : List Byte) (s : State) : Host.Outcome State Fault Refusal :=
  requestOutcome 0x02 tag body s

/-- RESET_SCREENS (R208). -/
def execResetScreens (tag : Byte) (s : State) : Host.Outcome State Fault Refusal :=
  requestOutcome 0x03 tag [0] s

/-- RESET_LINK (R208, R191). -/
def execResetLink (tag : Byte) (s : State) : Host.Outcome State Fault Refusal :=
  requestOutcome 0x03 tag [1] s

/-- RESET_ALL (R208). -/
def execResetAll (tag : Byte) (s : State) : Host.Outcome State Fault Refusal :=
  requestOutcome 0x03 tag [2] s

/-- ATTENTION_READ (R207). -/
def execAttentionRead (tag : Byte) (body : List Byte) (s : State) : Host.Outcome State Fault Refusal :=
  requestOutcome 0x04 tag body s

/-- ATTENTION_ENABLE (R205). -/
def execAttentionEnable (tag : Byte) (body : List Byte) (s : State) : Host.Outcome State Fault Refusal :=
  requestOutcome 0x05 tag body s

/-- PROFILE_DEFINE (R94). -/
def execProfileDefine (tag : Byte) (body : List Byte) (s : State) : Host.Outcome State Fault Refusal :=
  requestOutcome 0x10 tag body s

/-- LINE_CONFIGURE (R142). -/
def execLineConfigure (tag : Byte) (body : List Byte) (s : State) : Host.Outcome State Fault Refusal :=
  requestOutcome 0x11 tag body s

/-- SCREEN_STATUS (R118). -/
def execScreenStatus (tag : Byte) (body : List Byte) (s : State) : Host.Outcome State Fault Refusal :=
  requestOutcome 0x12 tag body s

/-- SCREEN_MESSAGE (R100). -/
def execScreenMessage (tag : Byte) (body : List Byte) (s : State) : Host.Outcome State Fault Refusal :=
  requestOutcome 0x13 tag body s

/-- SCREEN_SIGNOFF (R117). -/
def execScreenSignoff (tag : Byte) (body : List Byte) (s : State) : Host.Outcome State Fault Refusal :=
  requestOutcome 0x14 tag body s

/-- DESK_DEFINE (R47). -/
def execDeskDefine (tag : Byte) (body : List Byte) (s : State) : Host.Outcome State Fault Refusal :=
  requestOutcome 0x20 tag body s

/-- DESK_ROUTE (R49). -/
def execDeskRoute (tag : Byte) (body : List Byte) (s : State) : Host.Outcome State Fault Refusal :=
  requestOutcome 0x21 tag body s

/-- DESK_LIST (R50). -/
def execDeskList (tag : Byte) (body : List Byte) (s : State) : Host.Outcome State Fault Refusal :=
  requestOutcome 0x22 tag body s

/-- FACE_DEFINE (R69). -/
def execFaceDefine (tag : Byte) (body : List Byte) (s : State) : Host.Outcome State Fault Refusal :=
  requestOutcome 0x30 tag body s

/-- FIT_QUIET (R81). -/
def execFitQuiet (tag : Byte) (body : List Byte) (s : State) : Host.Outcome State Fault Refusal :=
  requestOutcome 0x31 tag body s

/-- FIT_REQUEST (R85). -/
def execFitRequest (tag : Byte) (body : List Byte) (s : State) : Host.Outcome State Fault Refusal :=
  requestOutcome 0x32 tag body s

/-- FIT_STATUS (R89). -/
def execFitStatus (tag : Byte) (body : List Byte) (s : State) : Host.Outcome State Fault Refusal :=
  requestOutcome 0x33 tag body s

/-- LINK_CONFIGURE (R175). -/
def execLinkConfigure (tag : Byte) (body : List Byte) (s : State) : Host.Outcome State Fault Refusal :=
  requestOutcome 0x60 tag body s

/-- LINK_STATUS (R190). -/
def execLinkStatus (tag : Byte) (body : List Byte) (s : State) : Host.Outcome State Fault Refusal :=
  requestOutcome 0x61 tag body s

/-- PROOF_START (R193). -/
def execProofStart (tag : Byte) (body : List Byte) (s : State) : Host.Outcome State Fault Refusal :=
  requestOutcome 0x62 tag body s

/-- PROOF_STOP (R198). -/
def execProofStop (tag : Byte) (body : List Byte) (s : State) : Host.Outcome State Fault Refusal :=
  requestOutcome 0x63 tag body s

/-- PROOF_RESULT (R200). -/
def execProofResult (tag : Byte) (body : List Byte) (s : State) : Host.Outcome State Fault Refusal :=
  requestOutcome 0x64 tag body s

/-- STORY_LOAD (R36). -/
def execStoryLoad (tag : Byte) (body : List Byte) (s : State) : Host.Outcome State Fault Refusal :=
  requestOutcome 0x40 tag body s

/-- STORY_APPEND (R37). -/
def execStoryAppend (tag : Byte) (body : List Byte) (s : State) : Host.Outcome State Fault Refusal :=
  requestOutcome 0x41 tag body s

/-- STORY_READ (R38). -/
def execStoryRead (tag : Byte) (body : List Byte) (s : State) : Host.Outcome State Fault Refusal :=
  requestOutcome 0x42 tag body s

/-- STORY_STATUS (R44). -/
def execStoryStatus (tag : Byte) (body : List Byte) (s : State) : Host.Outcome State Fault Refusal :=
  requestOutcome 0x43 tag body s

/-- STORY_STYLE (R39). -/
def execStoryStyle (tag : Byte) (body : List Byte) (s : State) : Host.Outcome State Fault Refusal :=
  requestOutcome 0x44 tag body s

/-- STORY_HEAD (R40). -/
def execStoryHead (tag : Byte) (body : List Byte) (s : State) : Host.Outcome State Fault Refusal :=
  requestOutcome 0x45 tag body s

/-- STORY_MOVE (R41). -/
def execStoryMove (tag : Byte) (body : List Byte) (s : State) : Host.Outcome State Fault Refusal :=
  requestOutcome 0x46 tag body s

/-- STORY_SPIKE (R33). -/
def execStorySpike (tag : Byte) (body : List Byte) (s : State) : Host.Outcome State Fault Refusal :=
  requestOutcome 0x47 tag body s

/-- STORY_PURGE (R42). -/
def execStoryPurge (tag : Byte) (body : List Byte) (s : State) : Host.Outcome State Fault Refusal :=
  requestOutcome 0x48 tag body s

/-- STORY_REVISE (R43). -/
def execStoryRevise (tag : Byte) (body : List Byte) (s : State) : Host.Outcome State Fault Refusal :=
  requestOutcome 0x49 tag body s

/-- STORY_FIND (R44). -/
def execStoryFind (tag : Byte) (body : List Byte) (s : State) : Host.Outcome State Fault Refusal :=
  requestOutcome 0x4A tag body s

/-- PAGE_DEFINE (R158). -/
def execPageDefine (tag : Byte) (body : List Byte) (s : State) : Host.Outcome State Fault Refusal :=
  requestOutcome 0x50 tag body s

/-- PAGE_PLACE (R160). -/
def execPagePlace (tag : Byte) (body : List Byte) (s : State) : Host.Outcome State Fault Refusal :=
  requestOutcome 0x51 tag body s

/-- PAGE_UNPLACE (R162). -/
def execPageUnplace (tag : Byte) (body : List Byte) (s : State) : Host.Outcome State Fault Refusal :=
  requestOutcome 0x52 tag body s

/-- PAGE_RELEASE (R163). -/
def execPageRelease (tag : Byte) (body : List Byte) (s : State) : Host.Outcome State Fault Refusal :=
  requestOutcome 0x53 tag body s

/-- PAGE_ABORT (R168). -/
def execPageAbort (tag : Byte) (body : List Byte) (s : State) : Host.Outcome State Fault Refusal :=
  requestOutcome 0x54 tag body s

/-- PAGE_STATUS (R169). -/
def execPageStatus (tag : Byte) (body : List Byte) (s : State) : Host.Outcome State Fault Refusal :=
  requestOutcome 0x55 tag body s

/-- EDITION_CLOSE (R170). -/
def execEditionClose (tag : Byte) (body : List Byte) (s : State) : Host.Outcome State Fault Refusal :=
  requestOutcome 0x56 tag body s

/-- EDITION_ROLLOVER (R171). -/
def execEditionRollover (tag : Byte) (body : List Byte) (s : State) : Host.Outcome State Fault Refusal :=
  requestOutcome 0x57 tag body s

/-- EDITION_STATUS (R172). -/
def execEditionStatus (tag : Byte) (body : List Byte) (s : State) : Host.Outcome State Fault Refusal :=
  requestOutcome 0x58 tag body s

end Sys2Proof.Machine
end

