-- ==== Sys2Proof/Machine/Dispatch.lean ====
section
/-! DEFINITION. One arm for each command. -/

namespace Sys2Proof.Machine

/-- The effect of a command on everything but the queue. -/
def exec (i : Instr) (s : State) : Host.Outcome State Fault Refusal :=
  match i with
  | .powerOn pins => Sys2Proof.Machine.execPowerOn pins s
  | .hostFrameReceived bytes => Sys2Proof.Machine.execHostFrameReceived bytes s
  | .frameAbandoned bytes => Sys2Proof.Machine.execFrameAbandoned bytes s
  | .frameGapTimeout bytes => Sys2Proof.Machine.execFrameGapTimeout bytes s
  | .replySent => Sys2Proof.Machine.execReplySent s
  | .attentionNotice => Sys2Proof.Machine.execAttentionNotice s
  | .identify tag body => Sys2Proof.Machine.execIdentify tag body s
  | .timeSet tag body => Sys2Proof.Machine.execTimeSet tag body s
  | .resetScreens tag => Sys2Proof.Machine.execResetScreens tag s
  | .resetLink tag => Sys2Proof.Machine.execResetLink tag s
  | .resetAll tag => Sys2Proof.Machine.execResetAll tag s
  | .attentionRead tag body => Sys2Proof.Machine.execAttentionRead tag body s
  | .attentionEnable tag body => Sys2Proof.Machine.execAttentionEnable tag body s
  | .profileDefine tag body => Sys2Proof.Machine.execProfileDefine tag body s
  | .lineConfigure tag body => Sys2Proof.Machine.execLineConfigure tag body s
  | .screenStatus tag body => Sys2Proof.Machine.execScreenStatus tag body s
  | .screenMessage tag body => Sys2Proof.Machine.execScreenMessage tag body s
  | .screenSignoff tag body => Sys2Proof.Machine.execScreenSignoff tag body s
  | .deskDefine tag body => Sys2Proof.Machine.execDeskDefine tag body s
  | .deskRoute tag body => Sys2Proof.Machine.execDeskRoute tag body s
  | .deskList tag body => Sys2Proof.Machine.execDeskList tag body s
  | .faceDefine tag body => Sys2Proof.Machine.execFaceDefine tag body s
  | .fitQuiet tag body => Sys2Proof.Machine.execFitQuiet tag body s
  | .fitRequest tag body => Sys2Proof.Machine.execFitRequest tag body s
  | .fitStatus tag body => Sys2Proof.Machine.execFitStatus tag body s
  | .linkConfigure tag body => Sys2Proof.Machine.execLinkConfigure tag body s
  | .linkStatus tag body => Sys2Proof.Machine.execLinkStatus tag body s
  | .proofStart tag body => Sys2Proof.Machine.execProofStart tag body s
  | .proofStop tag body => Sys2Proof.Machine.execProofStop tag body s
  | .proofResult tag body => Sys2Proof.Machine.execProofResult tag body s
  | .storyLoad tag body => Sys2Proof.Machine.execStoryLoad tag body s
  | .storyAppend tag body => Sys2Proof.Machine.execStoryAppend tag body s
  | .storyRead tag body => Sys2Proof.Machine.execStoryRead tag body s
  | .storyStatus tag body => Sys2Proof.Machine.execStoryStatus tag body s
  | .storyStyle tag body => Sys2Proof.Machine.execStoryStyle tag body s
  | .storyHead tag body => Sys2Proof.Machine.execStoryHead tag body s
  | .storyMove tag body => Sys2Proof.Machine.execStoryMove tag body s
  | .storySpike tag body => Sys2Proof.Machine.execStorySpike tag body s
  | .storyPurge tag body => Sys2Proof.Machine.execStoryPurge tag body s
  | .storyRevise tag body => Sys2Proof.Machine.execStoryRevise tag body s
  | .storyFind tag body => Sys2Proof.Machine.execStoryFind tag body s
  | .pageDefine tag body => Sys2Proof.Machine.execPageDefine tag body s
  | .pagePlace tag body => Sys2Proof.Machine.execPagePlace tag body s
  | .pageUnplace tag body => Sys2Proof.Machine.execPageUnplace tag body s
  | .pageRelease tag body => Sys2Proof.Machine.execPageRelease tag body s
  | .pageAbort tag body => Sys2Proof.Machine.execPageAbort tag body s
  | .pageStatus tag body => Sys2Proof.Machine.execPageStatus tag body s
  | .editionClose tag body => Sys2Proof.Machine.execEditionClose tag body s
  | .editionRollover tag body => Sys2Proof.Machine.execEditionRollover tag body s
  | .editionStatus tag body => Sys2Proof.Machine.execEditionStatus tag body s
  | .timeOfDayAdvance => Sys2Proof.Machine.execTimeOfDayAdvance s
  | .idleTimerExpiry n => Sys2Proof.Machine.execIdleTimerExpiry n s
  | .ringTimerExpiry n => Sys2Proof.Machine.execRingTimerExpiry n s
  | .graceExpiry n => Sys2Proof.Machine.execGraceExpiry n s
  | .refitDue => Sys2Proof.Machine.execRefitDue s
  | .fitPassComplete => Sys2Proof.Machine.execFitPassComplete s
  | .terminalCharacterReceived n frame => Sys2Proof.Machine.execTerminalCharacterReceived n frame s
  | .breakEnd n => Sys2Proof.Machine.execBreakEnd n s
  | .breakTimerExpiry n => Sys2Proof.Machine.execBreakTimerExpiry n s
  | .keyPrintable n code => Sys2Proof.Machine.execKeyPrintable n code s
  | .keyUnmapped n => Sys2Proof.Machine.execKeyUnmapped n s
  | .keySupervisorCode n => Sys2Proof.Machine.execKeySupervisorCode n s
  | .keyInsertEp n => Sys2Proof.Machine.execKeyInsertEp n s
  | .keyRubout n => Sys2Proof.Machine.execKeyRubout n s
  | .keyDelete n => Sys2Proof.Machine.execKeyDelete n s
  | .keyNote n => Sys2Proof.Machine.execKeyNote n s
  | .keyLeft n => Sys2Proof.Machine.execKeyLeft n s
  | .keyRight n => Sys2Proof.Machine.execKeyRight n s
  | .keyUp n => Sys2Proof.Machine.execKeyUp n s
  | .keyDown n => Sys2Proof.Machine.execKeyDown n s
  | .keyPrev n => Sys2Proof.Machine.execKeyPrev n s
  | .keyNext n => Sys2Proof.Machine.execKeyNext n s
  | .keyTop n => Sys2Proof.Machine.execKeyTop n s
  | .keyBottom n => Sys2Proof.Machine.execKeyBottom n s
  | .keyEnter n => Sys2Proof.Machine.execKeyEnter n s
  | .keyCancel n => Sys2Proof.Machine.execKeyCancel n s
  | .keyNew n => Sys2Proof.Machine.execKeyNew n s
  | .keyOpen n => Sys2Proof.Machine.execKeyOpen n s
  | .keyView n => Sys2Proof.Machine.execKeyView n s
  | .keyClose n => Sys2Proof.Machine.execKeyClose n s
  | .keyFile n => Sys2Proof.Machine.execKeyFile n s
  | .keySend n => Sys2Proof.Machine.execKeySend n s
  | .keySpike n => Sys2Proof.Machine.execKeySpike n s
  | .keyPriority n => Sys2Proof.Machine.execKeyPriority n s
  | .keyFit n => Sys2Proof.Machine.execKeyFit n s
  | .keyViewmode n => Sys2Proof.Machine.execKeyViewmode n s
  | .keyAck n => Sys2Proof.Machine.execKeyAck n s
  | .keySignoff n => Sys2Proof.Machine.execKeySignoff n s
  | .keyRelease n => Sys2Proof.Machine.execKeyRelease n s
  | .keyAbort n => Sys2Proof.Machine.execKeyAbort n s
  | .transmissionComplete n => Sys2Proof.Machine.execTransmissionComplete n s
  | .losWindowEnd active => Sys2Proof.Machine.execLosWindowEnd active s
  | .acquireTimerExpiry => Sys2Proof.Machine.execAcquireTimerExpiry s
  | .ready number check => Sys2Proof.Machine.execReady number check s
  | .blockSent => Sys2Proof.Machine.execBlockSent s
  | .ack number check => Sys2Proof.Machine.execAck number check s
  | .nak number check => Sys2Proof.Machine.execNak number check s
  | .ackTimeout => Sys2Proof.Machine.execAckTimeout s
  | .hold number check => Sys2Proof.Machine.execHold number check s
  | .go number check => Sys2Proof.Machine.execGo number check s
  | .lossTimerExpiry => Sys2Proof.Machine.execLossTimerExpiry s
  | .abortWaitExpiry => Sys2Proof.Machine.execAbortWaitExpiry s
  | .proofBitReceived bit => Sys2Proof.Machine.execProofBitReceived bit s
  | .proofTimebaseReached bit => Sys2Proof.Machine.execProofTimebaseReached bit s
  | .unloopSent => Sys2Proof.Machine.execUnloopSent s

end Sys2Proof.Machine
end

