-- ==== Sys2Proof/Machine/Timebase.lean ====
section
/-! DEFINITION. One step of the timebase (R2): it moves every timer, and the expiries it causes join the queue as commands (log
entries 1 and 2). -/

namespace Sys2Proof.Machine

/-- A timer one unit on; it stays at 0 on the step that would take it below zero, until its expiry is taken. -/
def countdown (t : Option Nat) : Option Nat := t.map fun n => n - 1

/-- Whether a timer expires on this step (R2). -/
def expires (t : Option Nat) : Bool := t == some 0

/-- A timer that counts in seconds: it moves only on the steps of the seconds count. -/
def countSecond (second : Bool) (t : Option Nat) : Option Nat := if second then countdown t else t

/-- Whether a step number ends a second for the timers that count in seconds, the idle, grace and loss timers. R2 (and so R113, R151
and R188) gives no phase: the model takes one for all of them, apart from the time of day's own advance (log entry 45: DESIGN
CHOICE). -/
def isSecond (step : Nat) : Bool := step % 10 == 0

/-! ## Which expiries a step causes -/

/-- A command for each screen or line of which a test holds, in ascending order. -/
def forEach (test : Nat → Bool) (command : Fin 32 → Instr) : List Instr :=
  (List.finRange 32).filterMap fun (n : Fin 32) => if test n.val then some (command n) else none

/-- Whether the pass under way completes at this step: at its longest duration, and before it as the free value says (R87). -/
def State.passDone (s : State) : Bool :=
  s.fit.pass.any fun p => decide (p.limit ≤ p.elapsed + 1) || Config.passEnds s.drawn

/-- The expiries of one step, in the order of the table. -/
def State.expiries (s : State) : List Instr :=
  let step := s.clock.steps + 1
  let second := isSecond step
  let due := (s.fit.refit.filter fun e => e.due ≤ step).length
  (if s.clock.untilAdvance ≤ 1 then [Instr.timeOfDayAdvance] else [])
    ++ forEach (fun n => second && expires (s.screen n).idle) Instr.idleTimerExpiry
    ++ forEach (fun n => expires (s.screen n).ringTimer) Instr.ringTimerExpiry
    ++ forEach (fun n => second && expires (s.screen n).grace) Instr.graceExpiry
    ++ List.replicate due Instr.refitDue
    ++ (if s.passDone then [Instr.fitPassComplete] else [])
    ++ forEach (fun n => expires (s.line n).breakTimer) Instr.breakTimerExpiry
    ++ (if expires s.link.acquireTimer then [Instr.acquireTimerExpiry] else [])
    ++ (if expires s.link.ackTimer then [Instr.ackTimeout] else [])
    ++ (if second && expires (s.link.setting.bind SettingPage.lossTimer) then [Instr.lossTimerExpiry] else [])
    ++ (if expires (s.link.abortWait.map AbortWait.timer) then [Instr.abortWaitExpiry] else [])

/-! ## The timers after a step -/

/-- The timers of a screen. -/
def Screen.tick (second : Bool) (c : Screen) : Screen :=
  { c with
    idle := countSecond second c.idle
    ringTimer := countdown c.ringTimer
    grace := countSecond second c.grace }

/-- The codes a transmitter can have sent in a tenth of a second; a line that is not UP has at most one in its shift. -/
def Line.codesPerTenth (l : Line) : Nat := (l.config.map LineConfig.codesPerTenth).getD 1

/-- Codes of an item pass through buffer and shift, so many of them, or all but the last (R155; log entry 15). -/
def Line.codesEnd (l : Line) : Line := Nat.repeat Line.codeEnds (min l.codesPerTenth (l.unfed.length + 1)) l

/-- The break timer and the transmitter of a line. -/
def Line.tick (l : Line) : Line := { l.codesEnd with breakTimer := countdown l.breakTimer }

/-- The timers of the link. -/
def Link.tick (second : Bool) (l : Link) : Link :=
  { l with
    acquireTimer := countdown l.acquireTimer
    ackTimer := countdown l.ackTimer
    abortWait := l.abortWait.map fun w => { w with timer := w.timer - 1 }
    setting := l.setting.map fun x => { x with lossTimer := countSecond second x.lossTimer } }

/-- The pass under way, one tenth on. -/
def FitUnit.tick (f : FitUnit) : FitUnit :=
  { f with pass := f.pass.map fun p => { p with elapsed := p.elapsed + 1 } }

/-- The clock one step on; the advance of the time of day is a command of its own (R204). -/
def Clock.tick (c : Clock) : Clock := ⟨c.steps + 1, c.time, c.untilAdvance - 1⟩

/-- One step of the timebase: the timers move, and the expiries join the queue. -/
def State.tick (s : State) : State :=
  let second := isSecond (s.clock.steps + 1)
  { s with
    screens := s.screens.map (Screen.tick second)
    lines := s.lines.map Line.tick
    link := s.link.tick second
    fit := s.fit.tick
    clock := s.clock.tick
    drawn := if s.fit.pass.isSome then s.drawn + 1 else s.drawn
    pending := s.pending ++ s.expiries }

end Sys2Proof.Machine
end

