-- ==== Sys2Proof/Safety.lean ====
section
/-! DEFINITION. What a safe run is, and the terms in which statements speak: what the paint leaves unchanged, an answered request,
a screen ready for a key, and the invariants. -/

namespace Sys2Proof.Machine

/-! ## Safe runs -/

/-- A state from which each of the next `count` steps answers a next state. -/
def Safe : Nat → State → Prop
  | 0, _ => True
  | count + 1, s => ∃ t, step s = .next t ∧ Safe count t

/-! ## What the layout and the transmitters do not touch -/

/-- A screen less the fields that a layout, a transmission and the settling of a basket selection may change. -/
def Screen.kept (c : Screen) : Screen :=
  { c with
    image := [], layout := [], layoutTime := 0, cursorAt := none, cursorDue := false, clearDue := false
    bells := 0, ringDue := false, selection := none, basketTop := 0 }

/-- A line less what its transmitter holds. -/
def Line.kept (l : Line) : Line := { l with item := none, unfed := [], buffer := none, shift := none }

/-- A state less what the layout and the transmitters may change. -/
def State.kept (s : State) : State :=
  { s with screens := s.screens.map Screen.kept, lines := s.lines.map Line.kept }

/-! ## Requests -/

/-- The state after a request of no further effect: the receiver is HUNTING and a reply is ready, with which a notice that is
due may contend (R202). -/
def State.answered (s : State) (kind tag : Byte) (body : List Byte) : State :=
  { s with host := { s.host with
      receiver := .hunting
      reply := some ⟨hostFrame kind tag body, s.host.noticesDue != 0⟩ } }

/-! ## What a statement's frame names -/

/-- Nothing of the copy store, the story table, the desks, the baskets and the fit engine changed. -/
def SameCopy (s t : State) : Prop :=
  t.store = s.store ∧ t.stories = s.stories ∧ t.desks = s.desks ∧ t.baskets = s.baskets ∧ t.fit = s.fit

/-- Nothing of the pages, the setting queue, the edition, the link and the proof changed. -/
def SameOutput (s t : State) : Prop :=
  t.pages = s.pages ∧ t.settingQueue = s.settingQueue ∧ t.edition = s.edition ∧ t.link = s.link ∧ t.proof = s.proof

/-- Nothing of the lines but what they send, of the profiles, the clock, the strap and the queue changed. -/
def SameLines (s t : State) : Prop :=
  t.lines.map Line.kept = s.lines.map Line.kept ∧ t.profiles = s.profiles ∧ t.clock = s.clock ∧
    t.strapPins = s.strapPins ∧ t.pending = s.pending

/-- Nothing of the host line changed but the receiver, which is HUNTING, and the reply to a request (R202). -/
def Replied (s t : State) (kind tag : Byte) (body : List Byte) : Prop :=
  t.host = (s.answered kind tag body).host

/-! ## Keys -/

/-- No key waits in any type-ahead queue. -/
def State.noKeyWaits (s : State) : Prop := ∀ l ∈ s.lines, l.queue = []

/-- A key that arrives on line n is taken at once by its screen, in a given state with a given prompt and escape count, and
not BLANKED (R121, R147). -/
def State.atKeys (s : State) (n : Fin 32) (mode : Mode) (prompt : Prompt) (escape : Nat) : Prop :=
  s.noKeyWaits ∧ (s.line n).state = .up ∧ n.val < s.screens.length ∧ (s.screen n).mode = mode ∧
    (s.screen n).blanked = false ∧ (s.screen n).prompt = prompt ∧ (s.screen n).escape = escape

/-- Screen n is ready for a key in EDIT of story k, whose record is x (R23). -/
def State.editing (s : State) (n : Fin 32) (k : Nat) (x : Story) : Prop :=
  s.atKeys n .edit .closed 0 ∧ (s.screen n).story = some (k, .owner) ∧ s.story k = some x ∧ x.state = .open_ ∧
    x.owner = some n.val

/-- Screen n is ready for a key in EDIT of a story it owns, or in VIEW of one it views. -/
def State.inStory (s : State) (n : Fin 32) (k : Nat) : Prop :=
  (s.atKeys n .edit .closed 0 ∧ (s.screen n).story = some (k, .owner)) ∨
    (s.atKeys n .view .closed 0 ∧ (s.screen n).story = some (k, .viewer))

/-- Keys wait, and the interpreter's turn is line n's: no line between the one whose key it took last and n has a key (R147). -/
def State.turn (s : State) (n : Fin 32) : Prop :=
  (s.line n).queue ≠ [] ∧ ∃ i < 32, n.val = (s.keyTurn + 1 + i) % 32 ∧
    ∀ j < i, (s.line ((s.keyTurn + 1 + j) % 32)).queue = []

/-- The commands that are keys of screen n: the printable keys, the 28 key functions, and the two others (R120). -/
def IsKeyOf (n : Fin 32) (c : Instr) : Prop :=
  (∃ code, printable code = true ∧ c = .keyPrintable n code) ∨
    c ∈ [Instr.keyUnmapped n, .keySupervisorCode n, .keyInsertEp n, .keyRubout n, .keyDelete n, .keyNote n, .keyLeft n,
      .keyRight n, .keyUp n, .keyDown n, .keyPrev n, .keyNext n, .keyTop n, .keyBottom n, .keyEnter n, .keyCancel n,
      .keyNew n, .keyOpen n, .keyView n, .keyClose n, .keyFile n, .keySend n, .keySpike n, .keyPriority n, .keyFit n,
      .keyViewmode n, .keyAck n, .keySignoff n, .keyRelease n, .keyAbort n]

/-- The desk of screen n has the supervisor attribute. -/
def State.atSupervisor (s : State) (n : Fin 32) : Prop :=
  ∃ d, (s.screen n).desk = some d ∧ ∃ k ∈ s.desk d, k.supervisor = true

/-- The desk of screen n has the composing attribute. -/
def State.atComposing (s : State) (n : Fin 32) : Prop :=
  ∃ d, (s.screen n).desk = some d ∧ ∃ k ∈ s.desk d, k.composing = true

/-- The slug typed at a prompt names story k, whose record is x, and no other story has it (R21). -/
def State.typed (s : State) (n : Fin 32) (k : Nat) (x : Story) : Prop :=
  k < 512 ∧ s.story k = some x ∧ 1 ≤ (s.screen n).buffer.length ∧ (s.screen n).buffer.length ≤ 12 ∧
    ((s.screen n).buffer.map foldCase).all isSlugCode = true ∧ x.slug = (s.screen n).buffer.map foldCase ∧
    ∀ m < 512, ∀ u, s.story m = some u → u.slug = x.slug → m = k

/-- Steps 2 and 3 of R121 on a screen, with an idle limit, and its layout at the present time of day (R96). -/
def Screen.afterKey (limit time : Nat) (c : Screen) : Screen :=
  { c with
    idle := if limit = 0 then none else some limit
    partMessage := none
    newMark := if c.mode = .desk then false else c.newMark
    layoutTime := time }

/-- The state after a key of screen n that changes that screen only, beyond the steps every key makes. -/
def State.keyOn (s : State) (n : Fin 32) (f : Screen → Screen) : State :=
  { s with
    keyTurn := n
    screens := s.screens.modify n fun c => f (c.afterKey (s.idleLimit n) s.clock.time) }

/-- A refusal on a screen that is not DOWN: its message and one bell (R122). -/
def Screen.denied (msg : List Byte) (c : Screen) : Screen :=
  { c with partMessage := some msg, bells := min 4 (c.bells + 1) }

/-- A refusal of what a prompt asked for: the prompt is closed, with the message and one bell (R122, R124). -/
def Screen.turnedAway (msg : List Byte) (c : Screen) : Screen :=
  Screen.denied msg { c with prompt := .closed, buffer := [], promptArg := none }

/-- A screen that a host message reaches, unless it is DOWN: a text with one bell, or no text, which withdraws the message; either way
it is laid out at the present time of day (R96, R100). -/
def Screen.messaged (time : Nat) (text : List Byte) (c : Screen) : Screen :=
  if c.mode = .down then c
  else if text = [] then { c with hostMessage := c.hostMessage.map (fun m => (m.1, false)), layoutTime := time }
  else { c with hostMessage := some (text, true), bells := min 4 (c.bells + 1), layoutTime := time }

/-! ## Copy -/

/-- A record after a change of its version: one more, and a fit that was VALID is STALE (R25, R80). -/
def Story.changed (x : Story) : Story :=
  { x with version := x.version + 1, fit := x.fit.map fun r => { r with valid := false } }

/-- Story k alone is scheduled anew in the refit list, on the (q + 1)th step from now (R82). -/
def Rescheduled (s t : State) (k : Nat) : Prop :=
  t.fit.refit.filter (fun e => e.story == k) = [⟨k, s.clock.steps + s.fit.quiet + 1⟩] ∧
    t.fit.refit.filter (fun e => e.story != k) = s.fit.refit.filter (fun e => e.story != k) ∧
    t.fit.queue = s.fit.queue ∧ t.fit.pass = s.fit.pass ∧ t.fit.faces = s.fit.faces ∧ t.fit.quiet = s.fit.quiet

/-- No story but k changed, and no text but k's. -/
def OthersKept (s t : State) (k : Nat) : Prop :=
  ∀ m, m ≠ k → t.story m = s.story m ∧ t.chain m = s.chain m

/-- A basket with one entry more, at the tail of its class (R53). -/
def JoinsClass (s : State) (before after : List Entry) (e : Entry) (rank : Nat) : Prop :=
  ∃ l r, before = l ++ r ∧ after = l ++ e :: r ∧ (∀ y ∈ l, s.rank y ≤ rank) ∧ (∀ y ∈ r.head?, rank < s.rank y)

/-- A story whose placement, if it has one, is on no page that is WAITING or SETTING. -/
def OffPress (s : State) (x : Story) : Prop :=
  ∀ at_ ∈ x.placement, ∀ g ∈ s.page at_.1, g.state ≠ .waiting ∧ g.state ≠ .setting

/-- A key of screen n changed the text of story k, whose record was x, and left the cursor at an offset; the cursors of the other
screens of the story moved as told (R12, R13, R25, R106). -/
def TextKeyed (s t : State) (n : Fin 32) (k : Nat) (x : Story) (text : List Byte) (cursor : Nat) (move : Nat → Nat) : Prop :=
  t.text k = text ∧ t.story k = some x.changed ∧ OthersKept s t k ∧ Rescheduled s t k ∧
    (t.screen n).cursor = cursor ∧ (t.screen n).setView = false ∧ (t.screen n).mode = .edit ∧
    (t.screen n).story = some (k, .owner) ∧
    (∀ m : Nat, m ≠ n.val → (t.screen m).cursor =
      if (s.screen m).storyNo = some k then move (s.screen m).cursor else (s.screen m).cursor) ∧
    t.desks = s.desks ∧ t.baskets = s.baskets ∧ SameOutput s t ∧ SameLines s t ∧
    t.host = if s.storeLow = false ∧ t.storeLow = true then (s.raise .storeLow).host else s.host

/-- The fit of story k, whose record is x, was asked for: it waits behind a pass under way, and an idle engine with nothing
waiting takes it at once if its faces are defined (R83 to R86). -/
def FitAsked (s t : State) (k : Nat) (x : Story) : Prop :=
  (s.fit.pass.isSome = true → t.fit.pass = s.fit.pass ∧
    t.fit.queue = if k ∈ s.fit.queue then s.fit.queue else s.fit.queue ++ [k]) ∧
  (s.fit.pass = none → s.fit.queue = [] → t.fit.queue = [] ∧
    t.fit.pass =
      if s.facesDefined x then
        some
          { story := k
            version := x.version
            bodyGen := (s.face x.style.face).generation
            headGen := x.head.map fun h => (s.face h.style.face).generation
            elapsed := 0
            limit := 1 + (s.count k + 2999) / 3000 }
      else none) ∧
  t.fit.faces = s.fit.faces ∧ t.fit.quiet = s.fit.quiet ∧ t.store = s.store ∧ t.stories = s.stories ∧
    t.desks = s.desks ∧ t.baskets = s.baskets ∧ SameOutput s t ∧ SameLines s t

/-- A story that lost its owner's screen is QUEUED at its own desk, or, where that basket is full, an orphan (R31). -/
def FiledOrOrphaned (s t : State) (k : Nat) (x : Story) : Prop :=
  ((s.basket x.desk).length < 64 → t.story k = some { x with state := .queued, owner := none } ∧
    JoinsClass t (s.basket x.desk) (t.basket x.desk) ⟨k, s.clock.time, false⟩ x.priority.code) ∧
  (64 ≤ (s.basket x.desk).length → t.story k = some { x with owner := none } ∧ t.baskets = s.baskets ∧
    (s.host.enabled .storyOrphaned = true → t.host.raised .storyOrphaned = true)) ∧
  (∀ d, d ≠ x.desk → t.basket d = s.basket d) ∧ ∀ m, m ≠ k → t.story m = s.story m

/-- Stories that lost their owners' screens are filed or orphaned one after another, in the order of a list (R31, R45). -/
def FiledInTurn : List Nat → State → State → Prop
  | [], s, t => t.stories = s.stories ∧ t.baskets = s.baskets ∧ t.host.enables = s.host.enables ∧
      ∀ f, s.host.raised f = true → t.host.raised f = true
  | k :: rest, s, t => ∃ x u, s.story k = some x ∧ FiledOrOrphaned s u k x ∧ u.clock = s.clock ∧
      u.host.enables = s.host.enables ∧ (∀ f, s.host.raised f = true → u.host.raised f = true) ∧ FiledInTurn rest u t

/-- A block is composed from a place in page p's galley: it holds the records from there on, as many as fit in 256 bytes, and it is the
page's last block exactly when none remains (R182). -/
def ComposedBlock (s : State) (p : Nat) (g : Page) (position : Nat) (after : Nat) (b : CurrentBlock) : Prop :=
  ∃ records rest, (galley s p g).drop position = records ++ rest ∧ after = position + records.length ∧
    b.payload = records.flatMap GalleyRecord.bytes ∧ b.payload.length ≤ 256 ∧
    (∀ r ∈ rest.head?, 256 < b.payload.length + r.bytes.length) ∧ (b.last = true ↔ rest = [])

/-- Page p, which was g, was released: its QUEUED stories are SETTING and it is WAITING at the queue's tail, or, where the link may
take it, SETTING with its first block composed (R34, R164, R165, R180, R182). -/
def PageReleased (s t : State) (p : Nat) (g : Page) : Prop :=
  (∀ m x, s.story m = some x →
    t.story m = some (if x.state = .queued ∧ (∃ z ∈ g.slots, z.story = some m) then { x with state := .setting }
      else x)) ∧
  (s.link.cond ≠ .up ∨ s.link.activity ≠ .idle →
    t.page p = some { g with state := .waiting, cause := none } ∧ t.settingQueue = s.settingQueue ++ [p] ∧
      t.link = s.link) ∧
  (s.link.cond = .up → s.link.activity = .idle → s.link.poor = false → s.settingQueue = [] → g.label.length ≤ 8 →
    t.page p = some { g with state := .setting, cause := none } ∧ t.settingQueue = [] ∧
      t.link.activity = .setting ∧ t.link.nextNum = s.link.nextNum + 1 ∧
      ∃ b, t.link.current = some b ∧ t.link.setting.map SettingPage.page = some p ∧ b.num = s.link.nextNum ∧
        b.tries = 1 ∧ b.settled = false ∧ b.payload.take 3 = [0x01, 0x0B, byte p] ∧ b.payload.length ≤ 256 ∧
        (∀ x ∈ t.link.setting, ComposedBlock s p g 0 x.position b) ∧
        (s.link.held = false → b.phase = .sending ∧ t.link.forward = s.link.forward ++ [⟨b.num, .data, b.payload⟩]) ∧
        (s.link.held = true → b.phase = .unsent ∧ t.link.forward = s.link.forward)) ∧
  (∀ q, q ≠ p → t.page q = s.page q) ∧ t.store = s.store ∧ t.desks = s.desks ∧ t.baskets = s.baskets ∧
    t.fit = s.fit ∧ t.proof = s.proof ∧ SameLines s t

/-- Page p, which was g, may be released: it is OPEN with a story placed, and each placed story is QUEUED or SET with a VALID fit no
deeper than its slot (R163). A queue that is not empty waits for its link. -/
def Releasable (s : State) (p : Nat) (g : Page) : Prop :=
  s.page p = some g ∧ g.state = .open_ ∧ s.edition.closed = false ∧ (∃ z ∈ g.slots, z.story ≠ none) ∧
    (∀ z ∈ g.slots, ∀ m ∈ z.story, ∃ x r, s.story m = some x ∧ (x.state = .queued ∨ x.state = .set_) ∧ x.fit = some r ∧
      r.valid = true ∧ r.saturated = false ∧ r.depth ≤ z.allowance) ∧
    s.settingQueue.length < 8 ∧ (s.settingQueue ≠ [] → s.link.mayTake = false)

/-- Page p, which was g, WAITING or SETTING, was aborted: OPEN again with cause ABORTED, out of the queue, or with its galley ended
(R34, R168, R189). -/
def PageAborted (s t : State) (p : Nat) (g : Page) : Prop :=
  (t.settingQueue = s.settingQueue.filter (· != p) ∨ g.state = .setting) ∧
  (∀ m x, s.story m = some x →
    t.story m = some (if x.state = .setting ∧ (∃ z ∈ g.slots, z.story = some m) then { x with state := .queued }
      else x)) ∧
  (s.host.enabled .pageFailed = true → t.host.raised .pageFailed = true) ∧
  (g.state = .waiting → t.page p = some { g with state := .open_, cause := some .aborted } ∧ t.link = s.link) ∧
  (∀ x, g.state = .setting → s.link.setting = some x → x.page = p → s.link.cond = .up → s.link.held = false →
    t.page p = some { g with state := .open_, cause := some .aborted } ∧ t.settingQueue = s.settingQueue ∧
      t.link = { s.link with
        nextNum := s.link.nextNum + 1
        setting := none
        ackTimer := none
        forward := s.link.forward ++ [⟨s.link.nextNum, .abort, [0x09, 0x01, byte p]⟩] }) ∧
  (∀ x, g.state = .setting → s.link.setting = some x → x.page = p → (s.link.cond ≠ .up ∨ s.link.held = true) →
    s.settingQueue = [] →
    t.page p = some { g with state := .open_, cause := some .aborted } ∧
      t.link = { s.link with setting := none, ackTimer := none, activity := .idle }) ∧
  t.store = s.store ∧ t.desks = s.desks ∧ t.baskets = s.baskets ∧ t.fit = s.fit ∧ t.proof = s.proof ∧ SameLines s t

/-- A page as an edition begins: OPEN in it, with no failure cause (R171). -/
def Page.inEdition (number : Nat) (g : Page) : Page := { g with edition := number, state := .open_, cause := none }

/-! ## Movement -/

/-- A cursor key takes the cursor of screen n to an offset, changes nothing else but the viewport, and leaves the cursor in view
(R105, R129). -/
def CursorMoved (s : State) (n : Fin 32) (c : Instr) (x : Nat) : Prop :=
  ∃ top, exec c s = .next (s.keyOn n fun d => { d with cursor := x, top := top, cursorDue := true }).settle ∧
    ((s.keyOn n fun d => { d with cursor := x, top := top, cursorDue := true }).settle.screen n).cursorAt ≠ none

/-- LEFT or RIGHT in SET view: screen n drops to TYPE view and its cursor goes to an offset in view (R107, R130). -/
def CursorLeavesSetView (s : State) (n : Fin 32) (c : Instr) (x : Nat) : Prop :=
  ∃ top t,
    t = (s.keyOn n fun d => { d with setView := false, setTop := 0, cursor := x, top := top, cursorDue := true }).settle ∧
      exec c s = .next t ∧ (t.screen n).cursorAt ≠ none

/-- A selection key takes the selection of screen n to an item of a basket view, with the basket top settled (R102, R127). -/
def SelectionMoved (s : State) (n : Fin 32) (c : Instr) (view : List Nat) (j : Nat) : Prop :=
  ∀ y, view[j]? = some y →
    exec c s = .next (s.keyOn n fun d => { d with
      selection := some (y, j)
      basketTop := min
        (if j < d.basketTop then j
          else if d.basketTop + (d.profile.rows - 2) ≤ j then j + 1 - (d.profile.rows - 2)
          else d.basketTop)
        (view.length - (d.profile.rows - 2)) }).settle

/-- A key takes the set top of screen n to a set row, and moves no cursor (R107, R130). -/
def SetTopMoved (s : State) (n : Fin 32) (c : Instr) (row : Nat) : Prop :=
  ∃ top, exec c s = .next (s.keyOn n fun d => { d with setTop := row, top := top }).settle

/-! ## Blocks of the link -/

/-- The setting page x has a current block b, and an answer with a good check is taken (R183, R184, R209). -/
def State.awaits (s : State) (x : SettingPage) (b : CurrentBlock) : Prop :=
  s.link.cond = .up ∧ s.link.returnBits = false ∧ s.link.setting = some x ∧ x.current = some b ∧
    (b.phase = .sent ∨ b.phase = .resendDue)

/-- The quality window after an outcome of a block's first try; a settled try records none (R187). -/
def windowAfter (window : List Bool) (settled success : Bool) : List Bool :=
  if settled then window else (if 32 ≤ window.length then window.drop 1 else window) ++ [success]

/-- POOR after an outcome that the window took: it is judged when the window is full (R187). -/
def poorAfter (c : LinkConfig) (poor : Bool) (window : List Bool) : Bool :=
  if window.length ≠ 32 then poor
  else if poor then decide (window.countP id < c.poorClear)
  else decide (window.countP id < c.poorAssert)

/-- POOR follows the outcome of a block's try, unless the try was settled before, and its rise raises LINK_POOR (R187). -/
def PoorFollows (s t : State) (settled : Bool) : Prop :=
  (∀ c ∈ s.link.config, t.link.poor = if settled then s.link.poor else poorAfter c s.link.poor t.link.window) ∧
    (s.host.enabled .linkPoor = true → s.link.poor = false → t.link.poor = true → t.host.raised .linkPoor = true)

/-- The return receiver hunts, and the bytes before a message hold no start byte, so that it takes the message (R209). -/
def State.hears (s : State) (before : List Byte) : Prop := s.link.receiver = .hunting ∧ 0x5A ∉ before

/-! ## Bodies -/

/-- A style whose fields its layout can carry (R71). -/
def Style.carried (y : Style) : Prop :=
  y.face < 256 ∧ y.size < 256 ∧ y.set < 256 ∧ y.leading < 65536 ∧ y.measure < 65536 ∧ y.indent < 256

/-- The body of a PROFILE_DEFINE (R94). -/
def profileBody (number : Nat) (p : Profile) (keys : List Byte) : List Byte :=
  be 1 number ++ be 1 p.rows ++ be 1 p.cols
    ++ [p.cursorLead, p.rowOffset, p.colOffset, p.clearCode, p.eorCode, p.attrLead] ++ p.attrCodes
    ++ [p.bellCode, p.superCode] ++ be 4 p.ringInterval ++ keys

/-- The body of a LINE_CONFIGURE (R142). -/
def lineBody (n : Nat) (c : LineConfig) (parity mask : Nat) : List Byte :=
  be 1 n ++ be 1 c.rate ++ be 1 c.dataBits ++ be 1 parity ++ be 1 c.stopBits ++ be 1 c.profile ++ be 2 mask
    ++ be 4 c.idleLimit ++ be 4 c.deadThreshold ++ be 4 c.grace

/-- The configuration that a LINE_CONFIGURE with a presence mask stores on a line: values clamped, and where the mask names none
those it had, or the defaults of a fresh line (R142). -/
def LineConfig.storedOver (old : Option LineConfig) (mask : Nat) (c : LineConfig) : LineConfig :=
  { c with
    idleLimit := if mask.testBit 0 then min c.idleLimit 3600 else (old.map LineConfig.idleLimit).getD 0
    deadThreshold :=
      if mask.testBit 1 then max 5 (min c.deadThreshold 100) else (old.map LineConfig.deadThreshold).getD 20
    grace := if mask.testBit 2 then min c.grace 600 else (old.map LineConfig.grace).getD 120 }

/-- The reply's status to a LINE_CONFIGURE: ADJUSTED where a value that the mask names was clamped (R142). -/
def lineStatus (mask : Nat) (c : LineConfig) : Byte :=
  if (mask.testBit 0 = true → c.idleLimit ≤ 3600) ∧ (mask.testBit 1 = true → 5 ≤ c.deadThreshold ∧ c.deadThreshold ≤ 100) ∧
      (mask.testBit 2 = true → c.grace ≤ 600) then 0x00 else 0x01

/-- The body of a LINK_CONFIGURE (R175). -/
def linkBody (mask : Nat) (c : LinkConfig) : List Byte :=
  be 1 c.rate ++ be 2 mask ++ be 4 c.ackTimeout ++ be 4 c.lossLimit ++ be 4 c.acquireInterval ++ be 1 c.losAssert
    ++ be 1 c.losClear ++ be 1 c.poorAssert ++ be 1 c.poorClear ++ flagByte c.holdOnPoor

/-! ## Invariants -/

/-- Every block of the copy store stands exactly once, on the free stack or in one chain; every used block holds 1 to 64
characters; every chain is of a story's number and holds at most 30,000 characters; an EMPTY record has no chain (R9, R12). -/
def StoreWhole (s : State) : Prop :=
  s.stories.length = 512 ∧ s.store.chains.length = 512 ∧
    (s.store.free ++ s.store.chains.flatMap Chain.nums).Perm (risingFrom 0 16384) ∧
    (∀ c ∈ s.store.chains, c.count ≤ 30000 ∧ ∀ b ∈ c, 1 ≤ b.chars.length ∧ b.chars.length ≤ 64) ∧
    ∀ n, s.story n = none → s.chain n = []

/-- The size of each table, and the capacities the part never passes: basket entries, viewers, type-ahead keys, pages of the
setting queue, outcomes of the quality window, pending bells, the quiet time, and the ranges of the escape count and the edition
number. -/
def WithinLimits (s : State) : Prop :=
  s.desks.length = 16 ∧ s.baskets.length = 16 ∧ s.fit.faces.length = 8 ∧ s.profiles.length = 4 ∧
    s.screens.length = 32 ∧ s.lines.length = 32 ∧ s.pages.length = 32 ∧
    (∀ l ∈ s.baskets, l.length ≤ 64) ∧
    (∀ t ∈ s.stories, ∀ x ∈ t, x.viewers.length ≤ 8) ∧
    (∀ l ∈ s.lines, l.queue.length ≤ 8) ∧
    s.fit.quiet ≤ 50 ∧
    s.settingQueue.length ≤ 8 ∧
    s.link.window.length ≤ 32 ∧
    (∀ c ∈ s.screens, c.bells ≤ 4 ∧ c.escape ≤ 4) ∧
    1 ≤ s.edition.number ∧ s.edition.number ≤ 99

/-- A story stands in the basket of its own desk exactly while it is QUEUED or SETTING, and in no basket twice (R22, R52). -/
def BasketsHold (s : State) : Prop :=
  (∀ d < 16, ((s.basket d).map Entry.story).Nodup ∧
    ∀ e ∈ s.basket d, ∃ x ∈ s.story e.story, x.desk = d ∧ (x.state = .queued ∨ x.state = .setting)) ∧
  ∀ n < 512, ∀ x ∈ s.story n, x.desk < 16 ∧
    ((x.state = .queued ∨ x.state = .setting) → ∃ e ∈ s.basket x.desk, e.story = n)

/-- A VALID fit stands on the basis of its record: the story's version and the generations of its faces (R79, R80). -/
def FitsHold (s : State) : Prop :=
  ∀ n < 512, ∀ x ∈ s.story n, ∀ r ∈ x.fit, r.valid = true →
    r.basisVersion = x.version ∧ r.basisBody = (s.face x.style.face).generation ∧
      (r.basisHead.all fun g => x.head.any fun h => (s.face h.style.face).generation == g) = true

/-- The prompts that a screen of a state may have open (R123). -/
def Mode.asks : Mode → Prompt → Bool
  | _, .closed => true
  | .signedOff, .signon => true
  | .desk, .newSlug | .desk, .openSlug | .desk, .pageRelease | .desk, .pageAbort => true
  | .edit, .sendDesk | .edit, .priority | .edit, .spikeConfirm => true
  | .desk, .superTake | .view, .superTake => true
  | .desk, .superMoveSlug | .edit, .superMoveSlug | .view, .superMoveSlug => true
  | .desk, .superMoveDesk | .edit, .superMoveDesk | .view, .superMoveDesk => true
  | _, _ => false

/-- A screen's story, role, desk, grace and prompt go with its state (R91, R123, R151). -/
def Screen.holds (c : Screen) : Prop :=
  (c.mode = .edit → (c.story.map Prod.snd) = some .owner) ∧
    (c.mode = .view → (c.story.map Prod.snd) = some .viewer) ∧
    (c.mode = .desk → c.story = none) ∧
    (c.mode = .down ∨ c.mode = .signedOff → c.story.isSome = true → c.grace.isSome = true) ∧
    (c.grace.isSome = true → (c.mode = .down ∨ c.mode = .signedOff) ∧ (c.story.map Prod.snd) = some .owner) ∧
    (c.signedOn = true → c.desk.isSome = true) ∧
    c.mode.asks c.prompt = true

/-- A line is OFF exactly while unconfigured, and UP exactly while its screen is not DOWN; a break runs on an UP line alone
(R141, R149). -/
def Line.holds (l : Line) (c : Screen) : Prop :=
  (l.config = none ↔ l.state = .off) ∧ (l.state = .up ↔ c.mode ≠ .down) ∧
    (l.breakTimer.isSome = true → l.state = .up) ∧ (l.config = none → c.story = none)

/-- Every screen agrees with its line, and owners and viewers of the stories are the screens that hold them as such; a story with
an owner is OPEN (R23, R24, R91). -/
def ScreensHold (s : State) : Prop :=
  (∀ n : Fin 32, (s.screen n).holds ∧ (s.line n).holds (s.screen n) ∧
    ∀ k ∈ (s.screen n).story, k.1 < 512 ∧ ∃ x ∈ s.story k.1,
      if k.2 = .owner then x.owner = some n.val else n.val ∈ x.viewers) ∧
  ∀ k < 512, ∀ x ∈ s.story k,
    (∀ o ∈ x.owner, x.state = .open_ ∧ o < 32 ∧ (s.screen o).story = some (k, .owner)) ∧
      ∀ v ∈ x.viewers, v < 32 ∧ (s.screen v).story = some (k, .viewer)

/-- The abort blocks of the link, on the forward channel or awaiting an answer (R189). -/
def Link.aborts (l : Link) : Nat := (l.forward.countP fun b => b.kind == .abort) + (if l.abortWait.isSome then 1 else 0)

/-- The setting queue holds exactly the pages that are WAITING, each once; the page that is SETTING is the link's, whose activity
says so; a proof past IDLE is the activity PROVING (R164, R165, R174, R180, R189, R192). -/
def PagesHold (s : State) : Prop :=
  s.settingQueue.Nodup ∧ (∀ p ∈ s.settingQueue, p < 32) ∧
    (∀ p < 32, (p ∈ s.settingQueue ↔ ∃ g ∈ s.page p, g.state = .waiting) ∧
      ((∃ g ∈ s.page p, g.state = .setting) ↔ s.link.setting.map SettingPage.page = some p)) ∧
    (∀ x ∈ s.link.setting, x.page < 32 ∧ s.link.activity = .setting) ∧
    s.link.aborts ≤ 1 ∧ (s.link.aborts = 1 → s.link.setting = none ∧ s.link.activity = .setting) ∧
    (s.proof.state ≠ .idle → s.proof.request.isSome = true ∧ s.link.activity = .proving)

/-- The copy, the screens and the pages agree with each other: what ties the tables of the part. -/
def CopyConsistent (s : State) : Prop :=
  (s.stories.length = 512 ∧ s.desks.length = 16 ∧ s.baskets.length = 16 ∧ s.screens.length = 32 ∧ s.lines.length = 32 ∧
    s.pages.length = 32) ∧
  BasketsHold s ∧ FitsHold s ∧ ScreensHold s ∧ PagesHold s

/-- The refit list and the fit queue hold each story at most once, and so a ring list, of stories of the basket of its screen's
desk; prompt buffers, the link's counts and its return receiver keep within their sizes (R64, R82, R84, R91, R123, R177,
R209). -/
def ListsWithinLimits (s : State) : Prop :=
  (s.fit.refit.map RefitEntry.story).Nodup ∧ (∀ e ∈ s.fit.refit, e.story < 512) ∧ s.fit.refit.length ≤ 512 ∧
    s.fit.queue.Nodup ∧ (∀ n ∈ s.fit.queue, n < 512) ∧ s.fit.queue.length ≤ 512 ∧
    (∀ c ∈ s.screens, c.ring.Nodup ∧ c.ring.length ≤ 64 ∧ c.buffer.length ≤ 12 ∧
      (c.ring ≠ [] → c.signedOn = true ∧
        ∃ d ∈ c.desk, ∀ n ∈ c.ring, ∃ e ∈ s.basket d, e.story = n)) ∧
    s.link.quietCount ≤ 255 ∧ s.link.activeCount ≤ 255 ∧
    (∀ c ∈ s.link.config, c.losAssert ≤ 255 ∧ c.losClear ≤ 255) ∧
    match s.link.receiver with
    | .hunting => True
    | .assembling got => got.length ≤ 3

/-- The attention flags: none is raised while its enable is off, none is raised while outstanding is false, and a set is empty
while its flag is clear (R205, R206). -/
def AttentionConsistent (s : State) : Prop :=
  s.host.flags &&& ~~~s.host.enables = 0 ∧
    (s.host.outstanding = false → s.host.flags = 0) ∧
    (s.host.raised .lineDown = false → s.host.lineDown = []) ∧
    (s.host.raised .lineError = false → s.host.lineError = []) ∧
    (s.host.raised .deskOverdue = false → s.host.deskOverdue = [])

/-- The link: OFF exactly while unconfigured, held only while UP, the acquire timer only while ACQUIRING (R174, R178, R185). -/
def LinkConsistent (s : State) : Prop :=
  (s.link.cond = .off ↔ s.link.config = none) ∧
    (s.link.held = true → s.link.cond = .up) ∧
    (s.link.acquireTimer.isSome = true → s.link.cond = .acquiring)

end Sys2Proof.Machine
end

