-- ==== Sys2Proof/Certificates/Slice0/Obligations.lean ====
section
/-! DEFINITION. The statements for the provers. A next state is written as `X.settle` where X holds the whole effect of the command:
SettleOnlyPaints says what `settle`, with which every command ends, may change. -/

section
open Sys2Proof Sys2Proof.Machine

/-! ## The machine -/

/-- The step takes the command at the front of the queue and runs it on the queue's rest. -/
def Obligations.StepRunsTheFront : Prop :=
  ∀ (c : Instr) (rest : List Instr) (s : State),
    s.pending = c :: rest → step s = exec c { s with pending := rest }

/-- On an empty queue the timebase steps (log entries 1 and 2; R2): a timer with k left has k - 1 left, and it expires, by a command
that joins the queue, exactly when it had none left. The idle, grace and loss timers move on every tenth step alone (log entry
45). The refit entries that are due each bring a command, and a pass under way is one tenth older and ends at its limit at the
latest (log entry 6). -/
def Obligations.EmptyQueueStepsTheTimebase : Prop :=
  ∀ s : State, s.pending = [] → ∃ t, step s = .next t ∧
    t.clock = ⟨s.clock.steps + 1, s.clock.time, s.clock.untilAdvance - 1⟩ ∧
    (Instr.timeOfDayAdvance ∈ t.pending ↔ s.clock.untilAdvance ≤ 1) ∧
    (∀ n : Fin 32,
      (t.line n).breakTimer = (s.line n).breakTimer.map (· - 1) ∧
      (Instr.breakTimerExpiry n ∈ t.pending ↔ (s.line n).breakTimer = some 0) ∧
      (t.screen n).ringTimer = (s.screen n).ringTimer.map (· - 1) ∧
      (Instr.ringTimerExpiry n ∈ t.pending ↔ (s.screen n).ringTimer = some 0) ∧
      (t.screen n).idle =
        (if (s.clock.steps + 1) % 10 = 0 then (s.screen n).idle.map (· - 1) else (s.screen n).idle) ∧
      (Instr.idleTimerExpiry n ∈ t.pending ↔ (s.screen n).idle = some 0 ∧ (s.clock.steps + 1) % 10 = 0) ∧
      (t.screen n).grace =
        (if (s.clock.steps + 1) % 10 = 0 then (s.screen n).grace.map (· - 1) else (s.screen n).grace) ∧
      (Instr.graceExpiry n ∈ t.pending ↔ (s.screen n).grace = some 0 ∧ (s.clock.steps + 1) % 10 = 0)) ∧
    t.link = { s.link with
      acquireTimer := s.link.acquireTimer.map (· - 1)
      ackTimer := s.link.ackTimer.map (· - 1)
      abortWait := s.link.abortWait.map fun w => ⟨w.num, w.timer - 1⟩
      setting := s.link.setting.map fun x => { x with
        lossTimer := if (s.clock.steps + 1) % 10 = 0 then x.lossTimer.map (· - 1) else x.lossTimer } } ∧
    (Instr.acquireTimerExpiry ∈ t.pending ↔ s.link.acquireTimer = some 0) ∧
    (Instr.ackTimeout ∈ t.pending ↔ s.link.ackTimer = some 0) ∧
    (Instr.abortWaitExpiry ∈ t.pending ↔ ∃ w, s.link.abortWait = some w ∧ w.timer = 0) ∧
    (Instr.lossTimerExpiry ∈ t.pending ↔
      (∃ x, s.link.setting = some x ∧ x.lossTimer = some 0) ∧ (s.clock.steps + 1) % 10 = 0) ∧
    t.fit = { s.fit with pass := s.fit.pass.map fun p => { p with elapsed := p.elapsed + 1 } } ∧
    t.pending.count .refitDue = s.fit.refit.countP (fun e => decide (e.due ≤ s.clock.steps + 1)) ∧
    (s.fit.pass = none → Instr.fitPassComplete ∉ t.pending) ∧
    (∀ p, s.fit.pass = some p → p.limit ≤ p.elapsed + 1 → Instr.fitPassComplete ∈ t.pending) ∧
    t.store = s.store ∧ t.stories = s.stories ∧ t.desks = s.desks ∧ t.baskets = s.baskets ∧ t.pages = s.pages ∧
    t.settingQueue = s.settingQueue ∧ t.edition = s.edition ∧ t.host = s.host ∧ t.proof = s.proof

/-- What ends every command, a layout of every screen and the start of what each free transmitter sends next, changes nothing but
the screens' images, layouts, cursor places, due marks and pending bells, the basket selections and basket tops that R102 settles,
and what each line's transmitter holds (R96, R102, R108, R109, R155). -/
def Obligations.SettleOnlyPaints : Prop :=
  ∀ s : State, s.settle.kept = s.kept

/-- A line's transmitter, free on an UP line, takes the first of R109's items: a clear-screen code that is due, the pending bells, the
cursor row or else the lowest row that awaits painting, a cursor address that is due, the ring bell, or nothing. An item's codes go
through the buffer into the shift, one after another as the timebase steps, each as a frame of R145; TRANSMISSION_COMPLETE moves
the last one, leaves the transmitter to take its next item, and after a row or a clear-screen makes the cursor address due (R108,
R109, R145, R155). (How many codes a step moves: log entry 15; TRANSMISSION_COMPLETE with no item in hand: log entry 11.) -/
def Obligations.TransmittersTakeTheirItems : Prop :=
  (∀ (s : State) (n : Nat) (c : Screen), n < s.lines.length → n < s.screens.length →
    (s.line n).state = .up → (s.line n).item = none → c = s.layOutAll.screen n →
    (c.clearDue = true →
      (s.settle.line n).item = some ⟨.clear, [c.profile.clearCode]⟩ ∧
        (s.settle.screen n).clearDue = false ∧ (s.settle.screen n).bells = c.bells) ∧
    (c.clearDue = false → 0 < c.bells →
      (s.settle.line n).item = some ⟨.bells, List.replicate c.bells c.profile.bellCode⟩ ∧
        (s.settle.screen n).bells = 0) ∧
    (c.clearDue = false → c.bells = 0 →
      (∀ r, c.blanked = false → r ∈ c.paint →
        ((∃ col, c.cursorAt = some (r, col)) ∨
          ((∀ q col, c.cursorAt = some (q, col) → q ∉ c.paint) ∧ ∀ q ∈ c.paint, r ≤ q)) →
        (s.settle.line n).item = some ⟨.row r, rowCodes c.profile r (c.layout.getD r [])⟩ ∧
          (s.settle.screen n).image = c.image.set r (c.layout.getD r [])) ∧
      (c.blanked = true ∨ c.paint = [] →
        (∀ r col, c.cursorDue = true → c.cursorAt = some (r, col) →
          (s.settle.line n).item =
              some ⟨.cursor, [c.profile.cursorLead, byte r + c.profile.rowOffset, byte col + c.profile.colOffset]⟩ ∧
            (s.settle.screen n).cursorDue = false) ∧
        (c.cursorDue = false ∨ c.cursorAt = none →
          (c.ringDue = true →
            (s.settle.line n).item = some ⟨.ring, [c.profile.bellCode]⟩ ∧ (s.settle.screen n).ringDue = false) ∧
          (c.ringDue = false → (s.settle.line n).item = none)))) ∧
    (∀ i, (s.settle.line n).item = some i →
      ((s.line n).shift.isSome = true →
        (s.settle.line n).shift = (s.line n).shift ∧ (s.settle.line n).buffer = i.codes.head?.map (s.line n).sent ∧
          (s.settle.line n).unfed = i.codes.drop 1) ∧
      (∀ a, (s.line n).shift = none → i.codes = [a] →
        (s.settle.line n).shift = none ∧ (s.settle.line n).buffer = some ((s.line n).sent a) ∧
          (s.settle.line n).unfed = []) ∧
      (∀ a b rest, (s.line n).shift = none → i.codes = a :: b :: rest →
        (s.settle.line n).shift = some ((s.line n).shifting ((s.line n).sent a)) ∧
          (s.settle.line n).buffer = some ((s.line n).sent b) ∧ (s.settle.line n).unfed = rest))) ∧
  (∀ (n : Fin 32) (s : State),
    (∀ i, (s.line n).item = some i →
      exec (.transmissionComplete n) s =
        .next ((s.updLine n fun l => { l with
            item := none
            unfed := []
            buffer := none
            shift := i.codes.getLast?.map fun c => l.shifting (l.sent c) }).updScreen n fun c =>
          { c with cursorDue := c.cursorDue || (match i.kind with
            | .clear | .row _ => true
            | .bells | .cursor | .ring => false) }).settle) ∧
    ((s.line n).item = none → exec (.transmissionComplete n) s = .next s.settle)) ∧
  (∀ (s : State) (n m : Nat), s.pending = [] → m = min (s.line n).codesPerTenth (s.line n).unfed.length →
    ∃ t, step s = .next t ∧ (t.line n).item = (s.line n).item ∧
      (∀ b, (s.line n).buffer = some b →
        (t.line n).unfed = (s.line n).unfed.drop m ∧
          (t.line n).buffer = (b :: (s.line n).unfed.map (s.line n).sent)[m]? ∧
          (t.line n).shift = if m = 0 then (s.line n).shift
            else ((b :: (s.line n).unfed.map (s.line n).sent)[m - 1]?).map (s.line n).shifting) ∧
      ((s.line n).buffer = none → (s.line n).unfed = [] → 1 ≤ (s.line n).codesPerTenth →
        (t.line n).shift = none ∧ (t.line n).wire = [true])) ∧
  (∀ (l : Line) (k : LineConfig) (code : Byte), l.config = some k → (k.dataBits = 7 ∨ k.dataBits = 8) →
    l.sent code = (if k.dataBits = 7 then code &&& 0x7F else code) ∧ l.shifting code = ⟨code, k.frame code⟩ ∧
      k.frameBits = 1 + k.dataBits + (if k.parity = .none then 0 else 1) + k.stopBits ∧
      l.codesPerTenth = 1200 * 2 ^ k.rate / (10 * k.frameBits) ∧
      (k.frame code).length = k.frameBits ∧ (k.frame code)[0]? = some false ∧
      (∀ i < k.dataBits, (k.frame code)[1 + i]? = some (code.getLsbD i)) ∧
      (k.parity = .even → (((k.frame code).drop 1).take (k.dataBits + 1)).count true % 2 = 0) ∧
      (k.parity = .odd → (((k.frame code).drop 1).take (k.dataBits + 1)).count true % 2 = 1) ∧
      (k.frame code).drop (k.frameBits - k.stopBits) = List.replicate k.stopBits true)

/-! ## Invariants -/

/-- Every step keeps every block of the copy store in exactly one place, with the bounds of R9 and R12. -/
def Obligations.EveryStepKeepsTheStoreWhole : Prop :=
  ∀ s t : State, StoreWhole s → step s = .next t → StoreWhole t

/-- Every step keeps the part within its capacities; it keeps stories, baskets, fits, screens, lines, pages, link and proof in
agreement; and, where both hold, it keeps the lists within theirs. -/
def Obligations.EveryStepStaysWithinLimits : Prop :=
  ∀ s t : State, step s = .next t →
    (WithinLimits s → WithinLimits t) ∧ (CopyConsistent s → CopyConsistent t) ∧
      (WithinLimits s → CopyConsistent s → ListsWithinLimits s → ListsWithinLimits t)

/-- Every step keeps the attention flags consistent with their enables, with outstanding and with their sets. -/
def Obligations.EveryStepKeepsAttentionConsistent : Prop :=
  ∀ s t : State, AttentionConsistent s → step s = .next t → AttentionConsistent t

/-- Every step keeps the link's condition consistent with its configuration, its held flag and its acquire timer. -/
def Obligations.EveryStepKeepsTheLinkConsistent : Prop :=
  ∀ s t : State, LinkConsistent s → step s = .next t → LinkConsistent t

/-- The state after reset meets the invariants. -/
def Obligations.ResetMeetsTheInvariants : Prop :=
  StoreWhole State.reset ∧ WithinLimits State.reset ∧ AttentionConsistent State.reset ∧ LinkConsistent State.reset ∧
    CopyConsistent State.reset ∧ ListsWithinLimits State.reset

/-- A request that is refused changes no state; STORY_LOAD, which R36 excepts where the basket is full, keeps everything but the order of
the free stack, a STORE_LOW that it raised, and the layout times of the signed-on screens where it crossed the threshold (R17, R96;
log entry 30). -/
def Obligations.RefusedRequestsChangeNothing : Prop :=
  ∀ (kind : Nat) (handler : List Byte → State → State × List Byte) (body : List Byte) (s : State) (status : Byte)
    (fields : List Byte),
    catalogue kind = some handler → (handler body s).2 = status :: fields → 3 ≤ status.toNat →
      (kind ≠ 0x40 → (handler body s).1 = s) ∧
      (kind = 0x40 →
        (∃ screens host store, (handler body s).1 = { s with screens := screens, host := host, store := store } ∧
          (screens = s.screens ∧ host = s.host ∨
            screens = s.screens.map (fun c => if c.signedOn then { c with layoutTime := s.clock.time } else c) ∧
              (host = s.host ∨ host = (s.raise .storeLow).host))) ∧
          (StoreWhole s → (handler body s).1.store.chains = s.store.chains ∧
            (handler body s).1.store.free.Perm s.store.free))

/-! ## The host line -/

/-- A host frame as 11.6 lays it out, received by a HUNTING receiver, is the request of its kind, tag and body: it is taken, held, or
discarded with FRAME_ERROR (R201). -/
def Obligations.HostFramesRoundTrip : Prop :=
  ∀ (kind tag : Byte) (body : List Byte) (s : State), body.length ≤ 1024 → s.host.receiver = .hunting →
    exec (.hostFrameReceived (hostFrame kind tag body)) s =
      .next (if s.host.reply = none then s.serve ⟨kind, tag, body⟩
        else if s.host.hold = none then { s with host := { s.host with hold := some ⟨kind, tag, body⟩ } }
        else s.raise .frameError).settle

/-- A frame whose CRC differs, a length above 1,024, a framing error and a gap raise FRAME_ERROR and leave the receiver HUNTING; a
HUNTING receiver drops what it has without report (R201). -/
def Obligations.LostFramesRaiseFrameError : Prop :=
  (∀ (kind tag : Byte) (body : List Byte) (check : Nat) (s : State), body.length ≤ 1024 →
    s.host.receiver = .hunting → check < 65536 → check ≠ (crc16 (frameContent kind tag body)).toNat →
    exec (.hostFrameReceived (0xA5 :: (frameContent kind tag body ++ be 2 check))) s =
      .next (s.raise .frameError).settle) ∧
  (∀ (length : Nat) (s : State), 1024 < length → length < 65536 → s.host.receiver = .hunting →
    exec (.hostFrameReceived (0xA5 :: be 2 length)) s = .next (s.raise .frameError).settle) ∧
  (∀ (bytes : List Byte) (s : State), s.host.receiver = .assembling bytes →
    exec (.frameAbandoned []) s =
        .next (({ s with host := { s.host with receiver := .hunting } }).raise .frameError).settle ∧
      exec (.frameGapTimeout []) s =
        .next (({ s with host := { s.host with receiver := .hunting } }).raise .frameError).settle) ∧
  (∀ (s : State), s.host.receiver = .hunting →
    exec (.frameAbandoned []) s = .next s.settle ∧ exec (.frameGapTimeout []) s = .next s.settle)

/-- The end of a reply lets the frame in the hold be served; a kind from 0x80 upward is answered with UNKNOWN_KIND (R202).
(What may contend with a reply is log entry 7.) -/
def Obligations.TheHoldIsServedAfterTheReply : Prop :=
  (∀ (r : Reply) (s : State), s.host.reply = some r → s.host.hold = none →
    exec .replySent s = .next ({ s with host := { s.host with reply := none } }).settle) ∧
  (∀ (r : Reply) (q : Request) (s : State), s.host.reply = some r → s.host.hold = some q →
    exec .replySent s =
      .next (({ s with host := { s.host with reply := none, hold := none } }).serve q).settle) ∧
  (∀ (q : Request) (s : State), 128 ≤ q.kind.toNat →
    s.serve q =
      { s with host := { s.host with
          reply := some ⟨hostFrame 0x80 q.tag [0x03, q.kind], s.host.noticesDue != 0⟩ } })

/-- A due notice carries the flag mask as it stands; it goes when no reply is being sent, or first when both were ready together,
and it waits for a reply that is being sent (R202, R206). (Log entry 7.) -/
def Obligations.NoticeCarriesTheFlagsAsTheyStand : Prop :=
  ∀ s : State, 0 < s.host.noticesDue →
    (s.host.reply = none →
      exec .attentionNotice s =
        .next ({ s with host := { s.host with
          noticesDue := s.host.noticesDue - 1
          notice := some (hostFrame 0xFF 0 (be 2 s.host.flags.toNat)) } }).settle) ∧
    (∀ frame, s.host.reply = some ⟨frame, true⟩ →
      exec .attentionNotice s =
        .next ({ s with host := { s.host with
          noticesDue := s.host.noticesDue - 1
          notice := some (hostFrame 0xFF 0 (be 2 s.host.flags.toNat))
          reply := some ⟨frame, false⟩ } }).settle) ∧
    (∀ frame, s.host.reply = some ⟨frame, false⟩ → exec .attentionNotice s = .next s.settle)

/-- A report raises its flag when the flag is enabled and is dropped when it is not; a rise from clear makes a notice due unless one
is outstanding (R205, R206). -/
def Obligations.RaisedFlagsMakeNoticesDue : Prop :=
  ∀ (s : State) (f : Flag),
    (s.host.enabled f = false → s.raise f = s) ∧
    (s.host.enabled f = true →
      s.raise f = { s with host := { s.host with
        flags := s.host.flags ||| f.mask
        outstanding := s.host.outstanding || !s.host.raised f
        noticesDue := s.host.noticesDue + (if s.host.raised f ∨ s.host.outstanding then 0 else 1) } })

/-- The requests that report, each with status OK, change no state but the reply; IDENTIFY reports the part code, the revision, the
strap code and the capacities (R203; the sizes of its fields are log entry 8's). -/
def Obligations.ReportsChangeNothing : Prop :=
  ∀ (tag : Byte) (s : State), s.host.reply = none →
    exec (.identify tag []) s =
      .next (s.answered 0x81 tag
        (0x00 :: (be 2 5318 ++ be 1 0x02 ++ be 1 s.host.strap.toNat ++ be 1 32 ++ be 2 512 ++ be 4 16384 ++ be 1 16
          ++ be 1 32 ++ be 1 8))).settle ∧
    (∀ body : List Byte, body ≠ [] → body.length ≤ 1024 →
      exec (.identify tag body) s = .next (s.answered 0x81 tag [0x04]).settle) ∧
    (∀ n < 32, ∃ r, exec (.screenStatus tag (be 1 n)) s = .next (s.answered 0x92 tag (0x00 :: r)).settle) ∧
    (∀ d < 16, ∃ r, exec (.deskList tag (be 1 d)) s = .next (s.answered 0xA2 tag (0x00 :: r)).settle) ∧
    (∃ r, exec (.fitStatus tag []) s = .next (s.answered 0xB3 tag (0x00 :: r)).settle) ∧
    (∃ r, exec (.linkStatus tag []) s = .next (s.answered 0xE1 tag (0x00 :: r)).settle) ∧
    (∃ r, exec (.proofResult tag []) s = .next (s.answered 0xE4 tag (0x00 :: r)).settle) ∧
    (∀ n < 512, ∃ r, exec (.storyStatus tag (be 2 n)) s = .next (s.answered 0xC3 tag (0x00 :: r)).settle) ∧
    (∀ p < 32, ∃ r, exec (.pageStatus tag (be 1 p)) s = .next (s.answered 0xD5 tag (0x00 :: r)).settle) ∧
    (∃ r, exec (.editionStatus tag []) s = .next (s.answered 0xD8 tag (0x00 :: r)).settle)

/-- STORY_READ returns the characters of a story from an offset, cut at the end of the text, and STORY_FIND the number of the story
that has a slug, whatever the case of its letters (R15, R21, R38, R44).
(The sizes of the offset and the length are log entry 8's; the order of STORY_READ's body is log entry 49's.) -/
def Obligations.ReadAndFindReportTheStory : Prop :=
  (∀ (tag : Byte) (n x len : Nat) (t : Story) (s : State), s.host.reply = none → n < 512 → x < 65536 → len ≤ 1000 →
    s.story n = some t →
    exec (.storyRead tag (be 2 n ++ be 2 x ++ be 2 len)) s =
      .next (s.answered 0xC2 tag
        (0x00 :: (be 2 (s.count n) ++ be 4 t.version.toNat ++ textField 2 (((s.text n).drop x).take len)))).settle) ∧
  (∀ (tag : Byte) (slug : List Byte) (n : Nat) (t : Story) (s : State), s.host.reply = none → n < 512 →
    1 ≤ slug.length → slug.length ≤ 12 → (slug.map foldCase).all isSlugCode = true → s.story n = some t →
    t.slug = slug.map foldCase → (∀ m < 512, ∀ u, s.story m = some u → u.slug = t.slug → m = n) →
    exec (.storyFind tag (be 1 slug.length ++ slug)) s =
      .next (s.answered 0xCA tag (0x00 :: (be 2 n ++ be 1 t.state.code))).settle)

/-- TIME_SET sets the time of day and moves every entry time with it, so that no entry's age changes (R62, R204). -/
def Obligations.TimeSetKeepsEveryAge : Prop :=
  ∀ (tag : Byte) (v : Nat) (s : State), s.host.reply = none → v < 86400 → s.clock.time < 86400 →
    ∃ t, exec (.timeSet tag (be 4 v)) s = .next t ∧
      t.clock.time = v ∧ t.clock.untilAdvance = 10 ∧ t.clock.steps = s.clock.steps ∧
      (∀ d : Nat, (t.basket d).map Entry.story = (s.basket d).map Entry.story ∧
        (t.basket d).map Entry.escalated = (s.basket d).map Entry.escalated ∧
        ((∀ e ∈ s.basket d, e.time < 86400) →
          (t.basket d).map (fun e => ageAt v e.time) = (s.basket d).map fun e => ageAt s.clock.time e.time)) ∧
      t.stories = s.stories ∧ t.store = s.store ∧ t.fit = s.fit ∧ t.link = s.link ∧
      t.host = (s.answered 0x82 tag (0x00 :: be 4 v)).host

/-- ATTENTION_READ reports the flags, the enables and the sets, clears what its mask names, and makes a new notice due exactly when a
flag is still raised (R207, R148). -/
def Obligations.AttentionReadReportsThenClears : Prop :=
  ∀ (tag : Byte) (mask : Nat) (s : State), s.host.reply = none → mask < 4096 →
    ∃ t, exec (.attentionRead tag (be 2 mask)) s = .next t ∧
      t.host.flags = s.host.flags &&& ~~~(BitVec.ofNat 12 mask) ∧ t.host.enables = s.host.enables ∧
      t.host.lineDown = (if mask.testBit 6 then [] else s.host.lineDown) ∧
      t.host.lineError = (if mask.testBit 7 then [] else s.host.lineError) ∧
      t.host.deskOverdue = (if mask.testBit 8 then [] else s.host.deskOverdue) ∧
      (mask.testBit 7 → ∀ n : Nat, (t.line n).overrun = false ∧ (t.line n).parityError = false ∧ (t.line n).framing = false) ∧
      (t.host.outstanding = true ↔ t.host.flags &&& t.host.enables ≠ 0) ∧
      t.host.noticesDue = s.host.noticesDue + (if t.host.flags &&& t.host.enables = 0 then 0 else 1) ∧
      t.host.reply = some ⟨hostFrame 0x84 tag (0x00 :: (be 2 s.host.flags.toNat ++ be 2 s.host.enables.toNat
        ++ be 4 (maskOf s.host.lineDown) ++ be 4 (maskOf s.host.lineError) ++ be 2 (maskOf s.host.deskOverdue)
        ++ (List.range 32).map fun n => if s.host.lineError.contains n then (s.line n).errorByte else 0)),
        s.host.noticesDue != 0⟩ ∧
      t.stories = s.stories ∧ t.baskets = s.baskets ∧ t.store = s.store ∧ t.link = s.link

/-- ATTENTION_ENABLE stores the enables and clears each flag whose enable goes off (R205). -/
def Obligations.AttentionEnableClearsWhatGoesOff : Prop :=
  ∀ (tag : Byte) (mask : Nat) (s : State), s.host.reply = none → mask < 4096 →
    ∃ t, exec (.attentionEnable tag (be 2 mask)) s = .next t ∧
      t.host.enables = BitVec.ofNat 12 mask ∧
      t.host.flags = s.host.flags &&& ~~~(s.host.enables &&& ~~~(BitVec.ofNat 12 mask)) ∧
      t.host.outstanding = s.host.outstanding ∧ t.host.noticesDue = s.host.noticesDue ∧
      (s.host.enabled .lineDown = true → mask.testBit 6 = false → t.host.lineDown = []) ∧
      (mask.testBit 6 → t.host.lineDown = s.host.lineDown) ∧
      t.host.reply = some ⟨hostFrame 0x85 tag (0x00 :: be 2 mask), s.host.noticesDue != 0⟩ ∧
      t.stories = s.stories ∧ t.baskets = s.baskets ∧ t.store = s.store ∧ t.link = s.link

/-! ## Resets -/

/-- RESET ALL and power-on leave the state after reset with the strap as its pins stand; the queue, the step counter and the count of
free values are not the part's to reset (R208; log entry 4). -/
def Obligations.FullResetsLeaveTheResetState : Prop :=
  (∀ (pins : BitVec 3) (s : State),
    exec (.powerOn pins) s =
      .next ({ State.reset with
        host := { State.reset.host with strap := pins }
        clock := ⟨s.clock.steps, 0, 10⟩, strapPins := pins, drawn := s.drawn, pending := s.pending }).settle) ∧
  (∀ (tag : Byte) (s : State), s.host.reply = none →
    exec (.resetAll tag) s =
      .next ({ State.reset with
        host := { State.reset.host with strap := s.strapPins, reply := some ⟨hostFrame 0x83 tag [0x00], false⟩ }
        clock := ⟨s.clock.steps, 0, 10⟩, strapPins := s.strapPins, drawn := s.drawn, pending := s.pending }).settle)

/-- RESET LINK: the page that is SETTING fails with cause RESET, a proof ends, and a configured link is DOWN with detection restarted
(R191). -/
def Obligations.LinkResetRestartsTheLink : Prop :=
  ∀ (tag : Byte) (s : State), s.host.reply = none → (s.proof.state = .idle ∨ s.proof.request.isSome = true) →
    ∃ t, exec (.resetLink tag) s = .next t ∧
      t.link.activity = .idle ∧ t.link.setting = none ∧ t.link.abortWait = none ∧ t.link.acquireTimer = none ∧
      t.link.ackTimer = none ∧ t.link.held = false ∧ t.link.window = [] ∧ t.link.poor = false ∧ t.link.nextNum = 0 ∧
      t.link.config = s.link.config ∧
      (s.link.config.isSome = true →
        t.link.cond = .down ∧ t.link.los = true ∧ t.link.quietCount = 0 ∧ t.link.activeCount = 0) ∧
      (s.link.config = none → t.link.cond = s.link.cond) ∧
      t.proof.state = .idle ∧
      (∀ x g, s.link.setting = some x → s.page x.page = some g → g.state = .setting →
        t.page x.page = some { g with state := .open_, cause := some .reset }) ∧
      t.settingQueue = s.settingQueue ∧ t.edition = s.edition ∧ t.store = s.store ∧ t.desks = s.desks ∧
      t.profiles = s.profiles ∧ t.clock = s.clock

/-- RESET SCREENS: every configured line is UP with its configuration, and its screen SIGNED_OFF with nothing of its own left. Each
viewer has left its story's viewer set, and then each owned story is filed at its own desk or orphaned, in ascending order of
owner screen (R31, R45, R119, R144, R156). -/
def Obligations.ScreensResetSignsEveryScreenOff : Prop :=
  ∀ (tag : Byte) (s : State), s.host.reply = none → s.lines.length = 32 → s.screens.length = 32 →
    ∃ t, exec (.resetScreens tag) s = .next t ∧
      (∀ (n : Fin 32) (c : LineConfig), (s.line n).config = some c →
        (t.line n).state = .up ∧ (t.line n).config = some c ∧ (t.line n).queue = [] ∧ (t.line n).holding = none ∧
        (t.line n).breakTimer = none ∧ (t.line n).summary = false ∧
        (t.screen n).mode = .signedOff ∧ (t.screen n).blanked = false ∧ (t.screen n).desk = none ∧
        (t.screen n).story = none ∧ (t.screen n).prompt = .closed ∧ (t.screen n).ring = [] ∧
        (t.screen n).newMark = false ∧ (t.screen n).grace = none ∧ (t.screen n).hostMessage = none ∧
        (t.screen n).idle = if c.idleLimit = 0 then none else some c.idleLimit) ∧
      (∀ n : Fin 32, (s.line n).config = none → (t.line n).state = (s.line n).state) ∧
      (∀ (n : Fin 32) (k : Nat) (x : Story), (s.line n).config ≠ none → (s.screen n).story = some (k, .viewer) →
        s.story k = some x → ∃ y, t.story k = some y ∧ n.val ∉ y.viewers) ∧
      (CopyConsistent s →
        ∃ u, u.stories = s.stories.map (Option.map fun x => { x with viewers := [] }) ∧ u.baskets = s.baskets ∧
          u.clock = s.clock ∧ u.host.enables = s.host.enables ∧
          (∀ f, s.host.raised f = true → u.host.raised f = true) ∧
          FiledInTurn ((List.range 32).filterMap fun n => match (s.screen n).story with
            | some (k, .owner) => some k
            | _ => none) u t) ∧
      t.store = s.store ∧ t.desks = s.desks ∧ t.profiles = s.profiles ∧ t.pages = s.pages ∧ t.link = s.link ∧
      t.settingQueue = s.settingQueue ∧ t.edition = s.edition ∧ t.clock = s.clock ∧ t.keyTurn = s.keyTurn

/-! ## Screens and lines as the host sets them -/

/-- PROFILE_DEFINE stores a profile whose values are in range, and every screen that uses it and is neither DOWN nor BLANKED takes
it; it is refused BUSY while a screen that uses it is in EDIT (R94). (Field sizes: log entry 8.) -/
def Obligations.ProfilesAreStored : Prop :=
  ∀ (tag : Byte) (number : Nat) (p : Profile) (keys : List Byte) (s : State), s.host.reply = none → number < 4 →
    p.rows < 256 → p.cols < 256 → p.ringInterval < 4294967296 → p.attrCodes.length = 8 → keys.length = 32 →
    keys.mapM (fun k => keyEntryOfCode k.toNat) = some p.keyMap → s.profiles.length = 4 →
    ((∀ n : Fin 32, (s.screen n).mode = .edit → ∀ c ∈ (s.line n).config, c.profile ≠ number) →
      ∃ t, exec (.profileDefine tag (profileBody number p keys)) s = .next t ∧
        t.profile number = { p with
          rows := max 16 (min p.rows 48), cols := max 64 (min p.cols 132), ringInterval := max 5 (min p.ringInterval 50) } ∧
        (∀ q, q ≠ number → t.profile q = s.profile q) ∧
        (∀ n : Fin 32, (t.screen n).mode = (s.screen n).mode ∧ (t.screen n).story = (s.screen n).story ∧
          (n.val < s.screens.length → (s.screen n).mode ≠ .down → (s.screen n).blanked = false →
            (∃ c ∈ (s.line n).config, c.profile = number) →
            (t.screen n).profile = t.profile number ∧ (t.screen n).profileNo = number) ∧
          ((∀ c ∈ (s.line n).config, c.profile ≠ number) → (t.screen n).profile = (s.screen n).profile)) ∧
        SameCopy s t ∧ SameOutput s t ∧ t.lines.map Line.kept = s.lines.map Line.kept ∧ t.clock = s.clock ∧
        Replied s t 0x90 tag
          ((if 16 ≤ p.rows ∧ p.rows ≤ 48 ∧ 64 ≤ p.cols ∧ p.cols ≤ 132 ∧ 5 ≤ p.ringInterval ∧ p.ringInterval ≤ 50
              then 0x00 else 0x01)
            :: (be 1 (max 16 (min p.rows 48)) ++ be 1 (max 64 (min p.cols 132)) ++ be 4 (max 5 (min p.ringInterval 50))))) ∧
    (∀ (n : Fin 32) (c : LineConfig), (s.screen n).mode = .edit → (s.line n).config = some c → c.profile = number →
      exec (.profileDefine tag (profileBody number p keys)) s = .next (s.answered 0x90 tag [0x08]).settle)

/-- LINE_CONFIGURE stores its values, those that its mask names clamped and the others kept. An OFF line comes UP with its screen
SIGNED_OFF. A line whose format stays only stores, with a full repaint under a new profile, and is refused BUSY where that would
change the profile under a screen in EDIT. A line whose format changes is restarted: it is UP and empty, its screen is SIGNED_OFF
with nothing of its own left, and a story it owned is filed or orphaned (R31, R142, R143, R144).
(Field sizes: log entry 8; the filing at a restart: log entry 50.) -/
def Obligations.LinesAreConfigured : Prop :=
  ∀ (tag : Byte) (n : Fin 32) (c stored : LineConfig) (parity mask : Nat) (s : State), s.host.reply = none →
    s.lines.length = 32 → s.screens.length = 32 → c.rate < 6 → (c.dataBits = 7 ∨ c.dataBits = 8) →
    Parity.ofCode parity = some c.parity → (c.stopBits = 1 ∨ c.stopBits = 2) → c.profile < 4 → mask < 8 →
    c.idleLimit < 4294967296 → c.deadThreshold < 4294967296 → c.grace < 4294967296 →
    stored = LineConfig.storedOver (s.line n).config mask c →
    ((s.line n).config = none →
      ∃ t, exec (.lineConfigure tag (lineBody n c parity mask)) s = .next t ∧
        (t.line n).kept = { Line.reset with state := .up, config := some stored } ∧
        (t.screen n).mode = .signedOff ∧ (t.screen n).blanked = false ∧ (t.screen n).profileNo = c.profile ∧
        (t.screen n).profile = s.profile c.profile ∧
        (t.screen n).idle = (if stored.idleLimit = 0 then none else some stored.idleLimit) ∧
        (∀ m : Nat, m ≠ n.val → (t.line m).kept = (s.line m).kept ∧ (t.screen m).kept = (s.screen m).kept) ∧
        SameCopy s t ∧ SameOutput s t ∧ t.profiles = s.profiles ∧ t.clock = s.clock ∧
        Replied s t 0x91 tag
          (lineStatus mask c :: (be 1 1 ++ be 4 stored.idleLimit ++ be 4 stored.deadThreshold ++ be 4 stored.grace))) ∧
    (∀ old, (s.line n).config = some old → old.rate = c.rate → old.dataBits = c.dataBits → old.parity = c.parity →
      old.stopBits = c.stopBits →
      (old.profile = c.profile ∨ (s.screen n).mode ≠ .edit →
        ∃ t, exec (.lineConfigure tag (lineBody n c parity mask)) s = .next t ∧
          (t.line n).kept = { (s.line n).kept with config := some stored } ∧
          (t.screen n).mode = (s.screen n).mode ∧ (t.screen n).blanked = (s.screen n).blanked ∧
          (t.screen n).story = (s.screen n).story ∧ (t.screen n).cursor = (s.screen n).cursor ∧
          (t.screen n).idle =
            (if old.idleLimit ≠ stored.idleLimit ∧ (s.screen n).mode ≠ .down ∧ (s.screen n).blanked = false then
              (if stored.idleLimit = 0 then none else some stored.idleLimit)
            else (s.screen n).idle) ∧
          (old.profile ≠ c.profile → (s.screen n).mode ≠ .down → (s.screen n).blanked = false →
            (t.screen n).profileNo = c.profile ∧ (t.screen n).profile = s.profile c.profile) ∧
          (old.profile = c.profile ∨ (s.screen n).mode = .down ∨ (s.screen n).blanked = true →
            (t.screen n).profileNo = (s.screen n).profileNo ∧ (t.screen n).profile = (s.screen n).profile) ∧
          (∀ m : Nat, m ≠ n.val → (t.line m).kept = (s.line m).kept ∧ (t.screen m).kept = (s.screen m).kept) ∧
          SameCopy s t ∧ SameOutput s t ∧ t.profiles = s.profiles ∧ t.clock = s.clock ∧
          Replied s t 0x91 tag (lineStatus mask c ::
            (be 1 (s.line n).state.code ++ be 4 stored.idleLimit ++ be 4 stored.deadThreshold ++ be 4 stored.grace))) ∧
      (old.profile ≠ c.profile → (s.screen n).mode = .edit →
        exec (.lineConfigure tag (lineBody n c parity mask)) s = .next (s.answered 0x91 tag [0x08]).settle)) ∧
    (∀ old, (s.line n).config = some old →
      (old.rate ≠ c.rate ∨ old.dataBits ≠ c.dataBits ∨ old.parity ≠ c.parity ∨ old.stopBits ≠ c.stopBits) →
      ∃ t, exec (.lineConfigure tag (lineBody n c parity mask)) s = .next t ∧
        (t.line n).kept = { Line.reset with state := .up, config := some stored } ∧
        (t.screen n).mode = .signedOff ∧ (t.screen n).blanked = false ∧ (t.screen n).desk = none ∧
        (t.screen n).story = none ∧ (t.screen n).prompt = .closed ∧ (t.screen n).ring = [] ∧
        (t.screen n).newMark = false ∧ (t.screen n).grace = none ∧ (t.screen n).hostMessage = none ∧
        (t.screen n).profileNo = c.profile ∧ (t.screen n).profile = s.profile c.profile ∧
        (t.screen n).idle = (if stored.idleLimit = 0 then none else some stored.idleLimit) ∧
        (∀ m : Nat, m ≠ n.val → (t.line m).kept = (s.line m).kept) ∧
        (∀ k x, (s.screen n).story = some (k, .owner) → s.story k = some x → x.desk < s.baskets.length →
          FiledOrOrphaned s t k x) ∧
        (∀ k x, (s.screen n).story = some (k, .viewer) → s.story k = some x →
          t.story k = some { x with viewers := x.viewers.filter (· != n.val) } ∧ t.baskets = s.baskets ∧
            ∀ m, m ≠ k → t.story m = s.story m) ∧
        ((s.screen n).story = none →
          t.stories = s.stories ∧ t.baskets = s.baskets ∧
            ∀ m : Nat, m ≠ n.val → (t.screen m).kept = (s.screen m).kept) ∧
        t.store = s.store ∧ t.desks = s.desks ∧ t.fit = s.fit ∧ SameOutput s t ∧ t.profiles = s.profiles ∧
        t.clock = s.clock ∧
        t.host.reply.map Reply.frame = some (hostFrame 0x91 tag (lineStatus mask c ::
          (be 1 1 ++ be 4 stored.idleLimit ++ be 4 stored.deadThreshold ++ be 4 stored.grace))))

/-- SCREEN_MESSAGE puts its text on each screen of its set that is not DOWN, with one bell, and no text withdraws the messages
(R100, R115). (The sizes of the two counts are log entry 8's.) -/
def Obligations.HostMessagesReachScreens : Prop :=
  ∀ (tag : Byte) (mask : Nat) (text : List Byte) (s : State), s.host.reply = none → mask < 4294967296 →
    text.length ≤ 80 → text.all printable = true → s.screens.length = 32 →
    exec (.screenMessage tag (be 4 mask ++ textField 1 text)) s =
      .next (({ s with
        screens := List.mapIdx (fun n (c : Screen) => if mask.testBit n then c.messaged s.clock.time text else c)
          s.screens }).answered 0x93 tag
        (0x00 ::
          (be 1 ((List.range 32).countP fun (n : Nat) => mask.testBit n && (s.screen n).mode != Mode.down)
            ++ be 1 ((List.range 32).countP fun (n : Nat) => mask.testBit n && (s.screen n).mode == Mode.down)))).settle

/-- Sign-off, by SCREEN_SIGNOFF in DESK and VIEW and by the SIGNOFF key in DESK: the screen is SIGNED_OFF at no desk and with no
story, prompt, ring list or mark, and a viewer leaves its story. SCREEN_SIGNOFF of a SIGNED_OFF screen changes nothing, of a screen
in EDIT or DOWN is refused BAD_STATE, and of a number above 31 BAD_FIELD (R116, R117, R128). -/
def Obligations.ScreensSignOff : Prop :=
  (∀ (tag : Byte) (n : Fin 32) (s : State), s.host.reply = none → n.val < s.screens.length →
    ((s.screen n).mode = .desk ∨ (s.screen n).mode = .view →
      ∃ t, exec (.screenSignoff tag (be 1 n)) s = .next t ∧
        (t.screen n).mode = .signedOff ∧ (t.screen n).desk = none ∧ (t.screen n).story = none ∧
        (t.screen n).prompt = .closed ∧ (t.screen n).escape = 0 ∧ (t.screen n).ring = [] ∧ (t.screen n).newMark = false ∧
        (t.screen n).cursor = 0 ∧ (t.screen n).top = 0 ∧ (t.screen n).setTop = 0 ∧ (t.screen n).selection = none ∧
        (t.screen n).basketTop = 0 ∧ (t.screen n).setView = false ∧ (t.screen n).buffer = [] ∧
        (t.screen n).bells = 0 ∧ (t.screen n).hostMessage = (s.screen n).hostMessage ∧
        (t.screen n).partMessage = some (str "SIGNED OFF") ∧ (t.screen n).blanked = (s.screen n).blanked ∧
        (∀ k x, (s.screen n).story = some (k, .viewer) → s.story k = some x →
          t.story k = some { x with viewers := x.viewers.filter (· != n.val) }) ∧
        ((∀ k, (s.screen n).story ≠ some (k, .viewer)) → t.stories = s.stories) ∧
        (∀ m : Nat, m ≠ n.val → (t.screen m).kept = (s.screen m).kept) ∧
        t.store = s.store ∧ t.desks = s.desks ∧ t.baskets = s.baskets ∧ t.fit = s.fit ∧ SameOutput s t ∧ SameLines s t ∧
        Replied s t 0x94 tag [0x00]) ∧
    ((s.screen n).mode = .signedOff →
      exec (.screenSignoff tag (be 1 n)) s = .next (s.answered 0x94 tag [0x00]).settle) ∧
    ((s.screen n).mode = .edit ∨ (s.screen n).mode = .down →
      exec (.screenSignoff tag (be 1 n)) s = .next (s.answered 0x94 tag [0x07]).settle) ∧
    ∀ m, 32 ≤ m → m < 256 →
      exec (.screenSignoff tag (be 1 m)) s = .next (s.answered 0x94 tag [0x05]).settle) ∧
  (∀ (n : Fin 32) (s : State), s.atKeys n .desk .closed 0 → (∀ k, (s.screen n).story ≠ some (k, .viewer)) →
    ∃ t, exec (.keySignoff n) s = .next t ∧
      (t.screen n).mode = .signedOff ∧ (t.screen n).desk = none ∧ (t.screen n).story = none ∧
      (t.screen n).prompt = .closed ∧ (t.screen n).ring = [] ∧ (t.screen n).newMark = false ∧
      (t.screen n).partMessage = none ∧ (∀ m : Nat, m ≠ n.val → (t.screen m).kept = (s.screen m).kept) ∧
      SameCopy s t ∧ SameOutput s t ∧ SameLines s t ∧ t.host = s.host)

/-! ## Desks -/

/-- DESK_DEFINE stores a desk, with an empty routing where it is new and its routing kept where it is not, and values clamped with
ADJUSTED. DESK_ROUTE stores a routing, and refuses BAD FIELD a desk among its own destinations or a default route that is not
among them (R47, R49, R71).
A change of the routing lays out the screens signed on at the desk (R96). (The size of the wait limit is log entry 8's; the route's
byte under a clear flag is log entry 22.) -/
def Obligations.DesksAreDefinedAndRouted : Prop :=
  (∀ (tag : Byte) (d : Nat) (name code : List Byte) (attrs wait : Nat) (y : Style) (s : State), s.host.reply = none →
    d < 16 → s.desks.length = 16 → 1 ≤ name.length → name.length ≤ 8 → (name.map foldCase).all isNameCode = true →
    name.head? ≠ some 0x20 → code.length = 4 → code.all isDigit = true → attrs < 4 → wait < 4294967296 → y.carried →
    ∃ t, exec (.deskDefine tag
        (be 1 d ++ textField 1 name ++ textField 1 code ++ be 1 attrs ++ be 4 wait ++ styleField y)) s = .next t ∧
      t.desk d = some
        { name := name.map foldCase
          code := code
          supervisor := attrs.testBit 0
          composing := attrs.testBit 1
          route := (s.desk d).bind Desk.route
          allowed := ((s.desk d).map Desk.allowed).getD []
          waitLimit := min wait 240
          style := clampStyle y } ∧
      (∀ e, e ≠ d → t.desk e = s.desk e) ∧
      (∀ n : Nat, (t.screen n).mode = (s.screen n).mode ∧ (t.screen n).desk = (s.screen n).desk ∧
        (t.screen n).story = (s.screen n).story) ∧
      t.store = s.store ∧ t.stories = s.stories ∧ t.baskets = s.baskets ∧ t.fit = s.fit ∧ SameOutput s t ∧ SameLines s t ∧
      Replied s t 0xA0 tag
        ((if wait ≤ 240 ∧ clampStyle y = y then 0x00 else 0x01) :: (be 4 (min wait 240) ++ styleField (clampStyle y)))) ∧
  (∀ (tag : Byte) (d flag route allowed : Nat) (k : Desk) (s : State), s.host.reply = none → d < 16 → s.desk d = some k →
    flag < 2 → route < 16 → allowed < 65536 →
    ((allowed.testBit d = false ∧ (flag = 1 → allowed.testBit route = true)) →
      exec (.deskRoute tag (be 1 d ++ be 1 flag ++ be 1 route ++ be 2 allowed)) s =
        .next (({ s with
          desks := s.desks.set d (some { k with
            route := if flag = 1 then some route else none
            allowed := (List.range 16).filter fun e => allowed.testBit e })
          screens := s.screens.map fun (c : Screen) =>
            if c.signedOnAt d then { c with layoutTime := s.clock.time } else c }).answered 0xA1 tag [0x00]).settle) ∧
    ((allowed.testBit d = true ∨ (flag = 1 ∧ allowed.testBit route = false)) →
      exec (.deskRoute tag (be 1 d ++ be 1 flag ++ be 1 route ++ be 2 allowed)) s =
        .next (s.answered 0xA1 tag [0x05]).settle))

/-! ## Fit engine -/

/-- FACE_DEFINE loads one half of a face and counts its generation on; every story that uses the face becomes stale and is
scheduled, and no other. It is refused BUSY while pages are in hand (R69, R70).
(Field sizes and which stories the count counts: log entries 8 and 23.) -/
def Obligations.FacesAreLoaded : Prop :=
  ∀ (tag : Byte) (f : Nat) (upper : Bool) (widths : List Byte) (s : State), s.host.reply = none → f < 8 →
    s.fit.faces.length = 8 → s.stories.length = 512 → widths.length = (if upper then 47 else 48) →
    (s.settingQueue = [] → (∀ p < 32, ∀ g ∈ s.page p, g.state ≠ .setting) →
      ∃ t, exec (.faceDefine tag (be 1 f ++ flagByte upper ++ be 1 widths.length ++ widths)) s = .next t ∧
        t.face f = (if upper then
          { s.face f with
            upper := widths.map fun w => min 54 w.toNat, upperLoaded := true, generation := (s.face f).generation + 1 }
        else
          { s.face f with
            lower := widths.map fun w => min 54 w.toNat, lowerLoaded := true, generation := (s.face f).generation + 1 }) ∧
        (∀ g, g ≠ f → t.face g = s.face g) ∧
        (∀ n x, s.story n = some x →
          (x.style.face = f ∨ (∃ h ∈ x.head, h.style.face = f) →
            t.story n = some { x with fit := x.fit.map fun r => { r with valid := false } } ∧
              t.fit.refit.filter (fun e => e.story == n) = [⟨n, s.clock.steps + s.fit.quiet + 1⟩] ∧
              ∀ m : Nat, (t.screen m).storyNo = some n → (t.screen m).setView = false) ∧
          (x.style.face ≠ f → (∀ h ∈ x.head, h.style.face ≠ f) →
            t.story n = some x ∧
              t.fit.refit.filter (fun e => e.story == n) = s.fit.refit.filter (fun e => e.story == n))) ∧
        (∀ n, s.story n = none → t.story n = none) ∧
        t.fit.queue = s.fit.queue ∧ t.fit.pass = s.fit.pass ∧ t.fit.quiet = s.fit.quiet ∧
        t.store = s.store ∧ t.desks = s.desks ∧ t.baskets = s.baskets ∧ SameOutput s t ∧ SameLines s t ∧
        Replied s t 0xB0 tag
          ((if widths.all (fun w => decide (w.toNat ≤ 54)) then 0x00 else 0x01) ::
            (be 1 f ++ flagByte upper ++ be 4 (t.face f).generation.toNat
              ++ flagByte ((t.face f).lowerLoaded && (t.face f).upperLoaded)
              ++ be 2 ((List.range 512).countP fun (n : Nat) => (s.story n).any fun x =>
                  (x.style.face == f || x.head.any fun h => h.style.face == f) && x.fit.any fun r => r.valid)
              ++ be 1 widths.length ++ widths.map fun w => byte (min 54 w.toNat)))) ∧
    (s.settingQueue ≠ [] ∨ (∃ p < 32, ∃ g ∈ s.page p, g.state = .setting) →
      exec (.faceDefine tag (be 1 f ++ flagByte upper ++ be 1 widths.length ++ widths)) s =
        .next (s.answered 0xB0 tag [0x08]).settle)

/-- FIT_QUIET stores the quiet time, clamped to 50 with ADJUSTED, and changes no due step; a story scheduled afterwards falls due on
the step that the stored quiet time gives (R81, R82; the size of the field is log entry 8's). -/
def Obligations.QuietTimeIsSet : Prop :=
  State.reset.fit.quiet = 15 ∧
  ∀ (tag : Byte) (q : Nat) (s : State), s.host.reply = none → q < 4294967296 →
    exec (.fitQuiet tag (be 4 q)) s =
      .next (({ s with fit := { s.fit with quiet := min q 50 } }).answered 0xB1 tag
        ((if q ≤ 50 then 0x00 else 0x01) :: be 4 (min q 50))).settle ∧
    ∀ k : Nat, (s.schedule k).fit.refit.filter (fun e => e.story == k) = [⟨k, s.clock.steps + s.fit.quiet + 1⟩] ∧
      (s.schedule k).fit.refit.filter (fun e => e.story != k) = s.fit.refit.filter fun e => e.story != k

/-- FIT_REQUEST and the FIT key ask for a story's fit at once, and REFIT_DUE for that of the first entry of the refit list, where its
due step has come; an entry that a change moved on does not fall due (R83, R85, R86). (Log entry 11.) -/
def Obligations.FitsAreAskedFor : Prop :=
  (∀ (tag : Byte) (k : Nat) (x : Story) (s : State), s.host.reply = none → k < 512 → s.story k = some x →
    ∃ t, exec (.fitRequest tag (be 2 k)) s = .next t ∧ FitAsked s t k x ∧
      t.fit.refit = s.fit.refit.filter (fun e => e.story != k) ∧
      Replied s t 0xB2 tag
        (0x00 :: be 1 (match x.fit with
          | none => 0
          | some r => if r.valid then 2 else 1))) ∧
  (∀ (n : Fin 32) (k : Nat) (x : Story) (s : State), s.editing n k x →
    ∃ t, exec (.keyFit n) s = .next t ∧ FitAsked s t k x ∧
      t.fit.refit = s.fit.refit.filter (fun e => e.story != k) ∧ t.host = s.host ∧
      (∀ m : Nat, (t.screen m).mode = (s.screen m).mode ∧ (t.screen m).cursor = (s.screen m).cursor)) ∧
  (∀ (e : RefitEntry) (rest : List RefitEntry) (x : Story) (s : State), s.fit.refit = e :: rest →
    e.due ≤ s.clock.steps → s.story e.story = some x →
    ∃ t, exec .refitDue s = .next t ∧ FitAsked s t e.story x ∧ t.fit.refit = rest ∧ t.host = s.host) ∧
  (∀ s : State, (∀ e ∈ s.fit.refit.head?, s.clock.steps < e.due) → exec .refitDue s = .next s.settle)

/-- A pass that completes writes the figures of the fit rule where the story stands as recorded, and otherwise nothing; either
way the pass has ended, and the engine takes the earliest story of its queue, a placed one before the others, if its faces are
defined (R79, R84, R86, R88). The figures are the counted lines, those of the headline, those of both that are overfull, the
depth, whether a limit cut either off, and BUST (R76, R77). Every line has at most 240 characters, and is wider than the
capacity only where it is overfull, with one character (R75). (The figures are computed at the completion: log entry 19.) -/
def Obligations.PassesWriteMatchingFigures : Prop :=
  (∀ (p : Pass) (x : Story) (body heads : List SetLine) (sum : Nat) (s : State), s.fit.pass = some p →
    s.story p.story = some x → body = bodyLines (s.face x.style.face) x.style (s.text p.story) →
    heads = (x.head.map fun h => headLines (s.face h.style.face) h).getD [] →
    sum = body.length * x.style.leading + heads.length * ((x.head.map fun h => h.style.leading).getD 0) →
    ∃ t, exec .fitPassComplete s = .next t ∧ t.fit.refit = s.fit.refit ∧ t.fit.faces = s.fit.faces ∧
      t.fit.quiet = s.fit.quiet ∧
      (x.version = p.version → (s.face x.style.face).generation = p.bodyGen →
        (∀ g ∈ p.headGen, ∃ h ∈ x.head, (s.face h.style.face).generation = g) →
        ∃ r, t.story p.story = some { x with fit := some r } ∧ r.valid = true ∧ r.lines = body.length ∧
          r.heads = heads.length ∧
          r.overfull = min 4095 (body.countP SetLine.overfull + heads.countP SetLine.overfull) ∧
          r.depth = min 65535 sum ∧
          (r.saturated = true ↔ 65535 < sum ∨ 4095 < (allLines (s.face x.style.face).width (capacity x.style)
            (effectiveIndent x.style) (s.text p.story)).length) ∧
          (r.bust = true ↔ ∃ h ∈ x.head, h.maxLines < heads.length) ∧
          r.basisVersion = p.version ∧ r.basisBody = p.bodyGen ∧ r.basisHead = p.headGen) ∧
      ((x.version ≠ p.version ∨ (s.face x.style.face).generation ≠ p.bodyGen ∨
          (∃ g ∈ p.headGen, ∀ h ∈ x.head, (s.face h.style.face).generation ≠ g)) → t.stories = s.stories) ∧
      ((∀ k ∈ s.fit.queue, ∀ y ∈ s.story k, s.facesDefined y = false) → t.fit.pass = none ∧ t.fit.queue = []) ∧
      (∀ k y, (s.fit.queue.find? s.placed).or s.fit.queue.head? = some k → s.story k = some y →
        s.facesDefined y = true →
        t.fit.queue = s.fit.queue.filter (· != k) ∧
          t.fit.pass = some
            { story := k
              version := y.version
              bodyGen := (s.face y.style.face).generation
              headGen := y.head.map fun h => (s.face h.style.face).generation
              elapsed := 0
              limit := 1 + (s.count k + 2999) / 3000 }) ∧
      (∀ m, m ≠ p.story → t.story m = s.story m) ∧
      t.store = s.store ∧ t.desks = s.desks ∧ t.baskets = s.baskets ∧ t.host = s.host ∧ SameOutput s t ∧ SameLines s t) ∧
  (∀ (f : Face) (y : Style) (text : List Byte), ∀ l ∈ bodyLines f y text,
    l.text.length ≤ 240 ∧
      (l.overfull = true ↔
        capacity y < (if l.kind = .first then effectiveIndent y else 0) + (l.text.map f.width).sum) ∧
      (l.overfull = true → l.text.length = 1))

/-! ## Typesetter link and proof as the host sets them -/

/-- LINK_CONFIGURE configures an OFF link, with defaults for what its mask leaves out; it becomes DOWN with detection restarted and
raises LINK_CHANGE. On a configured link whose rate stays it only stores, and a new rate makes a link that is UP fall (R175,
R176, R177). (Field sizes: log entry 8; the order of the store and the fall: log entry 29.) -/
def Obligations.LinksAreConfigured : Prop :=
  ∀ (tag : Byte) (c : LinkConfig) (s : State), s.host.reply = none → c.rate < 7 → 5 ≤ c.ackTimeout → c.ackTimeout ≤ 100 →
    10 ≤ c.lossLimit → c.lossLimit ≤ 3600 → 5 ≤ c.acquireInterval → c.acquireInterval ≤ 100 → 1 ≤ c.losAssert →
    c.losAssert ≤ 255 → 1 ≤ c.losClear → c.losClear ≤ 255 → 1 ≤ c.poorAssert → c.poorAssert ≤ c.poorClear →
    c.poorClear ≤ 32 →
    (∀ mask stored, s.link.config = none →
      (mask = 0 ∧ stored = ⟨c.rate, 20, 300, 10, 16, 32, 24, 28, false⟩ ∨ mask = 255 ∧ stored = c) →
      exec (.linkConfigure tag (linkBody mask c)) s =
        .next ((({ s with link := { s.link with
          config := some stored
          cond := .down
          los := true
          quietCount := 0
          activeCount := 0
          nextNum := 0 } }).raise .linkChange).answered 0xE0 tag (0x00 :: (be 1 1 ++ configFields stored))).settle) ∧
    (∀ old, s.link.config = some old → old.rate = c.rate → s.settingQueue = [] →
      exec (.linkConfigure tag (linkBody 255 c)) s =
        .next (({ s with link := { s.link with config := some c } }).answered 0xE0 tag
          (0x00 :: (be 1 s.link.cond.code ++ configFields c))).settle) ∧
    (∀ old, s.link.config = some old → old.rate ≠ c.rate → s.link.cond = .up →
      ∃ t, exec (.linkConfigure tag (linkBody 255 c)) s = .next t ∧
        t.link.config = some c ∧ t.link.cond = .down ∧ t.link.los = true ∧ t.link.quietCount = 0 ∧
        t.link.activeCount = 0 ∧ t.link.held = false ∧ t.link.forward = [] ∧ t.link.ackTimer = none ∧
        (s.host.enabled .linkChange = true → t.host.raised .linkChange = true) ∧
        (∀ x ∈ s.link.setting, ∃ y ∈ t.link.setting, y.page = x.page ∧ y.suspended = true ∧ y.lossTimer = some c.lossLimit) ∧
        SameCopy s t ∧ t.pages = s.pages ∧ t.settingQueue = s.settingQueue ∧ t.edition = s.edition ∧ SameLines s t)

/-- PROOF_START starts a proof on an idle link that is UP: STARTING, every count 0, and a LOOP block of the next number, which is
sent unless the link is held; it is refused BUSY in another activity and BAD STATE when the link is not UP. PROOF_STOP ends it
with cause STOPPED: its result is stored, a proof that never found the pattern alarms, and the UNLOOP block is sent, for which
the activity waits; without a proof it is refused BAD STATE (R193, R195, R198).
(Field sizes: log entry 8; when the activity ends: log entry 25; a LOOP block on the wire at PROOF_STOP stays in front of the UNLOOP
block: log entry 46.) -/
def Obligations.ProofsStartAndStop : Prop :=
  (∀ (tag : Byte) (r : ProofRequest) (pattern value timebase : Nat) (s : State), s.host.reply = none →
    pattern = r.pattern.code → value < 4294967296 →
    (∀ v, r.pattern = .fixed v → v ≠ 0 ∧ v ≠ BitVec.allOnes 32 ∧ value = v.toNat) →
    timebaseOfCode timebase = some r.timebase → r.threshold < 4294967296 →
    (s.link.activity = .idle → s.link.cond = .up →
      exec (.proofStart tag (be 1 pattern ++ be 4 value ++ be 1 timebase ++ be 4 r.threshold ++ flagByte r.mask)) s =
        .next (({ s with
          link := { s.link with
            activity := .proving
            nextNum := s.link.nextNum + 1
            forward := if s.link.held then s.link.forward else s.link.forward ++ [ForwardBlock.mk s.link.nextNum .loop []] }
          proof := { s.proof with
            state := .starting
            request := some r
            loop := some ⟨s.link.nextNum, 1, if s.link.held then .unsent else .sending⟩
            received := 0
            checked := 0
            errors := 0
            windowChecked := 0
            windowErrors := 0
            syncLosses := 0
            firstSync := false
            alarmRaised := false } }).answered 0xE2 tag [0x02]).settle) ∧
    (s.link.activity ≠ .idle →
      exec (.proofStart tag (be 1 pattern ++ be 4 value ++ be 1 timebase ++ be 4 r.threshold ++ flagByte r.mask)) s =
        .next (s.answered 0xE2 tag [0x08]).settle) ∧
    (s.link.activity = .idle → s.link.cond ≠ .up →
      exec (.proofStart tag (be 1 pattern ++ be 4 value ++ be 1 timebase ++ be 4 r.threshold ++ flagByte r.mask)) s =
        .next (s.answered 0xE2 tag [0x07]).settle)) ∧
  (∀ (tag : Byte) (r : ProofRequest) (s : State), s.host.reply = none → s.proof.state ≠ .idle → s.proof.request = some r →
    ∃ t, exec (.proofStop tag []) s = .next t ∧
      t.proof.state = .idle ∧ t.proof.request = none ∧ t.proof.loop = none ∧
      t.proof.result = some ⟨r.pattern, r.timebase, s.proof.checked, s.proof.errors, summaryByte s.proof.errors,
        s.proof.syncLosses, .stopped⟩ ∧
      t.proof.alarmRaised = (s.proof.alarmRaised || (r.threshold != 0 && !s.proof.firstSync)) ∧
      t.link = { s.link with ackTimer := none, forward := s.link.forward ++ [⟨s.link.nextNum, .unloop, []⟩] } ∧
      t.host = ((if r.threshold ≠ 0 ∧ s.proof.firstSync = false ∧ s.proof.alarmRaised = false then s.raise .proofAlarm
        else s).answered 0xE3 tag [0x00]).host ∧
      SameCopy s t ∧ t.pages = s.pages ∧ t.settingQueue = s.settingQueue ∧ t.edition = s.edition ∧ SameLines s t) ∧
  (∀ (tag : Byte) (s : State), s.host.reply = none → s.proof.state = .idle →
    exec (.proofStop tag []) s = .next (s.answered 0xE3 tag [0x07]).settle)

/-! ## Stories as the host handles them -/

/-- STORY_LOAD fills the lowest EMPTY record, stores the text brought into the copy code, puts the story at the tail of its class
in its desk's basket, alerts the desk's screens, and schedules a fit (R5, R20, R36, R53, R63, R82). -/
def Obligations.LoadedStoriesFillARecord : Prop :=
  ∀ (tag : Byte) (slug : List Byte) (d p mask : Nat) (y : Style) (text : List Byte) (n : Nat) (k : Desk) (pr : Priority)
    (s : State), s.host.reply = none → 1 ≤ slug.length → slug.length ≤ 12 → (slug.map foldCase).all isSlugCode = true →
    d < 16 → s.desk d = some k → Priority.ofCode p = some pr → mask < 64 → y.carried → text.length ≤ 960 →
    (∀ m x, s.story m = some x → x.slug ≠ slug.map foldCase) →
    n < 512 → s.story n = none → (∀ m < n, (s.story m).isSome = true) → StoreWhole s → WithinLimits s →
    (text.length + 63) / 64 ≤ s.store.free.length → (s.basket d).length < 64 →
    ∃ t, exec (.storyLoad tag
        (textField 1 slug ++ be 1 d ++ be 1 p ++ be 2 mask ++ styleField y ++ textField 2 text)) s = .next t ∧
      t.story n = some
        { slug := slug.map foldCase
          state := .queued
          priority := pr
          desk := d
          owner := none
          viewers := []
          version := 0
          style := overlayStyle mask k.style (clampStyle y)
          head := none
          fit := none
          placement := none
          created := s.clock.time
          setEdition := none } ∧
      t.text n = text.map toCopyCode ∧ JoinsClass t (s.basket d) (t.basket d) ⟨n, s.clock.time, false⟩ pr.code ∧
      (∀ e, e ≠ d → t.basket e = s.basket e) ∧ OthersKept s t n ∧ Rescheduled s t n ∧
      (∀ m : Fin 32, (t.screen m).mode = (s.screen m).mode ∧ (t.screen m).story = (s.screen m).story ∧
        (t.screen m).prompt = (s.screen m).prompt ∧ (t.screen m).cursor = (s.screen m).cursor ∧
        ((s.screen m).signedOnAt d = true →
          (pr = .flash → n ∈ (t.screen m).ring ∧ (t.screen m).blanked = false) ∧
          (pr = .urgent ∨ pr = .routine → (t.screen m).newMark = true))) ∧
      t.desks = s.desks ∧ SameOutput s t ∧ SameLines s t ∧
      t.host = ((if s.storeLow = false ∧ t.storeLow = true then s.raise .storeLow else s).answered 0xC0 tag
        ((if overlayStyle mask k.style (clampStyle y) = overlayStyle mask k.style y then 0x00 else 0x01) ::
          (be 2 n ++ be 2 text.length ++ be 2 (text.countP fun c => !isCopyCode c)
            ++ styleField (overlayStyle mask k.style (clampStyle y))))).host

/-- STORY_APPEND puts its text, brought into the copy code, after that of a QUEUED story, changes the version once and schedules a
fit. It is refused LIMIT beyond 30,000 characters and BAD STATE in another state (R5, R14, R25, R37).
(The order of the body: log entry 49.) -/
def Obligations.AppendedTextFollows : Prop :=
  ∀ (tag : Byte) (n : Nat) (x : Story) (text : List Byte) (s : State), s.host.reply = none → n < 512 →
    s.story n = some x → text ≠ [] → text.length ≤ 1000 → StoreWhole s →
    (x.state = .queued → s.count n + text.length ≤ 30000 → (text.length + 63) / 64 ≤ s.store.free.length →
      ∃ t, exec (.storyAppend tag (be 2 n ++ textField 2 text)) s = .next t ∧
        t.text n = s.text n ++ text.map toCopyCode ∧ t.story n = some x.changed ∧ OthersKept s t n ∧ Rescheduled s t n ∧
        (∀ m : Nat, (t.screen m).cursor =
          if (s.screen m).storyNo = some n ∧ s.count n ≤ (s.screen m).cursor then (s.screen m).cursor + text.length
          else (s.screen m).cursor) ∧
        t.desks = s.desks ∧ t.baskets = s.baskets ∧ SameOutput s t ∧ SameLines s t ∧
        t.host = ((if s.storeLow = false ∧ t.storeLow = true then s.raise .storeLow else s).answered 0xC1 tag
          (0x00 :: (be 2 (s.count n + text.length) ++ be 2 (text.countP fun c => !isCopyCode c)))).host) ∧
    (x.state = .queued → 30000 < s.count n + text.length →
      exec (.storyAppend tag (be 2 n ++ textField 2 text)) s = .next (s.answered 0xC1 tag [0x0B]).settle) ∧
    (x.state ≠ .queued →
      exec (.storyAppend tag (be 2 n ++ textField 2 text)) s = .next (s.answered 0xC1 tag [0x07]).settle)

/-- STORY_STYLE and STORY_HEAD store the style fields their masks name, and the headline's text and maximum lines, clamped; what a mask
leaves out keeps its value, or takes that of the body's style where the story had no headline. A change is a version change and
schedules a fit, and no change changes nothing. A story that is SETTING refuses both (R25, R39, R40, R71).
(The layout of the STORY_HEAD reply: log entry 9; the mask of STORY_HEAD: log entry 21; the order of the bodies:
log entry 49.) -/
def Obligations.StylesAndHeadlinesAreStored : Prop :=
  ∀ (tag : Byte) (n : Nat) (x : Story) (y : Style) (s : State), s.host.reply = none → n < 512 → s.story n = some x →
    y.carried →
    (∀ mask : Nat, mask < 64 → x.state ≠ .setting → (x.state = .set_ → OffPress s x) →
      (overlayStyle mask x.style (clampStyle y) = x.style →
        exec (.storyStyle tag (be 2 n ++ be 2 mask ++ styleField y)) s =
          .next (s.answered 0xC4 tag
            ((if overlayStyle mask x.style (clampStyle y) = overlayStyle mask x.style y then 0x00 else 0x01) ::
              styleField x.style)).settle) ∧
      (overlayStyle mask x.style (clampStyle y) ≠ x.style →
        ∃ t, exec (.storyStyle tag (be 2 n ++ be 2 mask ++ styleField y)) s = .next t ∧
          t.story n = some { x.changed with style := overlayStyle mask x.style (clampStyle y) } ∧
          OthersKept s t n ∧ Rescheduled s t n ∧ t.store = s.store ∧ t.desks = s.desks ∧ t.baskets = s.baskets ∧
          SameOutput s t ∧ SameLines s t ∧
          Replied s t 0xC4 tag
            ((if overlayStyle mask x.style (clampStyle y) = overlayStyle mask x.style y then 0x00 else 0x01) ::
              styleField (overlayStyle mask x.style (clampStyle y))))) ∧
    (∀ (text : List Byte) (mask most : Nat) (old h : Headline) (status : Byte) (fields : List Byte), text.length ≤ 120 →
      mask < 64 → most < 256 → x.state ≠ .setting → (x.state = .set_ → OffPress s x) →
      old = x.head.getD ⟨[], { x.style with indent := 0 }, 1⟩ →
      h = ⟨text.map toCopyCode, { overlayStyle (mask % 32) old.style (clampStyle y) with indent := 0 },
        if mask.testBit 5 then max 1 (min most 4) else old.maxLines⟩ →
      status = (if overlayStyle (mask % 32) old.style (clampStyle y) = overlayStyle (mask % 32) old.style y ∧
        (mask.testBit 5 = true → 1 ≤ most ∧ most ≤ 4) then 0x00 else 0x01) →
      fields = be 2 (text.countP fun c => !isCopyCode c) ++ 1 :: (headStyleField h.style ++ be 1 h.maxLines) →
      (x.head = some h →
        exec (.storyHead tag (be 2 n ++ be 1 0 ++ be 2 mask ++ headStyleField y ++ be 1 most ++ textField 1 text)) s =
          .next (s.answered 0xC5 tag (status :: fields)).settle) ∧
      (x.head ≠ some h →
        ∃ t, exec (.storyHead tag
            (be 2 n ++ be 1 0 ++ be 2 mask ++ headStyleField y ++ be 1 most ++ textField 1 text)) s = .next t ∧
          t.story n = some { x.changed with head := some h } ∧ OthersKept s t n ∧ Rescheduled s t n ∧
          t.store = s.store ∧ t.desks = s.desks ∧ t.baskets = s.baskets ∧ SameOutput s t ∧ SameLines s t ∧
          Replied s t 0xC5 tag (status :: fields))) ∧
    (x.state ≠ .setting → (x.state = .set_ → OffPress s x) →
      (∀ h : Headline, x.head = some h →
        ∃ t, exec (.storyHead tag (be 2 n ++ be 1 1 ++ be 2 0 ++ headStyleField y ++ be 1 1 ++ textField 1 [])) s =
            .next t ∧
          t.story n = some { x.changed with head := none } ∧ OthersKept s t n ∧ Rescheduled s t n ∧ t.store = s.store ∧
          t.desks = s.desks ∧ t.baskets = s.baskets ∧ SameOutput s t ∧ SameLines s t) ∧
      (x.head = none →
        ∃ r, exec (.storyHead tag (be 2 n ++ be 1 1 ++ be 2 0 ++ headStyleField y ++ be 1 1 ++ textField 1 [])) s =
          .next (s.answered 0xC5 tag (0x00 :: r)).settle)) ∧
    (x.state = .setting →
      exec (.storyStyle tag (be 2 n ++ be 2 0 ++ styleField y)) s = .next (s.answered 0xC4 tag [0x07]).settle ∧
        exec (.storyHead tag (be 2 n ++ be 1 1 ++ be 2 0 ++ headStyleField y ++ be 1 1 ++ textField 1 [])) s =
          .next (s.answered 0xC5 tag [0x07]).settle)

/-- STORY_MOVE takes a QUEUED story to another desk's basket, at the tail of its class with a fresh entry; to its own desk it does
nothing, and a full basket refuses it FULL (R41, R53).
(The order of the body: log entry 49.) -/
def Obligations.MovedStoriesChangeBaskets : Prop :=
  ∀ (tag : Byte) (n d : Nat) (x : Story) (s : State), s.host.reply = none → n < 512 → d < 16 → s.story n = some x →
    (s.desk d).isSome = true → x.state = .queued → s.baskets.length = 16 →
    (x.desk ≠ d → (s.basket d).length < 64 →
      ∃ t, exec (.storyMove tag (be 2 n ++ be 1 d)) s = .next t ∧
        t.story n = some { x with desk := d } ∧ t.basket x.desk = (s.basket x.desk).filter (fun e => e.story != n) ∧
        JoinsClass t (s.basket d) (t.basket d) ⟨n, s.clock.time, false⟩ x.priority.code ∧
        (∀ e, e ≠ d → e ≠ x.desk → t.basket e = s.basket e) ∧ (∀ m, m ≠ n → t.story m = s.story m) ∧
        t.store = s.store ∧ t.desks = s.desks ∧ t.fit = s.fit ∧ SameOutput s t ∧ SameLines s t ∧
        Replied s t 0xC6 tag [0x00]) ∧
    (x.desk = d → exec (.storyMove tag (be 2 n ++ be 1 d)) s = .next (s.answered 0xC6 tag [0x00]).settle) ∧
    (x.desk ≠ d → 64 ≤ (s.basket d).length →
      exec (.storyMove tag (be 2 n ++ be 1 d)) s = .next (s.answered 0xC6 tag [0x09]).settle)

/-- STORY_SPIKE takes a QUEUED story out of its basket, or an OPEN one from its owner's screen, and makes it SPIKED; STORY_REVISE
makes a SET story QUEUED again, with a version change, unless the edition is closed (R33, R43). -/
def Obligations.StoriesAreSpikedAndRevised : Prop :=
  ∀ (tag : Byte) (n : Nat) (x : Story) (s : State), s.host.reply = none → n < 512 → s.story n = some x →
    s.screens.length = 32 → s.baskets.length = 16 →
    (x.state = .queued ∨ x.state = .open_ → OffPress s x →
      ∃ t, exec (.storySpike tag (be 2 n)) s = .next t ∧
        t.story n = some { x with state := .spiked, owner := none } ∧
        t.basket x.desk = (if x.state = .queued then (s.basket x.desk).filter fun e => e.story != n else s.basket x.desk) ∧
        (∀ e, e ≠ x.desk → t.basket e = s.basket e) ∧ (∀ m, m ≠ n → t.story m = s.story m) ∧
        (∀ (p : Fin 32) (e : Nat), x.owner = some p.val → (s.screen p).grace = none → (s.screen p).desk = some e →
          (t.screen p).mode = .desk ∧ (t.screen p).desk = some e ∧ (t.screen p).story = none ∧
            (t.screen p).prompt = .closed ∧ (t.screen p).partMessage = some (str "SPIKED")) ∧
        (∀ p : Fin 32, x.owner = some p.val → (s.screen p).grace ≠ none →
          (t.screen p).grace = none ∧ (t.screen p).story = none ∧ (t.screen p).desk = none) ∧
        t.store = s.store ∧ t.desks = s.desks ∧ t.fit = s.fit ∧ SameOutput s t ∧ SameLines s t ∧
        Replied s t 0xC7 tag [0x00]) ∧
    (x.state = .set_ → OffPress s x → s.edition.closed = false → x.desk < 16 → (s.basket x.desk).length < 64 →
      ∃ t, exec (.storyRevise tag (be 2 n)) s = .next t ∧
        t.story n = some { x.changed with state := .queued, owner := none } ∧
        JoinsClass t (s.basket x.desk) (t.basket x.desk) ⟨n, s.clock.time, false⟩ x.priority.code ∧
        (∀ e, e ≠ x.desk → t.basket e = s.basket e) ∧ OthersKept s t n ∧ Rescheduled s t n ∧
        t.store = s.store ∧ t.desks = s.desks ∧ SameOutput s t ∧ SameLines s t ∧ Replied s t 0xC9 tag [0x00]) ∧
    (x.state = .set_ → s.edition.closed = true →
      exec (.storyRevise tag (be 2 n)) s = .next (s.answered 0xC9 tag [0x0E]).settle) ∧
    (x.state ≠ .set_ → exec (.storyRevise tag (be 2 n)) s = .next (s.answered 0xC9 tag [0x07]).settle)

/-- STORY_PURGE of a SPIKED story, or of a SET one off the press, returns its record to EMPTY, its blocks to the free stack in chain
order, its slot to empty, and its viewers to DESK; any other state refuses it (R16, R42). -/
def Obligations.PurgedStoriesAreForgotten : Prop :=
  ∀ (tag : Byte) (n : Nat) (x : Story) (s : State), s.host.reply = none → n < 512 → s.story n = some x →
    s.screens.length = 32 → s.store.chains.length = 512 →
    (x.state = .spiked ∨ (x.state = .set_ ∧ OffPress s x) →
      ∃ t, exec (.storyPurge tag (be 2 n)) s = .next t ∧
        t.story n = none ∧ t.chain n = [] ∧ t.store.free = (s.chain n).nums.reverse ++ s.store.free ∧ OthersKept s t n ∧
        (∀ p k g, x.placement = some (p, k) → s.page p = some g →
          t.page p = some { g with slots := g.slots.map fun z => if z.num = k then { z with story := none } else z }) ∧
        (x.placement = none → t.pages = s.pages) ∧
        t.fit.refit = s.fit.refit.filter (fun e => e.story != n) ∧ n ∉ t.fit.queue ∧ (∀ p ∈ t.fit.pass, p.story ≠ n) ∧
        (∀ (v : Fin 32) (e : Nat), v.val ∈ x.viewers → (s.screen v).desk = some e →
          (t.screen v).mode = .desk ∧ (t.screen v).desk = some e ∧ (t.screen v).story = none ∧
            (t.screen v).partMessage = some (str "PURGED")) ∧
        t.desks = s.desks ∧ t.baskets = s.baskets ∧ t.settingQueue = s.settingQueue ∧ t.link = s.link ∧
        SameLines s t ∧ Replied s t 0xC8 tag [0x00]) ∧
    (x.state = .queued ∨ x.state = .open_ ∨ x.state = .setting →
      exec (.storyPurge tag (be 2 n)) s = .next (s.answered 0xC8 tag [0x07]).settle)

/-! ## Pages and editions -/

/-- PAGE_DEFINE stores a page with its slots in ascending number and their measures clamped; a redefinition of an OPEN page keeps
the story of each slot that stays and unplaces the others, and a page in another state refuses it (R158, R159). -/
def Obligations.PagesAreDefined : Prop :=
  ∀ (tag : Byte) (p : Nat) (label : List Byte) (slots : List Slot) (s : State), s.host.reply = none → p < 32 →
    s.pages.length = 32 → label.length ≤ 8 → (label.map foldCase).all isNameCode = true → slots.length ≤ 16 →
    (slots.map Slot.num).Nodup →
    (∀ k ∈ slots, k.num < 16 ∧ k.measure < 65536 ∧ k.allowance < 65536 ∧ k.story = none) →
    (s.page p = none →
      ∃ t g, exec (.pageDefine tag (be 1 p ++ textField 1 label ++ slotEcho slots)) s = .next t ∧ t.page p = some g ∧
        g.label = label.map foldCase ∧ g.edition = s.edition.number ∧ g.state = .open_ ∧ g.cause = none ∧
        g.slots.Pairwise (fun a b => a.num < b.num) ∧
        (∀ k, k ∈ g.slots ↔ ∃ z ∈ slots, k = { z with measure := max 36 (min z.measure 1008) }) ∧
        (∀ q, q ≠ p → t.page q = s.page q) ∧ SameCopy s t ∧ t.settingQueue = s.settingQueue ∧ t.link = s.link ∧
        SameLines s t ∧
        Replied s t 0xD0 tag
          ((if ∀ z ∈ slots, 36 ≤ z.measure ∧ z.measure ≤ 1008 then 0x00 else 0x01) :: slotEcho g.slots)) ∧
    (∀ old, s.page p = some old → old.state = .open_ →
      ∃ t g, exec (.pageDefine tag (be 1 p ++ textField 1 label ++ slotEcho slots)) s = .next t ∧ t.page p = some g ∧
        g.label = label.map foldCase ∧ g.edition = old.edition ∧ g.state = .open_ ∧ g.cause = old.cause ∧
        g.slots.Pairwise (fun a b => a.num < b.num) ∧
        (∀ k, k ∈ g.slots ↔ ∃ z ∈ slots, k = { z with
          measure := max 36 (min z.measure 1008), story := (old.slots.find? fun o => o.num == z.num).bind Slot.story }) ∧
        (∀ o ∈ old.slots, ∀ m x, o.story = some m → s.story m = some x → x.placement = some (p, o.num) →
          (∀ z ∈ slots, z.num ≠ o.num) → t.story m = some { x with placement := none }) ∧
        t.store = s.store ∧ t.baskets = s.baskets ∧ t.fit = s.fit ∧ t.settingQueue = s.settingQueue ∧
        t.link = s.link ∧ SameLines s t) ∧
    (∀ old, s.page p = some old → old.state ≠ .open_ →
      exec (.pageDefine tag (be 1 p ++ textField 1 label ++ slotEcho slots)) s =
        .next (s.answered 0xD0 tag [0x07]).settle)

/-- PAGE_PLACE puts an unplaced story in an empty slot of an OPEN page, with the slot's measure, whose change is a version change;
PAGE_UNPLACE takes it out again (R160, R161, R162). -/
def Obligations.StoriesArePlaced : Prop :=
  ∀ (tag : Byte) (p k n : Nat) (g : Page) (z : Slot) (x : Story) (s : State), s.host.reply = none → p < 32 → k < 16 →
    n < 512 → s.page p = some g → g.state = .open_ → g.slots.find? (fun o => o.num == k) = some z → s.story n = some x →
    (z.story = none → x.placement = none → x.state ≠ .spiked →
      ∃ t, exec (.pagePlace tag (be 1 p ++ be 1 k ++ be 2 n)) s = .next t ∧
        t.page p = some { g with slots := g.slots.map fun o => if o.num = k then { o with story := some n } else o } ∧
        (x.style.measure = z.measure → t.story n = some { x with placement := some (p, k) } ∧ t.fit = s.fit) ∧
        (x.style.measure ≠ z.measure →
          t.story n = some { x.changed with
            placement := some (p, k), style := { x.style with measure := z.measure } } ∧ Rescheduled s t n) ∧
        (∀ q, q ≠ p → t.page q = s.page q) ∧ OthersKept s t n ∧ t.store = s.store ∧ t.baskets = s.baskets ∧
        t.settingQueue = s.settingQueue ∧ t.link = s.link ∧ SameLines s t ∧
        Replied s t 0xD1 tag
          (0x00 :: (be 2 z.measure ++ flagByte (decide (x.style.measure ≠ z.measure))
            ++ be 4 (if x.style.measure = z.measure then x.version else x.version + 1).toNat))) ∧
    (x.placement ≠ none → x.state ≠ .spiked →
      exec (.pagePlace tag (be 1 p ++ be 1 k ++ be 2 n)) s = .next (s.answered 0xD1 tag [0x0A]).settle) ∧
    (z.story = some n → x.placement = some (p, k) →
      ∃ t, exec (.pageUnplace tag (be 1 p ++ be 1 k)) s = .next t ∧
        t.page p = some { g with slots := g.slots.map fun o => if o.num = k then { o with story := none } else o } ∧
        t.story n = some { x with placement := none } ∧ (∀ q, q ≠ p → t.page q = s.page q) ∧ OthersKept s t n ∧
        t.store = s.store ∧ t.baskets = s.baskets ∧ t.fit = s.fit ∧ t.link = s.link ∧ SameLines s t ∧
        Replied s t 0xD2 tag [0x00])

/-- PAGE_RELEASE of an OPEN page whose stories are ready makes it WAITING and its QUEUED stories SETTING; a link that may take it
makes it SETTING at once and sends its first block. So does ENTER on the PAGE_RELEASE prompt at a composing desk, with PAGE nn
WAITING. A story too deep for its slot is refused OVERSET with its slot and the excess (R136, R163, R164, R165, R180, R182).
(The size of the excess is log entry 8's.) -/
def Obligations.PagesAreReleased : Prop :=
  (∀ (tag : Byte) (p : Nat) (g : Page) (s : State), s.host.reply = none → p < 32 → Releasable s p g →
    ∃ t, exec (.pageRelease tag (be 1 p)) s = .next t ∧ PageReleased s t p g ∧ Replied s t 0xD3 tag [0x02]) ∧
  (∀ (tag : Byte) (p : Nat) (g : Page) (z : Slot) (m : Nat) (x : Story) (r : FitRecord) (s : State), s.host.reply = none →
    p < 32 → s.page p = some g → g.state = .open_ → s.edition.closed = false → g.slots = [z] → z.story = some m →
    s.story m = some x → (x.state = .queued ∨ x.state = .set_) → x.fit = some r → r.valid = true →
    r.saturated = false → z.allowance < r.depth →
    exec (.pageRelease tag (be 1 p)) s =
      .next (s.answered 0xD3 tag (0x0D :: (be 1 z.num ++ be 2 (r.depth - z.allowance)))).settle) ∧
  (∀ (n : Fin 32) (e : Nat) (s : State), s.atKeys n .desk .pageRelease e →
    (∀ p g, s.atComposing n → (s.screen n).buffer ≠ [] → p = ofDigits (s.screen n).buffer → p < 32 →
      Releasable s p g →
      ∃ t, exec (.keyEnter n) s = .next t ∧ PageReleased s t p g ∧ t.host = s.host ∧
        (t.screen n).partMessage = some (str "PAGE " ++ twoDigits p ++ str " WAITING") ∧
        (t.screen n).prompt = .closed ∧ (t.screen n).mode = .desk ∧ (t.screen n).desk = (s.screen n).desk) ∧
    (s.atComposing n →
      ((s.screen n).buffer = [] ∨ 31 < ofDigits (s.screen n).buffer ∨ s.page (ofDigits (s.screen n).buffer) = none) →
      exec (.keyEnter n) s = .next (s.keyOn n (Screen.turnedAway (str "NO PAGE"))).settle) ∧
    (¬ s.atComposing n →
      exec (.keyEnter n) s = .next (s.keyOn n (Screen.turnedAway (str "NOT PERMITTED"))).settle))

/-- PAGE_ABORT returns a WAITING page to OPEN out of the queue, and a SETTING page by ending its galley: on a link that is UP and not
held with an abort block, whose answer the activity waits for. So does ENTER on the PAGE_ABORT prompt at a composing desk (R34,
R136, R168, R189). (HOLD: log entry 26.) -/
def Obligations.PagesAreAborted : Prop :=
  (∀ (tag : Byte) (p : Nat) (g : Page) (s : State), s.host.reply = none → p < 32 → s.page p = some g →
    (g.state = .waiting ∨ g.state = .setting →
      ∃ t, exec (.pageAbort tag (be 1 p)) s = .next t ∧ PageAborted s t p g ∧
        t.host.reply = some ⟨hostFrame 0xD4 tag [0x00], t.host.noticesDue != 0⟩) ∧
    (g.state = .open_ ∨ g.state = .set_ →
      exec (.pageAbort tag (be 1 p)) s = .next (s.answered 0xD4 tag [0x07]).settle)) ∧
  (∀ (n : Fin 32) (e : Nat) (s : State), s.atKeys n .desk .pageAbort e →
    (∀ p g, s.atComposing n → (s.screen n).buffer ≠ [] → p = ofDigits (s.screen n).buffer → p < 32 →
      s.page p = some g →
      (g.state = .waiting ∨ g.state = .setting →
        ∃ t, exec (.keyEnter n) s = .next t ∧ PageAborted s t p g ∧
          (t.screen n).partMessage = some (str "PAGE " ++ twoDigits p ++ str " ABORTED") ∧
          (t.screen n).prompt = .closed ∧ (t.screen n).mode = .desk ∧ (t.screen n).desk = (s.screen n).desk) ∧
      (g.state = .open_ ∨ g.state = .set_ →
        exec (.keyEnter n) s = .next (s.keyOn n (Screen.turnedAway (str "BAD PAGE STATE"))).settle)) ∧
    (s.atComposing n →
      ((s.screen n).buffer = [] ∨ 31 < ofDigits (s.screen n).buffer ∨ s.page (ofDigits (s.screen n).buffer) = none) →
      exec (.keyEnter n) s = .next (s.keyOn n (Screen.turnedAway (str "NO PAGE"))).settle) ∧
    (¬ s.atComposing n →
      exec (.keyEnter n) s = .next (s.keyOn n (Screen.turnedAway (str "NOT PERMITTED"))).settle))

/-- EDITION_CLOSE closes the edition and reports how many pages are in hand (R170; the size of that count is log entry 8's). -/
def Obligations.EditionsClose : Prop :=
  ∀ (tag : Byte) (s : State), s.host.reply = none →
    exec (.editionClose tag []) s =
      .next (({ s with edition := { s.edition with closed := true } }).answered 0xD6 tag
        (0x00 :: (be 1 s.edition.number
          ++ be 1 (s.pagesIn .waiting + s.pagesIn .setting)))).settle

/-- EDITION_ROLLOVER, once the edition is closed and no page is in hand, begins the next one with every page OPEN in it; it is refused
BAD_FIELD, BAD_STATE, BUSY and LIMIT otherwise (R171). -/
def Obligations.EditionsRollOver : Prop :=
  ∀ (tag : Byte) (restart : Bool) (s : State), s.host.reply = none →
    (∀ flag, 2 ≤ flag → flag < 256 →
      exec (.editionRollover tag (be 1 flag)) s = .next (s.answered 0xD7 tag [0x05]).settle) ∧
    (s.edition.closed = true → (∀ o ∈ s.pages, ∀ g ∈ o, g.state ≠ .waiting ∧ g.state ≠ .setting) →
      (restart = true ∨ s.edition.number < 99) →
      exec (.editionRollover tag (flagByte restart)) s =
        .next (({ s with
          edition := ⟨if restart then 1 else s.edition.number + 1, false⟩
          pages := s.pages.map (Option.map (Page.inEdition (if restart then 1 else s.edition.number + 1))) }).answered
          0xD7 tag (0x00 :: be 1 (if restart then 1 else s.edition.number + 1))).settle) ∧
    (s.edition.closed = false →
      exec (.editionRollover tag (flagByte restart)) s = .next (s.answered 0xD7 tag [0x07]).settle) ∧
    (s.edition.closed = true → (∃ o ∈ s.pages, ∃ g ∈ o, g.state = .waiting ∨ g.state = .setting) →
      exec (.editionRollover tag (flagByte restart)) s = .next (s.answered 0xD7 tag [0x08]).settle) ∧
    (s.edition.closed = true → (∀ o ∈ s.pages, ∀ g ∈ o, g.state ≠ .waiting ∧ g.state ≠ .setting) → restart = false →
      99 ≤ s.edition.number →
      exec (.editionRollover tag (flagByte restart)) s = .next (s.answered 0xD7 tag [0x0B]).settle)

/-! ## Timers -/

/-- TIME_OF_DAY_ADVANCE moves the time of day by one second and checks the baskets: without an entry whose time has come nothing
else changes, and where one entry's has, its story rises one class, to the tail of that class, and the desk is reported (R59,
R60, R204). -/
def Obligations.TimeAdvancesAndEscalates : Prop :=
  ∀ s : State,
    ((∀ d < 16, ∀ k ∈ s.desk d, k.waitLimit ≠ 0 → ∀ y ∈ s.basket d,
        y.escalated = true ∨ s.rank y < 2 ∨ ageAt ((s.clock.time + 1) % 86400) y.time < 60 * k.waitLimit) →
      ∃ t, exec .timeOfDayAdvance s = .next t ∧ t.clock = ⟨s.clock.steps, (s.clock.time + 1) % 86400, 10⟩ ∧
        SameCopy s t ∧ SameOutput s t ∧ t.host = s.host ∧ t.lines.map Line.kept = s.lines.map Line.kept ∧
        ∀ m : Nat, (t.screen m).mode = (s.screen m).mode ∧ (t.screen m).ring = (s.screen m).ring ∧
          (t.screen m).cursor = (s.screen m).cursor) ∧
    (∀ d k l e r x, d < 16 → s.desk d = some k → k.waitLimit ≠ 0 → s.basket d = l ++ e :: r →
      (∀ y ∈ l ++ r, y.story ≠ e.story) → s.story e.story = some x → e.escalated = false →
      (x.priority = .routine ∨ x.priority = .urgent) →
      60 * k.waitLimit ≤ ageAt ((s.clock.time + 1) % 86400) e.time →
      (∀ d' < 16, ∀ k' ∈ s.desk d', k'.waitLimit ≠ 0 → ∀ y ∈ s.basket d', (d' = d ∧ y = e) ∨
        y.escalated = true ∨ s.rank y < 2 ∨ ageAt ((s.clock.time + 1) % 86400) y.time < 60 * k'.waitLimit) →
      ∃ t, exec .timeOfDayAdvance s = .next t ∧ t.clock = ⟨s.clock.steps, (s.clock.time + 1) % 86400, 10⟩ ∧
        t.story e.story = some { x with priority := if x.priority = .routine then .urgent else .bulletin } ∧
        (∀ m, m ≠ e.story → t.story m = s.story m) ∧
        JoinsClass t (l ++ r) (t.basket d) { e with escalated := true } (if x.priority = .routine then 2 else 1) ∧
        (∀ d', d' ≠ d → t.basket d' = s.basket d') ∧
        (s.host.enabled .deskOverdue = true → t.host.raised .deskOverdue = true ∧ d ∈ t.host.deskOverdue) ∧
        (s.host.enabled .deskOverdue = false → t.host = s.host) ∧
        t.store = s.store ∧ t.desks = s.desks ∧ t.fit = s.fit ∧ SameOutput s t)

/-- The idle timer's expiry blanks its screen; the ring timer's makes a ring bell due and loads the timer again, or stops with an
empty ring list; the grace timer's files the story, or orphans it where its desk's basket is full. A timer that is off does not
expire (R31, R113, R115, R153). (An expiry is taken whenever its timer runs: log entry 11.) -/
def Obligations.ScreenTimersExpire : Prop :=
  ∀ (n : Fin 32) (s : State), n.val < s.screens.length →
    ((s.screen n).idle.isSome = true → (s.screen n).mode ≠ .down → (s.screen n).blanked = false →
      exec (.idleTimerExpiry n) s =
        .next (s.updScreen n fun c => { c with
          blanked := true
          idle := none
          clearDue := true
          image := List.replicate c.profile.rows (List.replicate c.profile.cols ⟨0x20, .normal⟩) }).settle) ∧
    ((s.screen n).idle = none → exec (.idleTimerExpiry n) s = .next s.settle) ∧
    ((s.screen n).ringTimer.isSome = true → (s.screen n).ring ≠ [] →
      exec (.ringTimerExpiry n) s =
        .next (s.updScreen n fun c => { c with ringDue := true, ringTimer := some (s.ringInterval n) }).settle) ∧
    ((s.screen n).ringTimer.isSome = true → (s.screen n).ring = [] →
      exec (.ringTimerExpiry n) s = .next (s.updScreen n fun c => { c with ringDue := false, ringTimer := none }).settle) ∧
    ((s.screen n).ringTimer = none → exec (.ringTimerExpiry n) s = .next s.settle) ∧
    (∀ k x, (s.screen n).grace.isSome = true → (s.screen n).story = some (k, .owner) → s.story k = some x →
      x.desk < s.baskets.length →
      ∃ t, exec (.graceExpiry n) s = .next t ∧
        (t.screen n).grace = none ∧ (t.screen n).story = none ∧ (t.screen n).desk = none ∧ (t.screen n).cursor = 0 ∧
        (t.screen n).mode = (s.screen n).mode ∧
        ((s.basket x.desk).length < 64 → t.story k = some { x with state := .queued, owner := none } ∧
          JoinsClass t (s.basket x.desk) (t.basket x.desk) ⟨k, s.clock.time, false⟩ x.priority.code ∧ t.host = s.host) ∧
        (64 ≤ (s.basket x.desk).length → t.story k = some { x with owner := none } ∧ t.baskets = s.baskets ∧
          t.host = (s.raise .storyOrphaned).host) ∧
        (∀ d, d ≠ x.desk → t.basket d = s.basket d) ∧ (∀ m, m ≠ k → t.story m = s.story m) ∧
        t.store = s.store ∧ t.desks = s.desks ∧ t.fit = s.fit ∧ SameOutput s t ∧ SameLines s t) ∧
    ((s.screen n).grace = none → exec (.graceExpiry n) s = .next s.settle)

/-! ## Terminal lines -/

/-- A frame on an UP line is a break, a framing error, a parity error or a code, in that order; a code joins the type-ahead queue,
then the holding buffer, and is then lost to an overrun with a bell; an error raises LINE_ERROR unless one stood. On a DEAD line
a good frame is consumed and brings the line back (R145, R146, R148, R154). (A frame is one command: log entry 14.) -/
def Obligations.ReceivedFramesAreJudged : Prop :=
  ∀ (n : Fin 32) (c : LineConfig) (f : TermFrame) (code : Byte) (s : State), (s.line n).config = some c →
    n.val < s.lines.length → n.val < s.screens.length → (s.line n).breakTimer = none →
    code = (if c.dataBits = 7 then f.data &&& 0x7F else f.data) →
    ((s.line n).state = .up → code = 0 → (c.parity = .none ∨ f.parity = false) → f.stop = false →
      exec (.terminalCharacterReceived n f) s =
        .next (s.updLine n fun l => { l with breakTimer := some c.deadThreshold }).settle) ∧
    ((s.line n).state = .up → (code ≠ 0 ∨ (c.parity ≠ .none ∧ f.parity = true)) → f.stop = false →
      exec (.terminalCharacterReceived n f) s =
        .next (if (s.line n).overrun ∨ (s.line n).parityError ∨ (s.line n).framing then
            s.updLine n fun l => { l with framing := true }
          else (s.updLine n fun l => { l with framing := true }).raiseFor .lineError n).settle) ∧
    ((s.line n).state = .up → f.stop = true → c.parityAgrees f = false →
      exec (.terminalCharacterReceived n f) s =
        .next (if (s.line n).overrun ∨ (s.line n).parityError ∨ (s.line n).framing then
            s.updLine n fun l => { l with parityError := true }
          else (s.updLine n fun l => { l with parityError := true }).raiseFor .lineError n).settle) ∧
    ((s.line n).state = .up → f.stop = true → c.parityAgrees f = true →
      ((s.line n).queue.length < 8 →
        exec (.terminalCharacterReceived n f) s =
          .next (s.updLine n fun l => { l with queue := l.queue ++ [.code code] }).settle) ∧
      (8 ≤ (s.line n).queue.length → (s.line n).holding = none →
        exec (.terminalCharacterReceived n f) s =
          .next (s.updLine n fun l => { l with holding := some (.code code) }).settle) ∧
      (8 ≤ (s.line n).queue.length → (s.line n).holding.isSome = true →
        ∃ t, exec (.terminalCharacterReceived n f) s = .next t ∧
          t = ((if (s.line n).overrun ∨ (s.line n).parityError ∨ (s.line n).framing then
              s.updLine n fun l => { l with overrun := true }
            else (s.updLine n fun l => { l with overrun := true }).raiseFor .lineError n).updScreen n fun d =>
              if d.mode = .down then d else { d with bells := min 4 (d.bells + 1) }).settle ∧
          (t.line n).overrun = true ∧
          (t.line n).queue = (s.line n).queue ∧ (t.line n).holding = (s.line n).holding ∧
          (s.host.enabled .lineError = true → (s.line n).overrun = false → (s.line n).parityError = false →
            (s.line n).framing = false → t.host.raised .lineError = true ∧ n.val ∈ t.host.lineError) ∧
          SameCopy s t ∧ SameOutput s t)) ∧
    ((s.line n).state = .dead → f.stop = true → c.parityAgrees f = true →
      ∃ t, exec (.terminalCharacterReceived n f) s = .next t ∧ (t.line n).state = .up ∧
        (t.line n).queue = (s.line n).queue ∧ (t.screen n).mode = .signedOff ∧ (t.screen n).blanked = false ∧
        (t.screen n).story = (s.screen n).story ∧ (t.screen n).grace = (s.screen n).grace ∧ SameCopy s t ∧
        SameOutput s t ∧ t.host = s.host) ∧
    ((s.line n).state = .dead → (f.stop = false ∨ c.parityAgrees f = false) →
      exec (.terminalCharacterReceived n f) s = .next s.settle)

/-- A break that ends before its timer is a BREAK key, which takes its place like any received code, or is lost to an overrun with a
bell; one that outlasts it makes the line DEAD: the line's queue and transmission are dropped, but for the code in the shift, LINE_DOWN is reported, and the screen is
DOWN, an owner's with its story under the line's grace (R144, R146, R149, R150). (Log entry 11.) -/
def Obligations.BreaksEndOrKillTheLine : Prop :=
  ∀ (n : Fin 32) (c : LineConfig) (s : State), (s.line n).config = some c → n.val < s.lines.length →
    n.val < s.screens.length →
    ((s.line n).breakTimer.isSome = true → (s.line n).queue.length < 8 →
      exec (.breakEnd n) s =
        .next (s.updLine n fun l => { l with breakTimer := none, queue := l.queue ++ [.brk] }).settle) ∧
    ((s.line n).breakTimer.isSome = true → 8 ≤ (s.line n).queue.length → (s.line n).holding = none →
      exec (.breakEnd n) s =
        .next (s.updLine n fun l => { l with breakTimer := none, holding := some .brk }).settle) ∧
    ((s.line n).breakTimer.isSome = true → 8 ≤ (s.line n).queue.length → (s.line n).holding.isSome = true →
      ∃ t, exec (.breakEnd n) s = .next t ∧
        t = ((if (s.line n).overrun ∨ (s.line n).parityError ∨ (s.line n).framing then
            s.updLine n fun l => { l with breakTimer := none, overrun := true }
          else (s.updLine n fun l => { l with breakTimer := none, overrun := true }).raiseFor .lineError n).updScreen n fun d =>
            if d.mode = .down then d else { d with bells := min 4 (d.bells + 1) }).settle ∧
        (t.line n).breakTimer = none ∧ (t.line n).overrun = true ∧
        (t.line n).queue = (s.line n).queue ∧ (t.line n).holding = (s.line n).holding ∧
        (s.host.enabled .lineError = true → (s.line n).overrun = false → (s.line n).parityError = false →
          (s.line n).framing = false → t.host.raised .lineError = true ∧ n.val ∈ t.host.lineError) ∧
        SameCopy s t ∧ SameOutput s t) ∧
    ((s.line n).breakTimer = none →
      exec (.breakEnd n) s = .next s.settle ∧ exec (.breakTimerExpiry n) s = .next s.settle) ∧
    ((s.line n).breakTimer.isSome = true →
      ∃ t, exec (.breakTimerExpiry n) s = .next t ∧
        t.line n = { s.line n with
          state := .dead, assembling := [], breakTimer := none, holding := none, queue := [], item := none
          unfed := [], buffer := none } ∧
        (t.screen n).mode = .down ∧ (t.screen n).blanked = false ∧ (t.screen n).prompt = .closed ∧
        (t.screen n).escape = 0 ∧ (t.screen n).ring = [] ∧ (t.screen n).bells = 0 ∧ (t.screen n).newMark = false ∧
        (t.screen n).partMessage = none ∧ (t.screen n).idle = none ∧ (t.screen n).setView = false ∧
        (t.screen n).hostMessage = (s.screen n).hostMessage ∧
        ((s.screen n).mode = .edit → (t.screen n).story = (s.screen n).story ∧ (t.screen n).desk = (s.screen n).desk ∧
          (t.screen n).cursor = (s.screen n).cursor ∧ (t.screen n).grace = some c.grace) ∧
        ((s.screen n).mode ≠ .edit → (s.screen n).grace = none →
          (t.screen n).story = none ∧ (t.screen n).desk = none ∧ (t.screen n).grace = none) ∧
        (∀ k x, (s.screen n).story = some (k, .viewer) → s.story k = some x →
          t.story k = some { x with viewers := x.viewers.filter (· != n.val) }) ∧
        (s.host.enabled .lineDown = true → t.host.raised .lineDown = true ∧ n.val ∈ t.host.lineDown) ∧
        (s.host.enabled .lineDown = false → t.host = s.host) ∧
        (∀ m : Nat, m ≠ n.val → (t.line m).kept = (s.line m).kept ∧ (t.screen m).kept = (s.screen m).kept) ∧
        t.store = s.store ∧ t.desks = s.desks ∧ t.baskets = s.baskets ∧ t.fit = s.fit ∧ SameOutput s t)

/-! ## Keys

A key command is the interpreter's taking of that key, at once where no key waits (log entry 13). -/

/-- In EDIT a printable key, INSERT_EP and NOTE insert at the cursor, NOTE a note open outside a note and a note close inside one;
RUBOUT deletes before the cursor and DELETE at it. Each is one change of the text and of the version. A text at its limit refuses
the insert, and a delete with nothing to delete changes no text (R8, R12, R13, R25, R106, R122, R131). -/
def Obligations.EditKeysChangeTheText : Prop :=
  ∀ (n : Fin 32) (k : Nat) (x : Story) (s : State) (at_ : Nat), s.editing n k x → StoreWhole s →
    at_ = (s.screen n).cursor →
    (s.store.free ≠ [] → s.count k < 30000 →
      (∀ code : Byte, printable code = true → code ≠ (s.screen n).profile.superCode →
        ∃ t, exec (.keyPrintable n code) s = .next t ∧
          TextKeyed s t n k x ((s.text k).take at_ ++ code :: (s.text k).drop at_) (at_ + 1)
            (fun y => if at_ ≤ y then y + 1 else y)) ∧
      (∃ t, exec (.keyInsertEp n) s = .next t ∧
        TextKeyed s t n k x ((s.text k).take at_ ++ 0x0A :: (s.text k).drop at_) (at_ + 1)
          (fun y => if at_ ≤ y then y + 1 else y)) ∧
      (∃ t, exec (.keyNote n) s = .next t ∧
        TextKeyed s t n k x
          ((s.text k).take at_ ++ (if insideNote (s.text k) at_ then 0x0F else 0x0E) :: (s.text k).drop at_) (at_ + 1)
          (fun y => if at_ ≤ y then y + 1 else y))) ∧
    (0 < at_ → at_ ≤ s.count k →
      ∃ t, exec (.keyRubout n) s = .next t ∧
        TextKeyed s t n k x ((s.text k).eraseIdx (at_ - 1)) (at_ - 1) (fun y => if at_ - 1 < y then y - 1 else y)) ∧
    (at_ < s.count k →
      ∃ t, exec (.keyDelete n) s = .next t ∧
        TextKeyed s t n k x ((s.text k).eraseIdx at_) at_ (fun y => if at_ < y then y - 1 else y)) ∧
    (30000 ≤ s.count k →
      ∃ t, exec (.keyInsertEp n) s = .next t ∧ (t.screen n).partMessage = some (str "STORY LIMIT") ∧
        (t.screen n).cursor = at_ ∧ SameCopy s t ∧ SameOutput s t ∧ SameLines s t ∧ t.host = s.host) ∧
    (at_ = 0 → ∃ t, exec (.keyRubout n) s = .next t ∧ (t.screen n).cursor = 0 ∧ SameCopy s t ∧ t.host = s.host) ∧
    (s.count k ≤ at_ → ∃ t, exec (.keyDelete n) s = .next t ∧ (t.screen n).cursor = at_ ∧ SameCopy s t ∧ t.host = s.host)

/-- In TYPE view the cursor keys move the cursor within the text and keep it in view, and PREV and NEXT move the viewport alone. In
SET view they move the set top, and LEFT and RIGHT drop to TYPE view and move the cursor. VIEWMODE goes to SET view only with a
VALID fit. In DESK the keys move the selection within the basket view (R102, R105, R107, R127, R129, R130).
(Keys as commands: log entry 13; the cursor address after a key that moves nothing: log entry 52.) -/
def Obligations.MovementKeysMoveOneScreen : Prop :=
  (∀ (n : Fin 32) (d i k : Nat) (view : List Nat) (s : State), s.atKeys n .desk .closed 0 → (s.screen n).desk = some d →
    (s.screen n).selection = some (k, i) → view = s.basketView d → view.Nodup →
    SelectionMoved s n (.keyUp n) view (i - 1) ∧
    SelectionMoved s n (.keyDown n) view (min (i + 1) (view.length - 1)) ∧
    SelectionMoved s n (.keyPrev n) view (i - ((s.screen n).profile.rows - 3)) ∧
    SelectionMoved s n (.keyNext n) view (min (i + ((s.screen n).profile.rows - 3)) (view.length - 1)) ∧
    SelectionMoved s n (.keyTop n) view 0 ∧
    SelectionMoved s n (.keyBottom n) view (view.length - 1)) ∧
  ∀ (n : Fin 32) (k : Nat) (starts : List Nat) (at_ row : Nat) (s : State), s.inStory n k →
    1 ≤ (s.screen n).profile.cols → 3 ≤ (s.screen n).profile.rows →
    starts = typeStarts (s.screen n).profile.cols (s.text k) → at_ = (s.screen n).cursor → row = rowOf starts at_ →
    ((s.screen n).setView = false →
      CursorMoved s n (.keyLeft n) (at_ - 1) ∧
      CursorMoved s n (.keyRight n) (min (at_ + 1) (s.count k)) ∧
      CursorMoved s n (.keyTop n) 0 ∧
      CursorMoved s n (.keyBottom n) (s.count k) ∧
      CursorMoved s n (.keyUp n)
        (if row = 0 then at_
          else min (starts.getD (row - 1) 0 + (at_ - starts.getD row 0)) (starts.getD row 0 - 1)) ∧
      CursorMoved s n (.keyDown n)
        (if row + 1 < starts.length then
          min (starts.getD (row + 1) 0 + (at_ - starts.getD row 0))
            (if row + 2 < starts.length then starts.getD (row + 2) 0 - 1 else s.count k)
        else at_) ∧
      exec (.keyPrev n) s =
        .next (s.keyOn n fun c =>
          { c with top := starts.getD (rowOf starts c.top - (c.profile.rows - 3)) 0 }).settle ∧
      exec (.keyNext n) s =
        .next (s.keyOn n fun c =>
          { c with top := starts.getD (min (rowOf starts c.top + (c.profile.rows - 3)) (starts.length - 1)) 0 }).settle) ∧
    (∀ x rows, s.story k = some x → rows = ((s.setLines k x).1 ++ (s.setLines k x).2).length →
      ((s.screen n).setView = true →
        SetTopMoved s n (.keyUp n) ((s.screen n).setTop - 1) ∧
        SetTopMoved s n (.keyDown n) (min ((s.screen n).setTop + 1) (rows - 1)) ∧
        SetTopMoved s n (.keyPrev n) ((s.screen n).setTop - ((s.screen n).profile.rows - 3)) ∧
        SetTopMoved s n (.keyNext n) (min ((s.screen n).setTop + ((s.screen n).profile.rows - 3)) (rows - 1)) ∧
        SetTopMoved s n (.keyTop n) 0 ∧
        CursorLeavesSetView s n (.keyLeft n) (at_ - 1) ∧
        CursorLeavesSetView s n (.keyRight n) (min (at_ + 1) (s.count k)) ∧
        SetTopMoved s n (.keyBottom n) (rows - ((s.screen n).profile.rows - 2)) ∧
        ∃ top, exec (.keyViewmode n) s =
          .next (s.keyOn n fun c => { c with setView := false, setTop := 0, top := top }).settle) ∧
      ((s.screen n).setView = false → (∃ r ∈ x.fit, r.valid = true) →
        ∃ setTop top, exec (.keyViewmode n) s =
          .next (s.keyOn n fun c => { c with setView := true, setTop := setTop, top := top }).settle) ∧
      ((s.screen n).setView = false → (∀ r ∈ x.fit, r.valid = false) →
        exec (.keyViewmode n) s = .next (s.keyOn n (Screen.denied (str "FIT PENDING"))).settle))

/-- The keys that open a prompt; the page keys only at a composing desk (R123, R127, R128, R133, R136). Then ENTER on the SIGNON
prompt: a screen without a grace whose desk number and code agree is in DESK with its first item selected, one under a grace of
that desk is back in EDIT of its story, one under a grace of another desk is in DESK with its story filed or orphaned, and any
other buffer is refused (R31, R51, R92, R111, R126, R152). -/
def Obligations.PromptsOpenAndSignOn : Prop :=
  (∀ (n : Fin 32) (s : State), s.atKeys n .desk .closed 0 →
    exec (.keyNew n) s =
        .next (s.keyOn n fun c => { c with prompt := .newSlug, buffer := [], promptArg := none }).settle ∧
    (∀ code : Byte, isSlugCode (foldCase code) = true → printable code = true →
      code ≠ (s.screen n).profile.superCode →
      exec (.keyPrintable n code) s =
        .next (s.keyOn n fun c => { c with prompt := .openSlug, buffer := [foldCase code], promptArg := none }).settle) ∧
    ((∃ d, (s.screen n).desk = some d ∧ ∃ k ∈ s.desk d, k.composing = true) →
      exec (.keyRelease n) s =
          .next (s.keyOn n fun c => { c with prompt := .pageRelease, buffer := [], promptArg := none }).settle ∧
        exec (.keyAbort n) s =
          .next (s.keyOn n fun c => { c with prompt := .pageAbort, buffer := [], promptArg := none }).settle) ∧
    ((∀ d, (s.screen n).desk = some d → ∀ k ∈ s.desk d, k.composing = false) →
      exec (.keyRelease n) s = .next (s.keyOn n (Screen.denied (str "NOT PERMITTED"))).settle ∧
        exec (.keyAbort n) s = .next (s.keyOn n (Screen.denied (str "NOT PERMITTED"))).settle)) ∧
  (∀ (n : Fin 32) (k : Nat) (s : State), s.atKeys n .edit .closed 0 → (s.screen n).story = some (k, .owner) →
    exec (.keySend n) s =
        .next (s.keyOn n fun c => { c with prompt := .sendDesk, buffer := [], promptArg := none }).settle ∧
    exec (.keySpike n) s =
        .next (s.keyOn n fun c => { c with prompt := .spikeConfirm, buffer := [], promptArg := none }).settle ∧
    exec (.keyPriority n) s =
        .next (s.keyOn n fun c => { c with prompt := .priority, buffer := [], promptArg := none }).settle) ∧
  ∀ (n : Fin 32) (e d : Nat) (s : State), s.atKeys n .signedOff .signon e → d = ofDigits ((s.screen n).buffer.take 2) →
    ((s.screen n).buffer.length = 6 → d < 16 → (∃ k ∈ s.desk d, k.code = (s.screen n).buffer.drop 2) →
      ((s.screen n).grace = none →
        exec (.keyEnter n) s =
          .next (s.keyOn n fun c => { c with
            prompt := .closed
            buffer := []
            promptArg := none
            mode := .desk
            desk := some d
            story := none
            setView := false
            top := 0
            setTop := 0
            cursor := 0
            basketTop := 0
            selection := (s.basketView d).head?.map fun x => (x, 0)
            clearDue := true
            image := List.replicate c.profile.rows (List.replicate c.profile.cols ⟨0x20, .normal⟩)
            layoutTime := s.clock.time }).settle) ∧
      ((s.screen n).grace.isSome = true → (s.screen n).desk = some d →
        ∃ top, exec (.keyEnter n) s =
          .next (s.keyOn n fun c => { c with
            prompt := .closed
            buffer := []
            promptArg := none
            mode := .edit
            grace := none
            setView := false
            top := top
            clearDue := true
            image := List.replicate c.profile.rows (List.replicate c.profile.cols ⟨0x20, .normal⟩)
            layoutTime := s.clock.time }).settle) ∧
      (∀ k x, (s.screen n).grace.isSome = true → (s.screen n).desk ≠ some d → (s.screen n).story = some (k, .owner) →
        s.story k = some x → x.desk < s.baskets.length →
        ∃ t, exec (.keyEnter n) s = .next t ∧ FiledOrOrphaned s t k x ∧ (t.screen n).mode = .desk ∧
          (t.screen n).desk = some d ∧ (t.screen n).grace = none ∧ (t.screen n).story = none ∧
          (t.screen n).prompt = .closed ∧ t.store = s.store ∧ t.desks = s.desks ∧ t.fit = s.fit ∧ SameOutput s t ∧
          SameLines s t)) ∧
    (((s.screen n).buffer.length ≠ 6 ∨ 16 ≤ d ∨ (∀ k ∈ s.desk d, k.code ≠ (s.screen n).buffer.drop 2)) →
      exec (.keyEnter n) s =
        .next (s.keyOn n (Screen.turnedAway (str "SIGN-ON REFUSED"))).settle)

/-- ACK, CANCEL and an unmapped key act alike in every state with or without a prompt. With keys waiting, a key is taken only in the
turn of its line, as its queue's oldest, and the holding buffer moves in behind the queue; any key wakes a BLANKED screen and does
no more. SUPERVISOR_CODE counts to four, and then a T at a supervisor desk in DESK opens the take prompt and at another desk is
refused. ENTER then makes the screen the owner of the OPEN story named, and the one who had it a viewer; or moves the QUEUED story
named (R32, R114, R120, R122, R124, R135, R137 to R140, R146, R147). (Keys as commands: log entry 13; the order of the checks of a
move: log entry 35; a waking key in the rotation: log entry 51.) -/
def Obligations.KeysOfEveryState : Prop :=
  (∀ (n : Fin 32) (mode : Mode) (prompt : Prompt) (e : Nat) (s : State), s.atKeys n mode prompt e → mode ≠ .down →
    (e = 0 → (mode = .edit → ∃ k, (s.screen n).story = some (k, .owner)) →
      exec (.keyAck n) s =
        .next (s.keyOn n fun c => { c with
          ring := []
          ringTimer := none
          ringDue := false
          hostMessage := c.hostMessage.map fun m => (m.1, false) }).settle ∧
      exec (.keyCancel n) s =
        .next (s.keyOn n fun c => { c with prompt := .closed, buffer := [], promptArg := none, escape := 0 }).settle ∧
      exec (.keyUnmapped n) s = .next (s.keyOn n fun c => { c with bells := min 4 (c.bells + 1) }).settle) ∧
    (e < 4 → prompt = .closed → mode ≠ .signedOff →
      exec (.keySupervisorCode n) s =
        .next (s.keyOn n fun c => { c with
          escape := e + 1
          partMessage := if e = 3 then some (str "SUPERVISOR") else none }).settle) ∧
    (e = 4 → prompt = .closed → mode = .desk →
      (s.atSupervisor n →
        exec (.keyPrintable n 0x54) s =
            .next (s.keyOn n fun c => { c with
              escape := 0
              prompt := .superTake
              buffer := []
              promptArg := none }).settle ∧
          exec (.keyPrintable n 0x4D) s =
            .next (s.keyOn n fun c => { c with
              escape := 0
              prompt := .superMoveSlug
              buffer := []
              promptArg := none }).settle) ∧
      (¬ s.atSupervisor n →
        exec (.keyPrintable n 0x54) s =
          .next (s.keyOn n fun c => Screen.denied (str "NOT PERMITTED") { c with escape := 0 }).settle))) ∧
  (∀ (n : Fin 32) (c : Instr) (s : State), IsKeyOf n c →
    (∀ m : Fin 32, s.turn m → m ≠ n → exec c s = .next s.settle) ∧
    (s.noKeyWaits → (s.line n).state = .up → n.val < s.screens.length → (s.screen n).blanked = true →
      (s.screen n).mode ≠ .down →
      ∃ top, exec c s =
        .next ({ s.updScreen n fun d => { d with
          blanked := false
          idle := if s.idleLimit n = 0 then none else some (s.idleLimit n)
          profileNo := s.lineProfile n
          profile := s.profile (s.lineProfile n)
          clearDue := true
          image := List.replicate (s.profile (s.lineProfile n)).rows
            (List.replicate (s.profile (s.lineProfile n)).cols ⟨0x20, .normal⟩)
          layoutTime := s.clock.time
          top := top } with keyTurn := n }).settle)) ∧
  (∀ (n : Fin 32) (q : QueuedKey) (rest : List QueuedKey) (s t : State), s.turn n → (s.line n).queue = q :: rest →
    n.val < s.lines.length → n.val < s.screens.length → (s.screen n).mode ≠ .down → (s.screen n).blanked = false →
    (s.screen n).escape = 0 → ((s.screen n).mode = .edit → ∃ k, (s.screen n).story = some (k, .owner)) →
    t = s.updLine n (fun l => { l with queue := rest ++ l.holding.toList, holding := none }) →
    (q = .brk →
      exec (.keyCancel n) s =
          .next (t.keyOn n fun c => { c with prompt := .closed, buffer := [], promptArg := none, escape := 0 }).settle ∧
        exec (.keyAck n) s = .next s.settle) ∧
    (∀ code : Byte, q = .code code → code.toNat < 32 → code ≠ (s.screen n).profile.superCode →
      (s.screen n).profile.keyMap[code.toNat]? = some (some .ack) →
      exec (.keyAck n) s =
          .next (t.keyOn n fun c => { c with
            ring := []
            ringTimer := none
            ringDue := false
            hostMessage := c.hostMessage.map fun m => (m.1, false) }).settle ∧
        exec (.keyCancel n) s = .next s.settle)) ∧
  (∀ (n : Fin 32) (e : Nat) (mode : Mode) (s : State), s.atKeys n mode .superTake e → (mode = .desk ∨ mode = .view) →
    (∀ k x viewers, s.atSupervisor n → s.typed n k x → x.state = .open_ → x.owner ≠ some n.val →
      s.screens.length = 32 →
      viewers = (if (s.screen n).story = some (k, .viewer) then x.viewers.filter (· != n.val) else x.viewers) →
      ∃ t after, exec (.keyEnter n) s = .next t ∧
        t.story k = some { x with owner := some n.val, viewers := after } ∧
        (t.screen n).mode = .edit ∧ (t.screen n).story = some (k, .owner) ∧ (t.screen n).prompt = .closed ∧
        ((s.screen n).story = some (k, .viewer) →
          (t.screen n).cursor = (s.screen n).cursor ∧ (t.screen n).top = (s.screen n).top) ∧
        ((s.screen n).story ≠ some (k, .viewer) → (t.screen n).cursor = 0 ∧ (t.screen n).top = 0) ∧
        (∀ j y, j ≠ k → (s.screen n).story = some (j, .viewer) → s.story j = some y →
          t.story j = some { y with viewers := y.viewers.filter (· != n.val) }) ∧
        (x.owner = none → after = viewers) ∧
        (∀ p : Fin 32, x.owner = some p.val →
          ((s.screen p).grace.isSome = true → after = viewers ∧ (t.screen p).grace = none ∧
            (t.screen p).story = none ∧ (t.screen p).desk = none ∧ (t.screen p).mode = (s.screen p).mode) ∧
          ((s.screen p).grace = none → viewers.length < 8 →
            (∀ m, m ∈ after ↔ m = p.val ∨ m ∈ viewers) ∧ (t.screen p).mode = .view ∧
              (t.screen p).story = some (k, .viewer) ∧ (t.screen p).cursor = (s.screen p).cursor ∧
              (t.screen p).partMessage = some (str "TAKEN") ∧ (t.screen p).prompt = .closed) ∧
          (∀ d, (s.screen p).grace = none → 8 ≤ viewers.length → (s.screen p).desk = some d →
            after = viewers ∧ (t.screen p).mode = .desk ∧ (t.screen p).story = none ∧
              (t.screen p).partMessage = some (str "TAKEN"))) ∧
        (∀ j, j ≠ k → (s.screen n).story ≠ some (j, .viewer) → t.story j = s.story j) ∧
        t.store = s.store ∧ t.desks = s.desks ∧ t.baskets = s.baskets ∧ t.fit = s.fit ∧ SameOutput s t ∧
        SameLines s t ∧ t.host = s.host) ∧
    (∀ k x, s.atSupervisor n → s.typed n k x → x.state ≠ .open_ →
      exec (.keyEnter n) s = .next (s.keyOn n (Screen.turnedAway (str "NOT OPEN"))).settle) ∧
    (¬ s.atSupervisor n →
      exec (.keyEnter n) s = .next (s.keyOn n (Screen.turnedAway (str "NOT PERMITTED"))).settle)) ∧
  (∀ (n : Fin 32) (e k : Nat) (mode : Mode) (x : Story) (s : State), mode ≠ .down → mode ≠ .signedOff →
    s.atSupervisor n → s.story k = some x →
    (s.atKeys n mode .superMoveSlug e → s.typed n k x →
      (x.state = .queued →
        exec (.keyEnter n) s =
          .next (s.keyOn n fun c => { c with prompt := .superMoveDesk, buffer := [], promptArg := some k }).settle) ∧
      (x.state ≠ .queued →
        exec (.keyEnter n) s = .next (s.keyOn n (Screen.turnedAway (str "NOT QUEUED"))).settle)) ∧
    (∀ d, s.atKeys n mode .superMoveDesk e → (s.screen n).promptArg = some k → (s.screen n).buffer ≠ [] →
      d = ofDigits (s.screen n).buffer → d < 16 →
      (s.desk d = none → exec (.keyEnter n) s = .next (s.keyOn n (Screen.turnedAway (str "NO DESK"))).settle) ∧
      ((s.desk d).isSome = true → x.state ≠ .queued →
        exec (.keyEnter n) s = .next (s.keyOn n (Screen.turnedAway (str "NOT QUEUED"))).settle) ∧
      ((s.desk d).isSome = true → x.state = .queued → x.desk = d →
        exec (.keyEnter n) s =
          .next (s.keyOn n fun c => { c with
            prompt := .closed, buffer := [], promptArg := none, partMessage := some (str "MOVED") }).settle) ∧
      ((s.desk d).isSome = true → x.state = .queued → x.desk ≠ d → 64 ≤ (s.basket d).length →
        exec (.keyEnter n) s = .next (s.keyOn n (Screen.turnedAway (str "QUEUE FULL"))).settle) ∧
      ((s.desk d).isSome = true → x.state = .queued → x.desk ≠ d → (s.basket d).length < 64 → s.baskets.length = 16 →
        ∃ t, exec (.keyEnter n) s = .next t ∧ t.story k = some { x with desk := d } ∧
          t.basket x.desk = (s.basket x.desk).filter (fun y => y.story != k) ∧
          JoinsClass t (s.basket d) (t.basket d) ⟨k, s.clock.time, false⟩ x.priority.code ∧
          (∀ b, b ≠ d → b ≠ x.desk → t.basket b = s.basket b) ∧ (∀ m, m ≠ k → t.story m = s.story m) ∧
          (t.screen n).partMessage = some (str "MOVED") ∧ (t.screen n).prompt = .closed ∧
          (t.screen n).mode = mode ∧ t.store = s.store ∧ t.desks = s.desks ∧ t.fit = s.fit ∧ SameOutput s t ∧
          SameLines s t ∧ t.host = s.host)))

/-- OPEN makes a QUEUED story of the screen's desk OPEN there, out of its basket and every ring list; VIEW adds a viewer, of at most
eight; CLOSE removes it; FILE puts the owned story in its desk's basket at the tail of its class, if there is room. ENTER on the
NEW_SLUG prompt creates a story OPEN at the screen, on SEND_DESK it files the owned story at a desk of the routing, a Y confirms
the spike, and a digit sets the priority; a refusal has its message and a bell (R24, R26 to R30, R33, R53, R54, R57, R122, R133).
(Log entry 13.) -/
def Obligations.StoriesAreOpenedViewedAndFiled : Prop :=
  (∀ (n : Fin 32) (d k i : Nat) (x : Story) (s : State), s.atKeys n .desk .closed 0 → (s.screen n).desk = some d →
    (s.screen n).selection = some (k, i) → s.story k = some x →
    (x.state = .queued → x.desk = d →
      ∃ t, exec (.keyOpen n) s = .next t ∧ t.story k = some { x with state := .open_, owner := some n.val } ∧
        t.basket d = (s.basket d).filter (fun e => e.story != k) ∧ (∀ e, e ≠ d → t.basket e = s.basket e) ∧
        (t.screen n).mode = .edit ∧ (t.screen n).story = some (k, .owner) ∧ (t.screen n).desk = some d ∧
        (t.screen n).cursor = 0 ∧ (t.screen n).top = 0 ∧ (t.screen n).setView = false ∧
        (∀ m : Nat, k ∉ (t.screen m).ring) ∧ (∀ m, m ≠ k → t.story m = s.story m) ∧ t.store = s.store ∧
        t.desks = s.desks ∧ t.fit = s.fit ∧ SameOutput s t ∧ SameLines s t ∧ t.host = s.host) ∧
    (x.state = .setting ∨ x.state = .set_ ∨ x.state = .spiked →
      exec (.keyOpen n) s = .next (s.keyOn n (Screen.denied (str "NOT AVAILABLE"))).settle) ∧
    (x.viewers.length < 8 →
      ∃ t, exec (.keyView n) s = .next t ∧
        (∃ v, t.story k = some { x with viewers := v } ∧ ∀ m, m ∈ v ↔ m = n.val ∨ m ∈ x.viewers) ∧
        (t.screen n).mode = .view ∧ (t.screen n).story = some (k, .viewer) ∧ (t.screen n).desk = some d ∧
        (t.screen n).cursor = 0 ∧ (t.screen n).top = 0 ∧ (∀ m, m ≠ k → t.story m = s.story m) ∧
        t.baskets = s.baskets ∧ t.store = s.store ∧ t.desks = s.desks ∧ t.fit = s.fit ∧ SameOutput s t ∧
        SameLines s t ∧ t.host = s.host) ∧
    (8 ≤ x.viewers.length →
      exec (.keyView n) s = .next (s.keyOn n (Screen.denied (str "VIEWERS FULL"))).settle)) ∧
  (∀ (n : Fin 32) (d k : Nat) (x : Story) (s : State), s.atKeys n .view .closed 0 → (s.screen n).desk = some d →
    (s.screen n).story = some (k, .viewer) → s.story k = some x →
    ∃ t, exec (.keyClose n) s = .next t ∧ t.story k = some { x with viewers := x.viewers.filter (· != n.val) } ∧
      (t.screen n).mode = .desk ∧ (t.screen n).desk = some d ∧ (t.screen n).story = none ∧
      (∀ m, m ≠ k → t.story m = s.story m) ∧ t.baskets = s.baskets ∧ t.store = s.store ∧ t.desks = s.desks ∧
      t.fit = s.fit ∧ SameOutput s t ∧ SameLines s t ∧ t.host = s.host) ∧
  (∀ (n : Fin 32) (d k : Nat) (x : Story) (s : State), s.editing n k x → (s.screen n).desk = some d →
    x.desk < s.baskets.length →
    ((s.basket x.desk).length < 64 →
      ∃ t, exec (.keyFile n) s = .next t ∧ t.story k = some { x with state := .queued, owner := none } ∧
        JoinsClass t (s.basket x.desk) (t.basket x.desk) ⟨k, s.clock.time, false⟩ x.priority.code ∧
        (∀ e, e ≠ x.desk → t.basket e = s.basket e) ∧ (t.screen n).mode = .desk ∧ (t.screen n).desk = some d ∧
        (t.screen n).story = none ∧ (t.screen n).ring = (s.screen n).ring ∧ (∀ m, m ≠ k → t.story m = s.story m) ∧
        t.store = s.store ∧ t.desks = s.desks ∧ t.fit = s.fit ∧ SameOutput s t ∧ SameLines s t ∧ t.host = s.host) ∧
    (64 ≤ (s.basket x.desk).length →
      exec (.keyFile n) s = .next (s.keyOn n (Screen.denied (str "QUEUE FULL"))).settle)) ∧
  (∀ (n : Fin 32) (d e : Nat) (y : Desk) (slug : List Byte) (s : State), s.atKeys n .desk .newSlug e →
    (s.screen n).desk = some d → s.desk d = some y → slug = (s.screen n).buffer.map foldCase →
    (slug = [] ∨ 12 < slug.length ∨ slug.all isSlugCode = false →
      exec (.keyEnter n) s = .next (s.keyOn n (Screen.turnedAway (str "BAD SLUG"))).settle) ∧
    (slug ≠ [] → slug.length ≤ 12 → slug.all isSlugCode = true →
      ((∃ m < 512, ∃ x, s.story m = some x ∧ x.slug = slug) →
        exec (.keyEnter n) s = .next (s.keyOn n (Screen.turnedAway (str "SLUG IN USE"))).settle) ∧
      ((∀ m < 512, ∀ x, s.story m = some x → x.slug ≠ slug) →
        ((∀ m < 512, (s.story m).isSome = true) →
          exec (.keyEnter n) s = .next (s.keyOn n (Screen.turnedAway (str "TABLE FULL"))).settle) ∧
        (∀ k, k < 512 → s.story k = none → (∀ m < k, (s.story m).isSome = true) →
          (64 ≤ (s.basket d).length →
            exec (.keyEnter n) s = .next (s.keyOn n (Screen.turnedAway (str "QUEUE FULL"))).settle) ∧
          ((s.basket d).length < 64 → s.stories.length = 512 →
            ∃ t, exec (.keyEnter n) s = .next t ∧
              t.story k = some
                { slug := slug
                  state := .open_
                  priority := .routine
                  desk := d
                  owner := some n.val
                  viewers := []
                  version := 0
                  style := y.style
                  head := none
                  fit := none
                  placement := none
                  created := s.clock.time
                  setEdition := none } ∧
              (t.screen n).mode = .edit ∧ (t.screen n).story = some (k, .owner) ∧ (t.screen n).cursor = 0 ∧
              (t.screen n).top = 0 ∧ (t.screen n).setView = false ∧ (t.screen n).prompt = .closed ∧
              (t.screen n).desk = some d ∧ (∀ m, m ≠ k → t.story m = s.story m) ∧ t.store = s.store ∧
              t.desks = s.desks ∧ t.baskets = s.baskets ∧ t.fit = s.fit ∧ SameOutput s t ∧ SameLines s t ∧
              t.host = s.host))))) ∧
  (∀ (n : Fin 32) (h k e : Nat) (x : Story) (y : Desk) (buffer : List Byte) (s : State),
    s.atKeys n .edit .sendDesk e → (s.screen n).story = some (k, .owner) → s.story k = some x →
    (s.screen n).desk = some h → s.desk x.desk = some y → buffer = (s.screen n).buffer →
    (buffer = [] → y.route = none →
      exec (.keyEnter n) s = .next (s.keyOn n (Screen.turnedAway (str "NO ROUTE"))).settle) ∧
    (∀ d, (if buffer = [] then y.route else some (ofDigits buffer)) = some d →
      (d ∉ y.allowed →
        exec (.keyEnter n) s = .next (s.keyOn n (Screen.turnedAway (str "NOT ROUTED"))).settle) ∧
      (d ∈ y.allowed → s.desk d = none →
        exec (.keyEnter n) s = .next (s.keyOn n (Screen.turnedAway (str "NO DESK"))).settle) ∧
      (d ∈ y.allowed → (s.desk d).isSome = true → 64 ≤ (s.basket d).length →
        exec (.keyEnter n) s = .next (s.keyOn n (Screen.turnedAway (str "QUEUE FULL"))).settle) ∧
      (d ∈ y.allowed → (s.desk d).isSome = true → (s.basket d).length < 64 → d < s.baskets.length →
        ∃ t, exec (.keyEnter n) s = .next t ∧
          t.story k = some { x with desk := d, state := .queued, owner := none } ∧
          JoinsClass t (s.basket d) (t.basket d) ⟨k, s.clock.time, false⟩ x.priority.code ∧
          (∀ b, b ≠ d → t.basket b = s.basket b) ∧ (t.screen n).mode = .desk ∧ (t.screen n).desk = some h ∧
          (t.screen n).story = none ∧ (t.screen n).prompt = .closed ∧ (∀ m, m ≠ k → t.story m = s.story m) ∧
          t.store = s.store ∧ t.desks = s.desks ∧ t.fit = s.fit ∧ SameOutput s t ∧ SameLines s t ∧
          t.host = s.host))) ∧
  (∀ (n : Fin 32) (h k e : Nat) (x : Story) (code : Byte) (s : State), s.atKeys n .edit .spikeConfirm e →
    (s.screen n).story = some (k, .owner) → s.story k = some x → x.state = .open_ → (s.screen n).desk = some h →
    printable code = true →
    (foldCase code = 0x59 → OffPress s x →
      ∃ t, exec (.keyPrintable n code) s = .next t ∧ t.story k = some { x with state := .spiked, owner := none } ∧
        (t.screen n).mode = .desk ∧ (t.screen n).desk = some h ∧ (t.screen n).story = none ∧
        (t.screen n).prompt = .closed ∧ (∀ m, m ≠ k → t.story m = s.story m) ∧ t.store = s.store ∧
        t.desks = s.desks ∧ t.baskets = s.baskets ∧ t.fit = s.fit ∧ SameOutput s t ∧ SameLines s t ∧
        t.host = s.host) ∧
    (foldCase code = 0x59 → ¬ OffPress s x →
      exec (.keyPrintable n code) s = .next (s.keyOn n (Screen.turnedAway (str "NOT ALLOWED"))).settle) ∧
    (foldCase code ≠ 0x59 →
      exec (.keyPrintable n code) s =
        .next (s.keyOn n fun c => { c with
          prompt := .closed, buffer := [], promptArg := none, partMessage := some (str "NOT SPIKED") }).settle) ∧
    exec (.keyEnter n) s =
      .next (s.keyOn n fun c => { c with
        prompt := .closed, buffer := [], promptArg := none, partMessage := some (str "NOT SPIKED") }).settle) ∧
  (∀ (n : Fin 32) (k e p : Nat) (x : Story) (pr : Priority) (code : Byte) (s : State), s.atKeys n .edit .priority e →
    (s.screen n).story = some (k, .owner) → s.story k = some x → code.toNat = 0x30 + p →
    Priority.ofCode p = some pr →
    ∃ t, exec (.keyPrintable n code) s = .next t ∧ t.story k = some { x with priority := pr } ∧
      (t.screen n).mode = .edit ∧ (t.screen n).story = some (k, .owner) ∧ (t.screen n).prompt = .closed ∧
      (t.screen n).cursor = (s.screen n).cursor ∧ (∀ m, m ≠ k → t.story m = s.story m) ∧ t.store = s.store ∧
      t.desks = s.desks ∧ t.baskets = s.baskets ∧ t.fit = s.fit ∧ SameOutput s t ∧ SameLines s t ∧ t.host = s.host)

/-! ## The link at work -/

/-- The LOS detector counts windows and asserts and clears LOS at its limits; LOS clear makes a DOWN link ACQUIRING with an ENQUIRY,
which the acquire timer repeats, READY makes it UP, and LOS asserted makes it DOWN. The return receiver hunts for a start byte,
drops what comes before it, and drops a message of another code or with a bad check (R177, R178, R179, R209).
(An ENQUIRY ends unremarked: log entries 11 and 16; the bytes before a message: log entry 18.) -/
def Obligations.TheLinkFollowsItsSignal : Prop :=
  ∀ (c : LinkConfig) (s : State), s.link.config = some c →
    (s.link.los = true →
      exec (.losWindowEnd false) s = .next ({ s with link := { s.link with activeCount := 0 } }).settle ∧
      (s.link.activeCount + 1 < c.losClear →
        exec (.losWindowEnd true) s =
          .next ({ s with link := { s.link with activeCount := s.link.activeCount + 1 } }).settle) ∧
      (c.losClear ≤ s.link.activeCount + 1 → s.link.cond = .down →
        exec (.losWindowEnd true) s =
          .next (({ s with link := { s.link with
            los := false
            quietCount := 0
            activeCount := 0
            cond := .acquiring
            acquireTimer := some c.acquireInterval
            forward := [ForwardBlock.mk s.link.nextNum .enquiry []] } }).raise .linkChange).settle)) ∧
    (s.link.los = false →
      exec (.losWindowEnd true) s = .next ({ s with link := { s.link with quietCount := 0 } }).settle ∧
      (s.link.quietCount + 1 < c.losAssert →
        exec (.losWindowEnd false) s =
          .next ({ s with link := { s.link with quietCount := s.link.quietCount + 1 } }).settle) ∧
      (c.losAssert ≤ s.link.quietCount + 1 → (s.link.cond = .acquiring ∨ s.link.cond = .up) →
        ∃ t, exec (.losWindowEnd false) s = .next t ∧ t.link.los = true ∧ t.link.quietCount = 0 ∧
          t.link.activeCount = 0 ∧ t.link.cond = .down ∧ t.link.acquireTimer = none ∧ t.link.held = false ∧
          t.link.forward = [] ∧ t.link.ackTimer = none ∧ t.link.abortWait = none ∧
          (s.host.enabled .linkChange = true → t.host.raised .linkChange = true) ∧
          (s.proof.request.isSome = true → t.proof.state = .idle ∨ s.proof.state = .idle) ∧
          (s.link.cond = .up → ∀ x ∈ s.link.setting, ∃ y ∈ t.link.setting, y.page = x.page ∧ y.position = x.position ∧
            y.suspended = true ∧ y.lossTimer = some c.lossLimit) ∧
          SameCopy s t ∧ t.pages = s.pages ∧ t.settingQueue = s.settingQueue ∧ t.edition = s.edition ∧
          SameLines s t)) ∧
    (s.link.cond = .acquiring → s.link.acquireTimer.isSome = true →
      exec .acquireTimerExpiry s =
        .next ({ s with link := { s.link with
          acquireTimer := some c.acquireInterval
          forward := [ForwardBlock.mk s.link.nextNum .enquiry []] } }).settle) ∧
    (s.link.acquireTimer = none → exec .acquireTimerExpiry s = .next s.settle) ∧
    (∀ before number, s.hears before → s.link.returnBits = false → s.link.cond = .acquiring → s.link.setting = none →
      s.settingQueue = [] →
      exec (.ready ⟨before, number⟩ (returnCheck .ready number)) s =
        .next (({ s with link := { s.link with
          cond := .up
          acquireTimer := none
          window := []
          poor := false } }).raise .linkChange).settle) ∧
    (∀ before number x b, s.hears before → s.link.returnBits = false → s.link.cond = .acquiring →
      s.link.setting = some x → x.current = some b → s.settingQueue = [] →
      exec (.ready ⟨before, number⟩ (returnCheck .ready number)) s =
        .next (({ s with link := { s.link with
          cond := .up
          acquireTimer := none
          window := []
          poor := false
          setting := some { x with suspended := false, lossTimer := none, current := some { b with phase := .sending } }
          forward := s.link.forward ++ [ForwardBlock.mk b.num .data b.payload] } }).raise .linkChange).settle) ∧
    (∀ before number check, s.hears before → s.link.cond ≠ .acquiring ∨ check ≠ returnCheck .ready number →
      exec (.ready ⟨before, number⟩ check) s = .next s.settle) ∧
    (∀ code first high low before number check, s.link.receiver = .hunting →
      returnMessage code first high low = none →
      exec (.ready ⟨0x5A :: code :: first :: high :: low :: before, number⟩ check) s =
        exec (.ready ⟨before, number⟩ check) s) ∧
    (∀ code first high low : Byte,
      returnMessage code first high low = none ↔
        (∀ k : ReturnCode, code = k.byte → crc16 [code, first] ≠ high ++ low))

/-- The answers to the current block: ACK finishes it, so that the next block is composed and sent, or the page is set; NAK and the
timeout fail a try, so that the block is sent again, and the fourth failure fails the page. The first try's outcome joins the
quality window, by which POOR is judged, and a rise of POOR raises LINK_POOR. An answer with a bad check or another number is
discarded, and so is one in another condition. A composed block holds the records of the page's galley that follow those sent, as
many as fit in 256 bytes; the galley is PAGE_HEAD, the records of each slot with a story in it, and PAGE_END (R34, R166, R167,
R181, R182, R184, R187, R209). (Answers while a resend is due: log entry 27; expiry: log entry 11.) -/
def Obligations.AnswersFinishOrFailTheBlock : Prop :=
  (∀ (before : List Byte) (x : SettingPage) (b : CurrentBlock) (g : Page) (s : State), s.hears before → s.awaits x b →
    s.page x.page = some g →
    (b.last = false → s.link.held = false →
      ∃ t y next, exec (.ack ⟨before, b.num⟩ (returnCheck .ack b.num)) s = .next t ∧ t.link.setting = some y ∧
        y.page = x.page ∧ y.blocksDone = x.blocksDone + 1 ∧ x.position ≤ y.position ∧ y.current = some next ∧
        next.num = s.link.nextNum ∧ next.tries = 1 ∧ next.settled = false ∧ next.phase = .sending ∧
        ComposedBlock s x.page g x.position y.position next ∧ t.link.nextNum = s.link.nextNum + 1 ∧ t.link.ackTimer = none ∧
        t.link.forward = s.link.forward ++ [⟨next.num, .data, next.payload⟩] ∧
        t.link.window = windowAfter s.link.window b.settled true ∧ PoorFollows s t b.settled ∧ SameCopy s t ∧ t.pages = s.pages ∧
        t.settingQueue = s.settingQueue ∧ t.edition = s.edition ∧ t.proof = s.proof ∧ SameLines s t) ∧
    (b.last = true → g.state = .setting → s.settingQueue = [] →
      ∃ t, exec (.ack ⟨before, b.num⟩ (returnCheck .ack b.num)) s = .next t ∧ t.link.setting = none ∧
        t.link.activity = .idle ∧ t.link.ackTimer = none ∧ t.link.window = windowAfter s.link.window b.settled true ∧
        PoorFollows s t b.settled ∧
        t.page x.page = some { g with state := .set_ } ∧
        (∀ m u, s.story m = some u →
          t.story m = some (if ∃ z ∈ g.slots, z.story = some m then
              { u with state := if u.state = .setting then .set_ else u.state, setEdition := some s.edition.number }
            else u)) ∧
        (∀ d e, e ∈ t.basket d → e ∈ s.basket d ∧
          ∀ u, s.story e.story = some u → u.state = .setting → u.desk = d → ∀ z ∈ g.slots, z.story ≠ some e.story) ∧
        (s.host.enabled .pageSet = true → t.host.raised .pageSet = true) ∧ t.store = s.store ∧ t.desks = s.desks ∧
        t.fit = s.fit ∧ t.proof = s.proof ∧ SameLines s t) ∧
    (b.tries < 4 → ∀ c, (c = Instr.nak ⟨before, b.num⟩ (returnCheck .nak b.num) ∨
        (c = Instr.ackTimeout ∧ s.link.ackTimer.isSome = true)) →
      ∃ t, exec c s = .next t ∧
        t.link.setting = some { x with current := some { b with
          tries := b.tries + 1, settled := true, phase := if s.link.held then .resendDue else .sending } } ∧
        t.link.forward = (if s.link.held then s.link.forward else s.link.forward ++ [⟨b.num, .data, b.payload⟩]) ∧
        t.link.ackTimer = none ∧ t.link.nextNum = s.link.nextNum ∧
        t.link.window = windowAfter s.link.window b.settled false ∧ PoorFollows s t b.settled ∧ SameCopy s t ∧ t.pages = s.pages ∧
        t.settingQueue = s.settingQueue ∧ t.edition = s.edition ∧ t.proof = s.proof ∧ SameLines s t) ∧
    (4 ≤ b.tries → g.state = .setting → s.settingQueue = [] → ∀ c, (c = Instr.nak ⟨before, b.num⟩ (returnCheck .nak b.num) ∨
        (c = Instr.ackTimeout ∧ s.link.ackTimer.isSome = true)) →
      ∃ t, exec c s = .next t ∧ t.link.setting = none ∧ t.link.activity = .idle ∧ t.link.ackTimer = none ∧
        t.link.window = windowAfter s.link.window b.settled false ∧ PoorFollows s t b.settled ∧
        t.page x.page = some { g with state := .open_, cause := some .linkErrors } ∧
        (∀ m u, s.story m = some u →
          t.story m = some (if u.state = .setting ∧ (∃ z ∈ g.slots, z.story = some m) then { u with state := .queued }
            else u)) ∧
        (s.host.enabled .pageFailed = true → t.host.raised .pageFailed = true) ∧ t.store = s.store ∧
        t.baskets = s.baskets ∧ t.proof = s.proof ∧ SameLines s t) ∧
    (∀ number, number ≠ b.num → s.link.abortWait = none → s.proof.state ≠ .starting →
      exec (.ack ⟨before, number⟩ (returnCheck .ack number)) s = .next s.settle ∧
        exec (.nak ⟨before, number⟩ (returnCheck .nak number)) s = .next s.settle)) ∧
  (∀ (before : List Byte) (number : Byte) (check : BitVec 16) (s : State), s.hears before →
    (check ≠ returnCheck .ack number ∨ s.link.cond ≠ .up ∨ s.link.returnBits = true →
      exec (.ack ⟨before, number⟩ check) s = .next s.settle) ∧
    (check ≠ returnCheck .nak number ∨ s.link.cond ≠ .up ∨ s.link.returnBits = true →
      exec (.nak ⟨before, number⟩ check) s = .next s.settle)) ∧
  (∀ s : State, s.link.ackTimer = none → exec .ackTimeout s = .next s.settle) ∧
  ∀ (p : Nat) (g : Page) (s : State),
    (∃ slots, galley s p g =
        ⟨0x01, be 1 p ++ leftAlign 8 g.label ++ be 1 g.edition ++ be 1 (g.slots.countP fun z => z.story.isSome)⟩ ::
          (slots ++ [⟨0x08, be 1 p ++ be 1 (g.slots.countP fun z => z.story.isSome)
            ++ be 2 (slots.countP fun (r : GalleyRecord) => r.kind == 0x06)⟩]) ∧
      slots = g.slots.flatMap fun z => match z.story with
        | some m => slotRecords s z m
        | none => []) ∧
    (∀ (z : Slot) (m : Nat) (x : Story) (body heads : List SetLine), s.story m = some x →
      body = bodyLines (s.face x.style.face) x.style (s.text m) →
      heads = (x.head.map fun h => headLines (s.face h.style.face) h).getD [] →
      slotRecords s z m =
        ⟨0x02, be 1 z.num ++ be 2 z.measure ++ be 2 z.allowance ++ be 2 m ++ leftAlign 12 x.slug⟩ ::
          ⟨0x03, headStyleField x.style ++ be 1 (effectiveIndent x.style)⟩ ::
          ((x.head.toList.map fun h =>
              ⟨0x04, headStyleField h.style ++ be 1 heads.length ++ flagByte (decide (h.maxLines < heads.length))⟩)
            ++ (heads.map fun l => ⟨0x05, flagByte l.overfull ++ l.text⟩)
            ++ (body.map fun l => ⟨0x06, be 1 (match l.kind with
              | .first => 1
              | .middle => 2
              | .last => 3
              | .blank => 4) ++ flagByte l.overfull ++ l.text⟩)
            ++ x.fit.toList.map fun r => ⟨0x07, be 2 r.lines ++ be 1 r.heads ++ be 2 r.depth⟩)) ∧
    ∀ r : GalleyRecord, r.bytes = r.kind :: byte r.fields.length :: r.fields

/-- HOLD stops the acknowledgement timer and all sending after the block on the wire, and makes a resend of an expiry that came
together with it wait; GO loads the timer for a block sent, or sends one that waited. The end of a block's sending loads the
timer unless the link is held, and that of an abort block begins the abort wait. Each code of a block and of a return message is a
frame of 10 bits: start, 8 data bits lowest first, stop (R183, R185, R189). (HOLD and the abort wait: log entry 26; an ENQUIRY in front: log entry 16; expiry: log entry 11; what comes together: log entry 47.) -/
def Obligations.HoldAndGoGovernSending : Prop :=
  ∀ (before : List Byte) (number : Byte) (c : LinkConfig) (s : State), s.link.config = some c →
    (s.hears before → s.link.cond = .up → s.link.returnBits = false →
      (s.link.held = false →
        ((∀ m, s.link.resent ≠ some (s.clock.steps, m)) →
          exec (.hold ⟨before, number⟩ (returnCheck .hold number)) s =
            .next ({ s with link := { s.link with held := true, ackTimer := none } }).settle) ∧
        (∀ x b, s.link.setting = some x → x.current = some b → b.phase = .sending →
          s.link.resent = some (s.clock.steps, b.num) →
          exec (.hold ⟨before, number⟩ (returnCheck .hold number)) s =
            .next ({ s with link := { s.link with
              held := true
              ackTimer := none
              resent := none
              setting := some { x with current := some { b with phase := .resendDue } }
              forward := s.link.forward.filter fun (f : ForwardBlock) => !(f.kind == BlockKind.data && f.num == b.num) } }).settle) ∧
        (∀ b, s.link.setting = none → s.proof.loop = some b → b.phase = .sending →
          s.link.resent = some (s.clock.steps, b.num) →
          exec (.hold ⟨before, number⟩ (returnCheck .hold number)) s =
            .next ({ s with
              proof := { s.proof with loop := some { b with phase := .resendDue } }
              link := { s.link with
                held := true
                ackTimer := none
                resent := none
                forward := s.link.forward.filter fun (f : ForwardBlock) => !(f.kind == BlockKind.loop && f.num == b.num) } }).settle) ∧
        exec (.go ⟨before, number⟩ (returnCheck .go number)) s = .next s.settle) ∧
      (s.link.held = true →
        exec (.hold ⟨before, number⟩ (returnCheck .hold number)) s = .next s.settle ∧
        (∀ x b, s.link.setting = some x → x.current = some b → b.phase = .sent →
          exec (.go ⟨before, number⟩ (returnCheck .go number)) s =
            .next ({ s with link := { s.link with held := false, ackTimer := some c.ackTimeout } }).settle) ∧
        (∀ x b, s.link.setting = some x → x.current = some b → (b.phase = .resendDue ∨ b.phase = .unsent) →
          exec (.go ⟨before, number⟩ (returnCheck .go number)) s =
            .next ({ s with link := { s.link with
              held := false
              setting := some { x with current := some { b with phase := .sending } }
              forward := s.link.forward ++ [ForwardBlock.mk b.num .data b.payload] } }).settle) ∧
        (s.link.setting = none → s.proof.loop = none →
          exec (.go ⟨before, number⟩ (returnCheck .go number)) s =
            .next ({ s with link := { s.link with held := false } }).settle))) ∧
    (∀ check, s.hears before → s.link.cond ≠ .up →
      exec (.hold ⟨before, number⟩ check) s = .next s.settle ∧ exec (.go ⟨before, number⟩ check) s = .next s.settle) ∧
    (∀ x b, s.link.setting = some x → x.current = some b → b.phase = .sent → b.tries < 4 → s.link.held = false →
      s.link.ackTimer.isSome = true →
      ∃ t, exec .ackTimeout s = .next t ∧ t.link.resent = some (t.clock.steps, b.num) ∧ t.clock = s.clock ∧
        t.link.forward = s.link.forward ++ [⟨b.num, .data, b.payload⟩]) ∧
    (∀ x b payload front rest, s.link.forward = front ++ ⟨b.num, .data, payload⟩ :: rest →
      (∀ f ∈ front, f.kind = .enquiry) → s.link.setting = some x →
      x.current = some b → b.phase = .sending →
      exec .blockSent s =
        .next ({ s with link := { s.link with
          forward := rest
          setting := some { x with current := some { b with phase := .sent } }
          resent := none
          ackTimer := if s.link.held then s.link.ackTimer else some c.ackTimeout } }).settle) ∧
    (∀ payload front rest, s.link.forward = front ++ ⟨number, .abort, payload⟩ :: rest →
      (∀ f ∈ front, f.kind = .enquiry) →
      exec .blockSent s =
        .next ({ s with link := { s.link with
          forward := rest
          abortWait := some ⟨number, c.ackTimeout⟩ } }).settle) ∧
    (s.link.forward = [] → exec .blockSent s = .next s.settle) ∧
    (∀ w, s.link.abortWait = some w → s.settingQueue = [] →
      exec .abortWaitExpiry s =
          .next ({ s with link := { s.link with abortWait := none, activity := .idle } }).settle ∧
        (s.hears before → s.link.cond = .up → s.link.returnBits = false → s.link.setting = none →
          exec (.ack ⟨before, w.num⟩ (returnCheck .ack w.num)) s =
            .next ({ s with link := { s.link with abortWait := none, activity := .idle } }).settle)) ∧
    (s.link.abortWait = none → exec .abortWaitExpiry s = .next s.settle) ∧
    (∀ x g, s.link.setting = some x → x.suspended = true → x.lossTimer.isSome = true → s.page x.page = some g →
      g.state = .setting → s.settingQueue = [] →
      ∃ t, exec .lossTimerExpiry s = .next t ∧ t.link.setting = none ∧ t.link.activity = .idle ∧
        t.page x.page = some { g with state := .open_, cause := some .linkLost } ∧
        (∀ m u, s.story m = some u →
          t.story m = some (if u.state = .setting ∧ (∃ z ∈ g.slots, z.story = some m) then { u with state := .queued }
            else u)) ∧
        (s.host.enabled .pageFailed = true → t.host.raised .pageFailed = true) ∧ t.store = s.store ∧
        t.baskets = s.baskets ∧ t.proof = s.proof ∧ SameLines s t) ∧
    (s.link.setting = none → exec .lossTimerExpiry s = .next s.settle) ∧
    (∀ (bytes : List Byte) (b : ForwardBlock) (code : ReturnCode) (check : BitVec 16),
      (bytes = blockBytes b → (blockWire b).length = 10 * bytes.length) ∧
      (∀ i k : Nat, ∀ v : Byte, k < 8 →
        (bytes = blockBytes b → bytes[i]? = some v →
          (blockWire b)[10 * i]? = some false ∧ (blockWire b)[10 * i + 1 + k]? = some (v.getLsbD k) ∧
            (blockWire b)[10 * i + 9]? = some true) ∧
        (bytes = returnBytes code number check → bytes[i]? = some v →
          (returnWire code number check)[10 * i]? = some false ∧
            (returnWire code number check)[10 * i + 1 + k]? = some (v.getLsbD k) ∧
            (returnWire code number check)[10 * i + 9]? = some true)))

/-! ## The proof at work -/

/-- The ACK of the LOOP block begins the search; in the search a place in the pattern starts the count; each counted bit is
compared with the pattern's next, and the ninth error of a window loses sync unless masked; errors at the threshold alarm once.
The bit that reaches the timebase ends the proof with cause DONE and sends the UNLOOP block, at whose end the link is idle and
PROOF_DONE is raised (R194 to R198). (The last bit: log entry 17; when PROOF_DONE is raised: log entry 25; an ACK of a LOOP block
due for resend: log entry 27; an ENQUIRY in front of the UNLOOP block: log entry 16; commands of no effect: log entry 11.) -/
def Obligations.ProofBitsAreSoughtAndCounted : Prop :=
  (∀ (before : List Byte) (r : ProofRequest) (b : LoopBlock) (s : State), s.hears before → s.proof.state = .starting →
    s.proof.request = some r → s.proof.loop = some b → (b.phase = .sent ∨ b.phase = .resendDue) → s.link.cond = .up →
    s.link.returnBits = false →
    s.link.setting = none → s.link.abortWait = none →
    ∃ t, exec (.ack ⟨before, b.num⟩ (returnCheck .ack b.num)) s = .next t ∧ t.proof.state = .syncing ∧ t.proof.loop = none ∧
      t.proof.received = 0 ∧ t.proof.seen = 0 ∧ t.proof.request = some r ∧ t.proof.sender = r.pattern.start ∧
      t.link = { s.link with ackTimer := none, returnBits := true } ∧ SameCopy s t ∧ t.pages = s.pages ∧
      SameLines s t ∧ t.host = s.host) ∧
  (∀ (r : ProofRequest) (bit : Bool) (s : State), s.proof.request = some r → r.timebase ≠ some (s.proof.received + 1) →
    (s.proof.state = .syncing →
      ∃ t, exec (.proofBitReceived bit) s = .next t ∧ t.proof.received = s.proof.received + 1 ∧
        t.proof.seen = s.proof.seen + 1 ∧ t.proof.checked = s.proof.checked ∧ t.proof.errors = s.proof.errors ∧
        t.proof.recent = shiftIn s.proof.recent bit ∧
        (∀ g, r.pattern.found (shiftIn s.proof.recent bit) (s.proof.seen + 1) = some g →
          t.proof.state = .counting ∧ t.proof.generator = g ∧ t.proof.firstSync = true ∧ t.proof.windowChecked = 0 ∧
            t.proof.windowErrors = 0) ∧
        (r.pattern.found (shiftIn s.proof.recent bit) (s.proof.seen + 1) = none → t.proof.state = .syncing) ∧
        SameCopy s t ∧ t.pages = s.pages ∧ t.link = s.link ∧ SameLines s t ∧ t.host = s.host) ∧
    (s.proof.state = .counting →
      ∃ t, exec (.proofBitReceived bit) s = .next t ∧ t.proof.received = s.proof.received + 1 ∧
        t.proof.generator = r.pattern.advance s.proof.generator ∧
        t.proof.checked = min 4294967295 (s.proof.checked + 1) ∧
        t.proof.errors = (if bit = r.pattern.next s.proof.generator then s.proof.errors
          else min 4294967295 (s.proof.errors + 1)) ∧
        (bit ≠ r.pattern.next s.proof.generator → s.proof.windowErrors = 8 → r.mask = false →
          t.proof.state = .syncing ∧ t.proof.syncLosses = min 65535 (s.proof.syncLosses + 1) ∧ t.proof.seen = 0 ∧
            t.proof.windowChecked = 0 ∧ t.proof.windowErrors = 0) ∧
        (bit = r.pattern.next s.proof.generator ∨ s.proof.windowErrors ≠ 8 ∨ r.mask = true →
          t.proof.state = .counting ∧ t.proof.syncLosses = s.proof.syncLosses ∧
            t.proof.windowChecked = (if s.proof.windowChecked = 63 then 0 else s.proof.windowChecked + 1) ∧
            t.proof.windowErrors = (if s.proof.windowChecked = 63 then 0
              else if bit = r.pattern.next s.proof.generator then s.proof.windowErrors
              else s.proof.windowErrors + 1)) ∧
        (r.threshold ≠ 0 → r.threshold ≤ t.proof.errors → s.proof.alarmRaised = false →
          t.proof.alarmRaised = true ∧ t.host = (s.raise .proofAlarm).host) ∧
        (r.threshold = 0 ∨ t.proof.errors < r.threshold ∨ s.proof.alarmRaised = true →
          t.proof.alarmRaised = s.proof.alarmRaised ∧ t.host = s.host) ∧
        SameCopy s t ∧ t.pages = s.pages ∧ t.link = s.link ∧ SameLines s t)) ∧
  (∀ (r : ProofRequest) (bit : Bool) (s : State), s.proof.request = some r →
    (s.proof.state = .syncing ∨ s.proof.state = .counting) → r.timebase = some (s.proof.received + 1) →
    ∃ t, exec (.proofTimebaseReached bit) s = .next t ∧ t.proof.state = .idle ∧ t.proof.request = none ∧
      t.proof.received = s.proof.received + 1 ∧
      t.proof.result = some ⟨r.pattern, r.timebase, t.proof.checked, t.proof.errors, summaryByte t.proof.errors,
        t.proof.syncLosses, .done⟩ ∧
      t.link = { s.link with ackTimer := none, forward := s.link.forward ++ [⟨s.link.nextNum, .unloop, []⟩] } ∧
      SameCopy s t ∧ t.pages = s.pages ∧ SameLines s t) ∧
  (∀ (num : Byte) (payload : List Byte) (before rest : List ForwardBlock) (s : State),
    s.link.forward = before ++ ⟨num, .unloop, payload⟩ :: rest → (∀ f ∈ before, f.kind = .enquiry) →
    s.link.activity = .proving → s.proof.state = .idle → s.settingQueue = [] →
    exec .unloopSent s =
      .next (({ s with link := { s.link with
        forward := rest
        activity := .idle
        returnBits := false } }).raise .proofDone).settle) ∧
  (∀ (bit : Bool) (s : State), s.proof.state = .idle ∨ s.proof.state = .starting →
    exec (.proofBitReceived bit) s = .next s.settle ∧ exec (.proofTimebaseReached bit) s = .next s.settle) ∧
  (∀ (r : ProofRequest) (bit : Bool) (s : State), s.proof.request = some r → r.timebase ≠ some (s.proof.received + 1) →
    exec (.proofTimebaseReached bit) s = .next s.settle)

/-- The summary byte (R199). -/
def Obligations.SummaryByteStatesTheErrors : Prop :=
  ∀ errors : Nat,
    (∀ e, errors >>> (2 * e) = errors / 4 ^ e) ∧
    (∀ e ≤ 7, errors >>> (2 * e) ≤ 31 → (∀ f < e, 31 < errors >>> (2 * f)) →
      summaryByte errors = e * 32 + errors >>> (2 * e) ∧
        summaryByte errors % 32 * 4 ^ (summaryByte errors / 32) = errors / 4 ^ e * 4 ^ e) ∧
    ((∀ e ≤ 7, 31 < errors >>> (2 * e)) ↔ 524287 < errors) ∧
    (524287 < errors → summaryByte errors = 7 * 32 + 31) ∧
    (errors ≤ 31 → summaryByte errors % 32 * 4 ^ (summaryByte errors / 32) = errors) ∧
    summaryByte errors % 32 * 4 ^ (summaryByte errors / 32) ≤ 31 * 16384 ∧
    (507904 ≤ errors → summaryByte errors % 32 * 4 ^ (summaryByte errors / 32) = 507904) ∧
    summaryByte errors < 256

end
end

