-- ==== Sys2Proof/Laws/State.lean ====
section
/-! SUPPORT. One lemma for each field after each update of the state, and what a record reads as after one. -/

namespace Sys2Proof.Machine

variable (s : State)


/-! ## updStory -/

@[simp] theorem State.updStory_store (n : Nat) (f : Story → Story) : (s.updStory n f).store = s.store := rfl
@[simp] theorem State.updStory_stories (n : Nat) (f : Story → Story) : (s.updStory n f).stories = s.stories.modify n (Option.map f) := rfl
@[simp] theorem State.updStory_desks (n : Nat) (f : Story → Story) : (s.updStory n f).desks = s.desks := rfl
@[simp] theorem State.updStory_baskets (n : Nat) (f : Story → Story) : (s.updStory n f).baskets = s.baskets := rfl
@[simp] theorem State.updStory_fit (n : Nat) (f : Story → Story) : (s.updStory n f).fit = s.fit := rfl
@[simp] theorem State.updStory_profiles (n : Nat) (f : Story → Story) : (s.updStory n f).profiles = s.profiles := rfl
@[simp] theorem State.updStory_screens (n : Nat) (f : Story → Story) : (s.updStory n f).screens = s.screens := rfl
@[simp] theorem State.updStory_lines (n : Nat) (f : Story → Story) : (s.updStory n f).lines = s.lines := rfl
@[simp] theorem State.updStory_keyTurn (n : Nat) (f : Story → Story) : (s.updStory n f).keyTurn = s.keyTurn := rfl
@[simp] theorem State.updStory_pages (n : Nat) (f : Story → Story) : (s.updStory n f).pages = s.pages := rfl
@[simp] theorem State.updStory_settingQueue (n : Nat) (f : Story → Story) : (s.updStory n f).settingQueue = s.settingQueue := rfl
@[simp] theorem State.updStory_edition (n : Nat) (f : Story → Story) : (s.updStory n f).edition = s.edition := rfl
@[simp] theorem State.updStory_link (n : Nat) (f : Story → Story) : (s.updStory n f).link = s.link := rfl
@[simp] theorem State.updStory_proof (n : Nat) (f : Story → Story) : (s.updStory n f).proof = s.proof := rfl
@[simp] theorem State.updStory_host (n : Nat) (f : Story → Story) : (s.updStory n f).host = s.host := rfl
@[simp] theorem State.updStory_clock (n : Nat) (f : Story → Story) : (s.updStory n f).clock = s.clock := rfl
@[simp] theorem State.updStory_strapPins (n : Nat) (f : Story → Story) : (s.updStory n f).strapPins = s.strapPins := rfl
@[simp] theorem State.updStory_drawn (n : Nat) (f : Story → Story) : (s.updStory n f).drawn = s.drawn := rfl
@[simp] theorem State.updStory_pending (n : Nat) (f : Story → Story) : (s.updStory n f).pending = s.pending := rfl

/-! ## updBasket -/

@[simp] theorem State.updBasket_store (n : Nat) (f : List Entry → List Entry) : (s.updBasket n f).store = s.store := rfl
@[simp] theorem State.updBasket_stories (n : Nat) (f : List Entry → List Entry) : (s.updBasket n f).stories = s.stories := rfl
@[simp] theorem State.updBasket_desks (n : Nat) (f : List Entry → List Entry) : (s.updBasket n f).desks = s.desks := rfl
@[simp] theorem State.updBasket_baskets (n : Nat) (f : List Entry → List Entry) : (s.updBasket n f).baskets = s.baskets.modify n f := rfl
@[simp] theorem State.updBasket_fit (n : Nat) (f : List Entry → List Entry) : (s.updBasket n f).fit = s.fit := rfl
@[simp] theorem State.updBasket_profiles (n : Nat) (f : List Entry → List Entry) : (s.updBasket n f).profiles = s.profiles := rfl
@[simp] theorem State.updBasket_screens (n : Nat) (f : List Entry → List Entry) : (s.updBasket n f).screens = s.screens := rfl
@[simp] theorem State.updBasket_lines (n : Nat) (f : List Entry → List Entry) : (s.updBasket n f).lines = s.lines := rfl
@[simp] theorem State.updBasket_keyTurn (n : Nat) (f : List Entry → List Entry) : (s.updBasket n f).keyTurn = s.keyTurn := rfl
@[simp] theorem State.updBasket_pages (n : Nat) (f : List Entry → List Entry) : (s.updBasket n f).pages = s.pages := rfl
@[simp] theorem State.updBasket_settingQueue (n : Nat) (f : List Entry → List Entry) : (s.updBasket n f).settingQueue = s.settingQueue := rfl
@[simp] theorem State.updBasket_edition (n : Nat) (f : List Entry → List Entry) : (s.updBasket n f).edition = s.edition := rfl
@[simp] theorem State.updBasket_link (n : Nat) (f : List Entry → List Entry) : (s.updBasket n f).link = s.link := rfl
@[simp] theorem State.updBasket_proof (n : Nat) (f : List Entry → List Entry) : (s.updBasket n f).proof = s.proof := rfl
@[simp] theorem State.updBasket_host (n : Nat) (f : List Entry → List Entry) : (s.updBasket n f).host = s.host := rfl
@[simp] theorem State.updBasket_clock (n : Nat) (f : List Entry → List Entry) : (s.updBasket n f).clock = s.clock := rfl
@[simp] theorem State.updBasket_strapPins (n : Nat) (f : List Entry → List Entry) : (s.updBasket n f).strapPins = s.strapPins := rfl
@[simp] theorem State.updBasket_drawn (n : Nat) (f : List Entry → List Entry) : (s.updBasket n f).drawn = s.drawn := rfl
@[simp] theorem State.updBasket_pending (n : Nat) (f : List Entry → List Entry) : (s.updBasket n f).pending = s.pending := rfl

/-! ## updScreen -/

@[simp] theorem State.updScreen_store (n : Nat) (f : Screen → Screen) : (s.updScreen n f).store = s.store := rfl
@[simp] theorem State.updScreen_stories (n : Nat) (f : Screen → Screen) : (s.updScreen n f).stories = s.stories := rfl
@[simp] theorem State.updScreen_desks (n : Nat) (f : Screen → Screen) : (s.updScreen n f).desks = s.desks := rfl
@[simp] theorem State.updScreen_baskets (n : Nat) (f : Screen → Screen) : (s.updScreen n f).baskets = s.baskets := rfl
@[simp] theorem State.updScreen_fit (n : Nat) (f : Screen → Screen) : (s.updScreen n f).fit = s.fit := rfl
@[simp] theorem State.updScreen_profiles (n : Nat) (f : Screen → Screen) : (s.updScreen n f).profiles = s.profiles := rfl
@[simp] theorem State.updScreen_screens (n : Nat) (f : Screen → Screen) : (s.updScreen n f).screens = s.screens.modify n f := rfl
@[simp] theorem State.updScreen_lines (n : Nat) (f : Screen → Screen) : (s.updScreen n f).lines = s.lines := rfl
@[simp] theorem State.updScreen_keyTurn (n : Nat) (f : Screen → Screen) : (s.updScreen n f).keyTurn = s.keyTurn := rfl
@[simp] theorem State.updScreen_pages (n : Nat) (f : Screen → Screen) : (s.updScreen n f).pages = s.pages := rfl
@[simp] theorem State.updScreen_settingQueue (n : Nat) (f : Screen → Screen) : (s.updScreen n f).settingQueue = s.settingQueue := rfl
@[simp] theorem State.updScreen_edition (n : Nat) (f : Screen → Screen) : (s.updScreen n f).edition = s.edition := rfl
@[simp] theorem State.updScreen_link (n : Nat) (f : Screen → Screen) : (s.updScreen n f).link = s.link := rfl
@[simp] theorem State.updScreen_proof (n : Nat) (f : Screen → Screen) : (s.updScreen n f).proof = s.proof := rfl
@[simp] theorem State.updScreen_host (n : Nat) (f : Screen → Screen) : (s.updScreen n f).host = s.host := rfl
@[simp] theorem State.updScreen_clock (n : Nat) (f : Screen → Screen) : (s.updScreen n f).clock = s.clock := rfl
@[simp] theorem State.updScreen_strapPins (n : Nat) (f : Screen → Screen) : (s.updScreen n f).strapPins = s.strapPins := rfl
@[simp] theorem State.updScreen_drawn (n : Nat) (f : Screen → Screen) : (s.updScreen n f).drawn = s.drawn := rfl
@[simp] theorem State.updScreen_pending (n : Nat) (f : Screen → Screen) : (s.updScreen n f).pending = s.pending := rfl

/-! ## updLine -/

@[simp] theorem State.updLine_store (n : Nat) (f : Line → Line) : (s.updLine n f).store = s.store := rfl
@[simp] theorem State.updLine_stories (n : Nat) (f : Line → Line) : (s.updLine n f).stories = s.stories := rfl
@[simp] theorem State.updLine_desks (n : Nat) (f : Line → Line) : (s.updLine n f).desks = s.desks := rfl
@[simp] theorem State.updLine_baskets (n : Nat) (f : Line → Line) : (s.updLine n f).baskets = s.baskets := rfl
@[simp] theorem State.updLine_fit (n : Nat) (f : Line → Line) : (s.updLine n f).fit = s.fit := rfl
@[simp] theorem State.updLine_profiles (n : Nat) (f : Line → Line) : (s.updLine n f).profiles = s.profiles := rfl
@[simp] theorem State.updLine_screens (n : Nat) (f : Line → Line) : (s.updLine n f).screens = s.screens := rfl
@[simp] theorem State.updLine_lines (n : Nat) (f : Line → Line) : (s.updLine n f).lines = s.lines.modify n f := rfl
@[simp] theorem State.updLine_keyTurn (n : Nat) (f : Line → Line) : (s.updLine n f).keyTurn = s.keyTurn := rfl
@[simp] theorem State.updLine_pages (n : Nat) (f : Line → Line) : (s.updLine n f).pages = s.pages := rfl
@[simp] theorem State.updLine_settingQueue (n : Nat) (f : Line → Line) : (s.updLine n f).settingQueue = s.settingQueue := rfl
@[simp] theorem State.updLine_edition (n : Nat) (f : Line → Line) : (s.updLine n f).edition = s.edition := rfl
@[simp] theorem State.updLine_link (n : Nat) (f : Line → Line) : (s.updLine n f).link = s.link := rfl
@[simp] theorem State.updLine_proof (n : Nat) (f : Line → Line) : (s.updLine n f).proof = s.proof := rfl
@[simp] theorem State.updLine_host (n : Nat) (f : Line → Line) : (s.updLine n f).host = s.host := rfl
@[simp] theorem State.updLine_clock (n : Nat) (f : Line → Line) : (s.updLine n f).clock = s.clock := rfl
@[simp] theorem State.updLine_strapPins (n : Nat) (f : Line → Line) : (s.updLine n f).strapPins = s.strapPins := rfl
@[simp] theorem State.updLine_drawn (n : Nat) (f : Line → Line) : (s.updLine n f).drawn = s.drawn := rfl
@[simp] theorem State.updLine_pending (n : Nat) (f : Line → Line) : (s.updLine n f).pending = s.pending := rfl

/-! ## updPage -/

@[simp] theorem State.updPage_store (n : Nat) (f : Page → Page) : (s.updPage n f).store = s.store := rfl
@[simp] theorem State.updPage_stories (n : Nat) (f : Page → Page) : (s.updPage n f).stories = s.stories := rfl
@[simp] theorem State.updPage_desks (n : Nat) (f : Page → Page) : (s.updPage n f).desks = s.desks := rfl
@[simp] theorem State.updPage_baskets (n : Nat) (f : Page → Page) : (s.updPage n f).baskets = s.baskets := rfl
@[simp] theorem State.updPage_fit (n : Nat) (f : Page → Page) : (s.updPage n f).fit = s.fit := rfl
@[simp] theorem State.updPage_profiles (n : Nat) (f : Page → Page) : (s.updPage n f).profiles = s.profiles := rfl
@[simp] theorem State.updPage_screens (n : Nat) (f : Page → Page) : (s.updPage n f).screens = s.screens := rfl
@[simp] theorem State.updPage_lines (n : Nat) (f : Page → Page) : (s.updPage n f).lines = s.lines := rfl
@[simp] theorem State.updPage_keyTurn (n : Nat) (f : Page → Page) : (s.updPage n f).keyTurn = s.keyTurn := rfl
@[simp] theorem State.updPage_pages (n : Nat) (f : Page → Page) : (s.updPage n f).pages = s.pages.modify n (Option.map f) := rfl
@[simp] theorem State.updPage_settingQueue (n : Nat) (f : Page → Page) : (s.updPage n f).settingQueue = s.settingQueue := rfl
@[simp] theorem State.updPage_edition (n : Nat) (f : Page → Page) : (s.updPage n f).edition = s.edition := rfl
@[simp] theorem State.updPage_link (n : Nat) (f : Page → Page) : (s.updPage n f).link = s.link := rfl
@[simp] theorem State.updPage_proof (n : Nat) (f : Page → Page) : (s.updPage n f).proof = s.proof := rfl
@[simp] theorem State.updPage_host (n : Nat) (f : Page → Page) : (s.updPage n f).host = s.host := rfl
@[simp] theorem State.updPage_clock (n : Nat) (f : Page → Page) : (s.updPage n f).clock = s.clock := rfl
@[simp] theorem State.updPage_strapPins (n : Nat) (f : Page → Page) : (s.updPage n f).strapPins = s.strapPins := rfl
@[simp] theorem State.updPage_drawn (n : Nat) (f : Page → Page) : (s.updPage n f).drawn = s.drawn := rfl
@[simp] theorem State.updPage_pending (n : Nat) (f : Page → Page) : (s.updPage n f).pending = s.pending := rfl

/-! ## updHost -/

@[simp] theorem State.updHost_store (f : HostLine → HostLine) : (s.updHost f).store = s.store := rfl
@[simp] theorem State.updHost_stories (f : HostLine → HostLine) : (s.updHost f).stories = s.stories := rfl
@[simp] theorem State.updHost_desks (f : HostLine → HostLine) : (s.updHost f).desks = s.desks := rfl
@[simp] theorem State.updHost_baskets (f : HostLine → HostLine) : (s.updHost f).baskets = s.baskets := rfl
@[simp] theorem State.updHost_fit (f : HostLine → HostLine) : (s.updHost f).fit = s.fit := rfl
@[simp] theorem State.updHost_profiles (f : HostLine → HostLine) : (s.updHost f).profiles = s.profiles := rfl
@[simp] theorem State.updHost_screens (f : HostLine → HostLine) : (s.updHost f).screens = s.screens := rfl
@[simp] theorem State.updHost_lines (f : HostLine → HostLine) : (s.updHost f).lines = s.lines := rfl
@[simp] theorem State.updHost_keyTurn (f : HostLine → HostLine) : (s.updHost f).keyTurn = s.keyTurn := rfl
@[simp] theorem State.updHost_pages (f : HostLine → HostLine) : (s.updHost f).pages = s.pages := rfl
@[simp] theorem State.updHost_settingQueue (f : HostLine → HostLine) : (s.updHost f).settingQueue = s.settingQueue := rfl
@[simp] theorem State.updHost_edition (f : HostLine → HostLine) : (s.updHost f).edition = s.edition := rfl
@[simp] theorem State.updHost_link (f : HostLine → HostLine) : (s.updHost f).link = s.link := rfl
@[simp] theorem State.updHost_proof (f : HostLine → HostLine) : (s.updHost f).proof = s.proof := rfl
@[simp] theorem State.updHost_host (f : HostLine → HostLine) : (s.updHost f).host = f s.host := rfl
@[simp] theorem State.updHost_clock (f : HostLine → HostLine) : (s.updHost f).clock = s.clock := rfl
@[simp] theorem State.updHost_strapPins (f : HostLine → HostLine) : (s.updHost f).strapPins = s.strapPins := rfl
@[simp] theorem State.updHost_drawn (f : HostLine → HostLine) : (s.updHost f).drawn = s.drawn := rfl
@[simp] theorem State.updHost_pending (f : HostLine → HostLine) : (s.updHost f).pending = s.pending := rfl

/-! ## updLink -/

@[simp] theorem State.updLink_store (f : Link → Link) : (s.updLink f).store = s.store := rfl
@[simp] theorem State.updLink_stories (f : Link → Link) : (s.updLink f).stories = s.stories := rfl
@[simp] theorem State.updLink_desks (f : Link → Link) : (s.updLink f).desks = s.desks := rfl
@[simp] theorem State.updLink_baskets (f : Link → Link) : (s.updLink f).baskets = s.baskets := rfl
@[simp] theorem State.updLink_fit (f : Link → Link) : (s.updLink f).fit = s.fit := rfl
@[simp] theorem State.updLink_profiles (f : Link → Link) : (s.updLink f).profiles = s.profiles := rfl
@[simp] theorem State.updLink_screens (f : Link → Link) : (s.updLink f).screens = s.screens := rfl
@[simp] theorem State.updLink_lines (f : Link → Link) : (s.updLink f).lines = s.lines := rfl
@[simp] theorem State.updLink_keyTurn (f : Link → Link) : (s.updLink f).keyTurn = s.keyTurn := rfl
@[simp] theorem State.updLink_pages (f : Link → Link) : (s.updLink f).pages = s.pages := rfl
@[simp] theorem State.updLink_settingQueue (f : Link → Link) : (s.updLink f).settingQueue = s.settingQueue := rfl
@[simp] theorem State.updLink_edition (f : Link → Link) : (s.updLink f).edition = s.edition := rfl
@[simp] theorem State.updLink_link (f : Link → Link) : (s.updLink f).link = f s.link := rfl
@[simp] theorem State.updLink_proof (f : Link → Link) : (s.updLink f).proof = s.proof := rfl
@[simp] theorem State.updLink_host (f : Link → Link) : (s.updLink f).host = s.host := rfl
@[simp] theorem State.updLink_clock (f : Link → Link) : (s.updLink f).clock = s.clock := rfl
@[simp] theorem State.updLink_strapPins (f : Link → Link) : (s.updLink f).strapPins = s.strapPins := rfl
@[simp] theorem State.updLink_drawn (f : Link → Link) : (s.updLink f).drawn = s.drawn := rfl
@[simp] theorem State.updLink_pending (f : Link → Link) : (s.updLink f).pending = s.pending := rfl

/-! ## updProof -/

@[simp] theorem State.updProof_store (f : Proof → Proof) : (s.updProof f).store = s.store := rfl
@[simp] theorem State.updProof_stories (f : Proof → Proof) : (s.updProof f).stories = s.stories := rfl
@[simp] theorem State.updProof_desks (f : Proof → Proof) : (s.updProof f).desks = s.desks := rfl
@[simp] theorem State.updProof_baskets (f : Proof → Proof) : (s.updProof f).baskets = s.baskets := rfl
@[simp] theorem State.updProof_fit (f : Proof → Proof) : (s.updProof f).fit = s.fit := rfl
@[simp] theorem State.updProof_profiles (f : Proof → Proof) : (s.updProof f).profiles = s.profiles := rfl
@[simp] theorem State.updProof_screens (f : Proof → Proof) : (s.updProof f).screens = s.screens := rfl
@[simp] theorem State.updProof_lines (f : Proof → Proof) : (s.updProof f).lines = s.lines := rfl
@[simp] theorem State.updProof_keyTurn (f : Proof → Proof) : (s.updProof f).keyTurn = s.keyTurn := rfl
@[simp] theorem State.updProof_pages (f : Proof → Proof) : (s.updProof f).pages = s.pages := rfl
@[simp] theorem State.updProof_settingQueue (f : Proof → Proof) : (s.updProof f).settingQueue = s.settingQueue := rfl
@[simp] theorem State.updProof_edition (f : Proof → Proof) : (s.updProof f).edition = s.edition := rfl
@[simp] theorem State.updProof_link (f : Proof → Proof) : (s.updProof f).link = s.link := rfl
@[simp] theorem State.updProof_proof (f : Proof → Proof) : (s.updProof f).proof = f s.proof := rfl
@[simp] theorem State.updProof_host (f : Proof → Proof) : (s.updProof f).host = s.host := rfl
@[simp] theorem State.updProof_clock (f : Proof → Proof) : (s.updProof f).clock = s.clock := rfl
@[simp] theorem State.updProof_strapPins (f : Proof → Proof) : (s.updProof f).strapPins = s.strapPins := rfl
@[simp] theorem State.updProof_drawn (f : Proof → Proof) : (s.updProof f).drawn = s.drawn := rfl
@[simp] theorem State.updProof_pending (f : Proof → Proof) : (s.updProof f).pending = s.pending := rfl

/-! ## withPending -/

@[simp] theorem State.withPending_store (q : List Instr) : (s.withPending q).store = s.store := rfl
@[simp] theorem State.withPending_stories (q : List Instr) : (s.withPending q).stories = s.stories := rfl
@[simp] theorem State.withPending_desks (q : List Instr) : (s.withPending q).desks = s.desks := rfl
@[simp] theorem State.withPending_baskets (q : List Instr) : (s.withPending q).baskets = s.baskets := rfl
@[simp] theorem State.withPending_fit (q : List Instr) : (s.withPending q).fit = s.fit := rfl
@[simp] theorem State.withPending_profiles (q : List Instr) : (s.withPending q).profiles = s.profiles := rfl
@[simp] theorem State.withPending_screens (q : List Instr) : (s.withPending q).screens = s.screens := rfl
@[simp] theorem State.withPending_lines (q : List Instr) : (s.withPending q).lines = s.lines := rfl
@[simp] theorem State.withPending_keyTurn (q : List Instr) : (s.withPending q).keyTurn = s.keyTurn := rfl
@[simp] theorem State.withPending_pages (q : List Instr) : (s.withPending q).pages = s.pages := rfl
@[simp] theorem State.withPending_settingQueue (q : List Instr) : (s.withPending q).settingQueue = s.settingQueue := rfl
@[simp] theorem State.withPending_edition (q : List Instr) : (s.withPending q).edition = s.edition := rfl
@[simp] theorem State.withPending_link (q : List Instr) : (s.withPending q).link = s.link := rfl
@[simp] theorem State.withPending_proof (q : List Instr) : (s.withPending q).proof = s.proof := rfl
@[simp] theorem State.withPending_host (q : List Instr) : (s.withPending q).host = s.host := rfl
@[simp] theorem State.withPending_clock (q : List Instr) : (s.withPending q).clock = s.clock := rfl
@[simp] theorem State.withPending_strapPins (q : List Instr) : (s.withPending q).strapPins = s.strapPins := rfl
@[simp] theorem State.withPending_drawn (q : List Instr) : (s.withPending q).drawn = s.drawn := rfl
@[simp] theorem State.withPending_pending (q : List Instr) : (s.withPending q).pending = q := rfl

/-! ## Reading after an update -/

theorem getD_modify_eq {α : Type} (l : List α) (d : α) (n : Nat) (f : α → α) (h : n < l.length) :
    (l.modify n f).getD n d = f (l.getD n d) := by
  simp [List.getD_eq_getElem?_getD, h]

theorem getD_modify_ne {α : Type} (l : List α) (d : α) (n m : Nat) (f : α → α) (h : m ≠ n) :
    (l.modify n f).getD m d = l.getD m d := by
  simp [List.getD_eq_getElem?_getD, Ne.symm h]

theorem State.screen_updScreen (n : Nat) (f : Screen → Screen) (h : n < s.screens.length) :
    (s.updScreen n f).screen n = f (s.screen n) := getD_modify_eq _ _ _ _ h

theorem State.screen_updScreen_of_ne (n m : Nat) (f : Screen → Screen) (h : m ≠ n) :
    (s.updScreen n f).screen m = s.screen m := getD_modify_ne _ _ _ _ _ h

theorem State.line_updLine (n : Nat) (f : Line → Line) (h : n < s.lines.length) :
    (s.updLine n f).line n = f (s.line n) := getD_modify_eq _ _ _ _ h

theorem State.line_updLine_of_ne (n m : Nat) (f : Line → Line) (h : m ≠ n) :
    (s.updLine n f).line m = s.line m := getD_modify_ne _ _ _ _ _ h

theorem State.basket_updBasket (d : Nat) (f : List Entry → List Entry) (h : d < s.baskets.length) :
    (s.updBasket d f).basket d = f (s.basket d) := getD_modify_eq _ _ _ _ h

theorem State.basket_updBasket_of_ne (d e : Nat) (f : List Entry → List Entry) (h : e ≠ d) :
    (s.updBasket d f).basket e = s.basket e := getD_modify_ne _ _ _ _ _ h

/-- A record beyond the table is EMPTY before and after, so that no bound is asked for. -/
theorem State.story_updStory (n : Nat) (f : Story → Story) : (s.updStory n f).story n = (s.story n).map f := by
  simp only [State.story, State.updStory, List.getD_eq_getElem?_getD, List.getElem?_modify]
  cases s.stories[n]? <;> simp

theorem State.story_updStory_of_ne (n m : Nat) (f : Story → Story) (h : m ≠ n) :
    (s.updStory n f).story m = s.story m := getD_modify_ne _ _ _ _ _ h

theorem State.page_updPage (p : Nat) (f : Page → Page) : (s.updPage p f).page p = (s.page p).map f := by
  simp only [State.page, State.updPage, List.getD_eq_getElem?_getD, List.getElem?_modify]
  cases s.pages[p]? <;> simp

theorem State.page_updPage_of_ne (p q : Nat) (f : Page → Page) (h : q ≠ p) :
    (s.updPage p f).page q = s.page q := getD_modify_ne _ _ _ _ _ h

end Sys2Proof.Machine
end

