-- ==== Sys2Proof/Laws/Ops.lean ====
section
/-! SUPPORT. What each shared operation can change: one equation for each, `s.op = { s with f := (s.op).f … }`, so that a proof
about another field rewrites with it and never unfolds the operation. -/

namespace Sys2Proof.Machine

variable (s : State)

/-! ## Attention (R205) -/

theorem State.raise_only (f : Flag) : s.raise f = { s with host := (s.raise f).host } := by
  unfold State.raise; split <;> rfl

theorem State.raiseFor_only (f : Flag) (m : Nat) : s.raiseFor f m = { s with host := (s.raiseFor f m).host } := by
  unfold State.raiseFor; split <;> rfl

theorem State.clearFlags_only (mask : BitVec 12) :
    s.clearFlags mask = { s with host := (s.clearFlags mask).host, lines := (s.clearFlags mask).lines } := rfl

/-- A raise changes no enable, reply, receiver, hold or set. -/
theorem State.raise_host (f : Flag) :
    (s.raise f).host = { s.host with
      flags := (s.raise f).host.flags
      outstanding := (s.raise f).host.outstanding
      noticesDue := (s.raise f).host.noticesDue } := by
  unfold State.raise HostLine.rise HostLine.notify
  split
  · dsimp only
    split
    · rfl
    · split <;> rfl
  · rfl

/-- A raise of a flag that is enabled leaves it raised. -/
theorem State.raised_raise (f : Flag) (h : s.host.enabled f = true) : (s.raise f).host.raised f = true := by
  have hm : (f.mask).getLsbD f.bit = true := by cases f <;> rfl
  unfold State.raise HostLine.rise HostLine.notify HostLine.raised
  rw [if_pos h]
  dsimp only
  split
  · simp [BitVec.getLsbD_or, hm]
  · split <;> simp [BitVec.getLsbD_or, hm]

/-! ## Copy store -/

theorem State.touchSignedOn_only : s.touchSignedOn = { s with screens := s.touchSignedOn.screens } := rfl

theorem State.reportCrossing_only (wasLow : Bool) :
    s.reportCrossing wasLow = { s with
      screens := (s.reportCrossing wasLow).screens, host := (s.reportCrossing wasLow).host } := by
  unfold State.reportCrossing
  split
  · rfl
  · split
    · rw [State.raise_only]; rfl
    · rfl

/-- A report of a crossing lays screens out, and changes nothing else of any. -/
theorem State.reportCrossing_screens (wasLow : Bool) :
    ∃ f : Screen → Nat, (s.reportCrossing wasLow).screens = s.screens.map fun c => { c with layoutTime := f c } := by
  unfold State.reportCrossing
  split
  · exact ⟨Screen.layoutTime, by simp⟩
  · have touch : ∀ u : State, u.screens = s.screens → u.clock = s.clock → u.touchSignedOn.screens = s.screens.map fun c =>
        { c with layoutTime := if c.signedOn then s.clock.time else c.layoutTime } := by
      intro u hs hc
      unfold State.touchSignedOn
      rw [hs, hc]
      exact List.map_congr_left fun c _ => by split <;> simp [*]
    split
    · exact ⟨_, touch _ (by rw [State.raise_only]) (by rw [State.raise_only])⟩
    · exact ⟨_, touch s rfl rfl⟩

theorem State.putChain_only (n : Nat) (c : Chain) (free : List Nat) :
    s.putChain n c free = { s with
      store := ⟨free, s.store.chains.set n c⟩
      screens := (s.putChain n c free).screens
      host := (s.putChain n c free).host } := by
  unfold State.putChain; rw [State.reportCrossing_only]

/-- A primitive's result lays screens out, and changes nothing else of any. -/
theorem State.putChain_screens (n : Nat) (c : Chain) (free : List Nat) :
    ∃ f : Screen → Nat, (s.putChain n c free).screens = s.screens.map fun d => { d with layoutTime := f d } :=
  State.reportCrossing_screens _ _

theorem State.insertChar_only (n x : Nat) (c : Byte) (t : State) (h : s.insertChar n x c = .ok t) :
    t = { s with store := t.store, screens := t.screens, host := t.host } := by
  unfold State.insertChar at h
  split at h
  · cases h
  · split at h
    · cases h
    · cases h; rw [State.putChain_only]

theorem State.deleteChar_only (n x : Nat) (t : State) (h : s.deleteChar n x = some t) :
    t = { s with store := t.store, screens := t.screens, host := t.host } := by
  unfold State.deleteChar at h
  split at h
  · cases h; rw [State.putChain_only]
  · cases h

theorem State.appendRun_only (n : Nat) (run : List Byte) (t : State) (h : s.appendRun n run = .ok t) :
    t = { s with store := t.store, screens := t.screens, host := t.host } := by
  unfold State.appendRun at h
  split at h
  · cases h
  · split at h
    · cases h
    · cases h; rw [State.putChain_only]

/-! ## Screens -/

theorem State.touchDesk_only (d : Nat) : s.touchDesk d = { s with screens := (s.touchDesk d).screens } := rfl

theorem State.touchStory_only (n : Nat) : s.touchStory n = { s with screens := (s.touchStory n).screens } := by
  unfold State.touchStory; dsimp only; split <;> rfl

theorem State.deny_only (n : Nat) (msg : List Byte) : s.deny n msg = { s with screens := (s.deny n msg).screens } := rfl

theorem State.backToDesk_only (n : Nat) : s.backToDesk n = { s with screens := (s.backToDesk n).screens } := by
  unfold State.backToDesk; split <;> rfl

theorem State.stopViewing_only (n : Nat) : s.stopViewing n = { s with stories := (s.stopViewing n).stories } := by
  unfold State.stopViewing; split <;> rfl

theorem State.signOff_only (n : Nat) :
    s.signOff n = { s with stories := (s.signOff n).stories, screens := (s.signOff n).screens } := by
  unfold State.signOff; rw [State.stopViewing_only]; rfl

/-- A layout, and the start of what each line sends next, change the screens and the lines alone. -/
theorem State.settle_only : s.settle = { s with screens := s.settle.screens, lines := s.settle.lines } := rfl

/-! ## Fit engine -/

theorem State.makeStale_only (n : Nat) :
    s.makeStale n = { s with
      stories := (s.makeStale n).stories, screens := (s.makeStale n).screens, fit := (s.makeStale n).fit } := by
  unfold State.makeStale; rw [State.touchStory_only]; rfl

theorem State.versionChange_only (n : Nat) :
    s.versionChange n = { s with
      stories := (s.versionChange n).stories, screens := (s.versionChange n).screens
      fit := (s.versionChange n).fit } := by
  unfold State.versionChange; rw [State.makeStale_only]; rfl

/-- The engine's taking of entries changes its queue and its pass alone. -/
theorem State.engineTakeFor_only (fuel : Nat) :
    ∀ s : State, s.engineTakeFor fuel = { s with fit := { s.fit with
      queue := (s.engineTakeFor fuel).fit.queue, pass := (s.engineTakeFor fuel).fit.pass } } := by
  induction fuel with
  | zero => intro s; rfl
  | succ fuel ih =>
    intro s
    unfold State.engineTakeFor
    split
    · rfl
    · split
      · rfl
      · dsimp only
        split
        · rw [ih]; rfl
        · split
          · rfl
          · rw [ih]; rfl

theorem State.engineTake_only :
    s.engineTake = { s with fit := { s.fit with queue := s.engineTake.fit.queue, pass := s.engineTake.fit.pass } } :=
  State.engineTakeFor_only _ s

theorem State.joinFitQueue_only (n : Nat) :
    s.joinFitQueue n = { s with fit := { s.fit with
      queue := (s.joinFitQueue n).fit.queue, pass := (s.joinFitQueue n).fit.pass } } := by
  unfold State.joinFitQueue
  split
  · exact State.engineTake_only _
  · rw [State.engineTake_only]

theorem State.fitNow_only (n : Nat) :
    s.fitNow n = { s with fit := { s.fit with
      refit := s.fit.refit.filter (fun e => e.story != n), queue := (s.fitNow n).fit.queue
      pass := (s.fitNow n).fit.pass } } := by
  unfold State.fitNow; rw [State.joinFitQueue_only]; rfl

theorem State.completePass_only :
    s.completePass = { s with
      stories := s.completePass.stories, screens := s.completePass.screens
      fit := { s.fit with queue := s.completePass.fit.queue, pass := s.completePass.fit.pass } } := by
  unfold State.completePass
  split
  · rfl
  · dsimp only
    rw [State.engineTake_only]
    split
    · split
      · rw [State.touchStory_only]; rfl
      · rfl
    · rfl

/-! ## Desks -/

theorem foldl_screens_only (f : State → Nat → State) (hf : ∀ t n, f t n = { t with screens := (f t n).screens })
    (l : List Nat) : ∀ s : State, l.foldl f s = { s with screens := (l.foldl f s).screens } := by
  induction l with
  | nil => intro s; rfl
  | cons n l ih => intro s; simp only [List.foldl_cons]; rw [ih, hf]

theorem State.alertScreen_only (n story : Nat) (p : Priority) :
    s.alertScreen n story p = { s with screens := (s.alertScreen n story p).screens } := by
  cases p <;> rfl

theorem State.alert_only (d story : Nat) (p : Priority) (cause : Option Nat) :
    s.alert d story p cause = { s with screens := (s.alert d story p cause).screens } := by
  apply foldl_screens_only
  intro t n
  split
  · exact State.alertScreen_only _ _ _ _
  · rfl

/-- A story that enters its desk's basket stands at the tail of its class. -/
theorem State.enterBasket_only (n : Nat) (cause : Option Nat) (x : Story) (h : s.story n = some x) :
    s.enterBasket n cause = { s with
      baskets := s.baskets.modify x.desk (placeEntry s.rank ⟨n, s.clock.time, false⟩)
      screens := (s.enterBasket n cause).screens } := by
  unfold State.enterBasket
  simp only [h]
  have ha := State.alert_only (s.updBasket x.desk (placeEntry s.rank ⟨n, s.clock.time, false⟩)) x.desk n x.priority cause
  generalize State.alert _ _ _ _ _ = a at ha ⊢
  rw [ha]; rfl

theorem State.toQueued_only (n : Nat) (cause : Option Nat) :
    s.toQueued n cause = { s with
      stories := s.stories.modify n (Option.map fun t => { t with state := .queued, owner := none })
      baskets := (s.toQueued n cause).baskets, screens := (s.toQueued n cause).screens } := by
  unfold State.toQueued
  rw [State.touchStory_only]
  unfold State.enterBasket
  split
  · rfl
  · dsimp only; rw [State.alert_only]; rfl

theorem State.leaveBasket_only (n : Nat) :
    s.leaveBasket n = { s with baskets := (s.leaveBasket n).baskets, screens := (s.leaveBasket n).screens } := by
  unfold State.leaveBasket; split <;> rfl

theorem State.autoFile_only (n : Nat) :
    s.autoFile n = { s with
      stories := (s.autoFile n).stories, baskets := (s.autoFile n).baskets, screens := (s.autoFile n).screens
      host := (s.autoFile n).host } := by
  unfold State.autoFile
  split
  · rfl
  · split
    · rw [State.toQueued_only]
    · rw [State.touchStory_only, State.raise_only]; rfl

theorem State.escalate_only (d n : Nat) :
    s.escalate d n = { s with
      stories := (s.escalate d n).stories, baskets := (s.escalate d n).baskets
      screens := (s.escalate d n).screens, host := (s.escalate d n).host } := by
  unfold State.escalate
  split
  · rfl
  · dsimp only
    rw [State.raiseFor_only]
    split <;> rfl

/-! ## Transmitters (R155) -/

theorem Line.shiftOn_only (l : Line) :
    l.shiftOn = { l with unfed := l.unfed.drop 1, buffer := l.shiftOn.buffer, shift := l.shiftOn.shift } := rfl

theorem Line.codeEnds_only (l : Line) :
    l.codeEnds = { l with unfed := l.unfed.drop 1, buffer := l.codeEnds.buffer, shift := l.codeEnds.shift } := by
  unfold Line.codeEnds
  split
  · rfl
  · have hu : l.unfed = [] := by simpa using ‹¬l.unfed ≠ []›
    cases l
    cases hu
    split <;> rfl

/-- Codes that end pass through the buffer and the shift, and change nothing else of the line. -/
theorem Line.codesEnd_only (l : Line) :
    l.codesEnd = { l with unfed := l.codesEnd.unfed, buffer := l.codesEnd.buffer, shift := l.codesEnd.shift } := by
  have h : ∀ n, ∀ m : Line, Nat.repeat Line.codeEnds n m =
      { m with
        unfed := (Nat.repeat Line.codeEnds n m).unfed
        buffer := (Nat.repeat Line.codeEnds n m).buffer
        shift := (Nat.repeat Line.codeEnds n m).shift } := by
    intro n
    induction n with
    | zero => intro m; rfl
    | succ n ih => intro m; simp only [Nat.repeat]; rw [Line.codeEnds_only, ih]
  exact h _ l

theorem Line.takeItem_only (l : Line) (i : Item) :
    l.takeItem i = { l with
      item := some i, unfed := (l.takeItem i).unfed, buffer := (l.takeItem i).buffer, shift := (l.takeItem i).shift } := by
  unfold Line.takeItem
  dsimp only
  split
  · rw [Line.codeEnds_only]
  · rfl

@[simp] theorem Line.abandon_shift (l : Line) : l.abandon.shift = l.shift := rfl
@[simp] theorem Line.die_shift (l : Line) : l.die.shift = l.shift := rfl
@[simp] theorem Line.restart_shift (l : Line) (c : LineConfig) : (l.restart c).shift = l.shift := rfl

/-! ## Refits, keys and the return channel -/

theorem State.firstDue_only :
    s.firstDue = { s with fit := { s.fit with
      refit := s.firstDue.fit.refit, queue := s.firstDue.fit.queue, pass := s.firstDue.fit.pass } } := by
  unfold State.firstDue
  split
  · rfl
  · split
    · rw [State.joinFitQueue_only]
    · rfl

/-- An entry that is not due stays, and REFIT_DUE then changes nothing. -/
theorem State.firstDue_of_not_due (h : ∀ e ∈ s.fit.refit.head?, s.clock.steps < e.due) : s.firstDue = s := by
  unfold State.firstDue
  split
  · rfl
  · next e rest he => rw [if_neg]; simp [he] at h; omega

theorem State.keySteps_only (n : Nat) : s.keySteps n = { s with screens := (s.keySteps n).screens } := rfl

theorem State.markResent_only (m : Byte) :
    s.markResent m = { s with link := { s.link with resent := (s.markResent m).link.resent } } := by
  unfold State.markResent; split <;> rfl

theorem State.holdResend_only :
    s.holdResend = { s with link := s.holdResend.link, proof := s.holdResend.proof } := by
  unfold State.holdResend
  split
  · split <;> rfl
  · split
    · split <;> rfl
    · rfl

theorem State.returnByte_hunting (b : Byte) (hr : s.link.receiver = .hunting) (hb : b ≠ 0x5A) : s.returnByte b = s := by
  unfold State.returnByte
  split
  · rfl
  · rw [hr]

/-- A receiver that hunts drops whatever holds no start byte. -/
theorem State.foldl_returnByte_hunting (bytes : List Byte) (hr : s.link.receiver = .hunting) (hb : (0x5A : Byte) ∉ bytes) :
    bytes.foldl State.returnByte s = s := by
  induction bytes with
  | nil => rfl
  | cons b bytes ih =>
    simp only [List.mem_cons, not_or] at hb
    rw [List.foldl_cons, State.returnByte_hunting s b hr (Ne.symm hb.1), ih hb.2]

theorem State.returnByte_deaf (b : Byte) (h : s.link.listens = false) : s.returnByte b = s := by
  unfold State.returnByte; simp [h]

theorem State.foldl_returnByte_deaf (bytes : List Byte) (h : s.link.listens = false) :
    bytes.foldl State.returnByte s = s := by
  induction bytes with
  | nil => rfl
  | cons b bytes ih => rw [List.foldl_cons, State.returnByte_deaf s b h, ih]

theorem State.setReceiver_self (r : Receiver) (h : s.link.receiver = r) : s.setReceiver r = s := by subst h; rfl

/-- The five bytes of a message at a receiver that hunts: what passes is taken, and it hunts again (R209). -/
theorem State.foldl_returnByte_message (code number high low : Byte) (hr : s.link.receiver = .hunting)
    (hl : s.link.listens = true) :
    [0x5A, code, number, high, low].foldl State.returnByte s =
      match returnMessage code number high low with
      | some k => s.takeReturn k number
      | none => s := by
  have e0 : s.returnByte 0x5A = s.setReceiver (.assembling []) := by simp [State.returnByte, hl, hr]
  have e1 : (s.setReceiver (.assembling [])).returnByte code = s.setReceiver (.assembling [code]) := by
    have : (s.setReceiver (.assembling [])).link.listens = true := hl
    simp only [State.returnByte, this]; rfl
  have e2 : (s.setReceiver (.assembling [code])).returnByte number = s.setReceiver (.assembling [code, number]) := by
    have : (s.setReceiver (.assembling [code])).link.listens = true := hl
    simp only [State.returnByte, this]; rfl
  have e3 : (s.setReceiver (.assembling [code, number])).returnByte high =
      s.setReceiver (.assembling [code, number, high]) := by
    have : (s.setReceiver (.assembling [code, number])).link.listens = true := hl
    simp only [State.returnByte, this]; rfl
  have e4 : (s.setReceiver (.assembling [code, number, high])).returnByte low =
      match returnMessage code number high low with
      | some k => (s.setReceiver .hunting).takeReturn k number
      | none => s.setReceiver .hunting := by
    have : (s.setReceiver (.assembling [code, number, high])).link.listens = true := hl
    simp only [State.returnByte, this]; rfl
  simp only [List.foldl_cons, List.foldl_nil]
  rw [e0, e1, e2, e3, e4, State.setReceiver_self s _ hr]

/-! ## What the link sends (R182, R183) -/

@[simp] theorem linkFrame_length (code : Byte) : (linkFrame code).length = 10 := rfl

/-- A block's wire is 10 bits for each of its codes. -/
theorem blockWire_length (b : ForwardBlock) : (blockWire b).length = 10 * (blockBytes b).length := by
  simp [blockWire, List.length_flatMap, Nat.mul_comm]

/-- The records of a block lead its galley, fit its room, and leave no next record that would fit as well. -/
theorem packed_leads (l : List GalleyRecord) : ∀ room : Nat, ∃ rest,
    l = packed room l ++ rest ∧ ((packed room l).flatMap GalleyRecord.bytes).length ≤ room ∧
      ∀ r ∈ rest.head?, room < ((packed room l).flatMap GalleyRecord.bytes).length + r.bytes.length := by
  induction l with
  | nil => exact fun room => ⟨[], rfl, Nat.zero_le _, by simp⟩
  | cons r l ih =>
    intro room
    by_cases h : r.bytes.length ≤ room
    · obtain ⟨rest, hl, hfit, hnext⟩ := ih (room - r.bytes.length)
      refine ⟨rest, ?_, ?_, fun x hx => ?_⟩
      · simp only [packed, if_pos h, List.cons_append, ← hl]
      · simp only [packed, if_pos h, List.flatMap_cons, List.length_append]; omega
      · have := hnext x hx
        simp only [packed, if_pos h, List.flatMap_cons, List.length_append]; omega
    · exact ⟨r :: l, by simp [packed, h], by simp [packed, h], by simp [packed, h]; omega⟩

/-! ## Placing in order -/

/-- An entry placed by rank stands behind every entry of its class or a higher one that leads the list, and before the rest. -/
theorem placeEntry_eq (rank : Entry → Nat) (e : Entry) (l : List Entry) :
    ∃ a b, l = a ++ b ∧ placeEntry rank e l = a ++ e :: b ∧ (∀ y ∈ a, rank y ≤ rank e) ∧
      ∀ y ∈ b.head?, rank e < rank y := by
  refine ⟨_, _, (List.takeWhile_append_dropWhile (p := fun x => rank x ≤ rank e)).symm, rfl, ?_, ?_⟩
  · intro y hy
    have := List.mem_takeWhile_imp hy
    simpa using this
  · intro y hy
    have := List.head?_dropWhile_not (fun x => decide (rank x ≤ rank e)) l
    simp_all

/-- A story that is scheduled has one entry, and every other story keeps its own in their order. -/
theorem placeRefit_filter (e : RefitEntry) (l : List RefitEntry) (h : ∀ x ∈ l, x.story ≠ e.story) :
    (placeRefit e l).filter (fun x => x.story == e.story) = [e] ∧
      (placeRefit e l).filter (fun x => x.story != e.story) = l := by
  have hne : ∀ m : List RefitEntry, (∀ x ∈ m, x ∈ l) →
      m.filter (fun x => x.story == e.story) = [] ∧ m.filter (fun x => x.story != e.story) = m := by
    intro m hm
    refine ⟨List.filter_eq_nil_iff.2 fun x hx => ?_, List.filter_eq_self.2 fun x hx => ?_⟩
    · simpa using h x (hm x hx)
    · simpa using h x (hm x hx)
  have ha := hne (l.takeWhile fun x => x.due ≤ e.due) fun x hx => (List.takeWhile_prefix _).mem hx
  have hb := hne (l.dropWhile fun x => x.due ≤ e.due) fun x hx => (List.dropWhile_suffix _).mem hx
  constructor
  · simp only [placeRefit, List.filter_append, List.filter_cons, beq_self_eq_true, if_true, ha.1, hb.1, List.nil_append]
  · simp only [placeRefit, List.filter_append, List.filter_cons, bne_self_eq_false, ha.2, hb.2]
    exact List.takeWhile_append_dropWhile

end Sys2Proof.Machine
end

