-- ==== Sys2Proof/Laws/Store.lean ====
section
/-! SUPPORT. The chain operations of the copy store: what each does to the text, to the block numbers, and to the used counts
(R9, R12 to R16). -/

namespace Sys2Proof.Machine

/-- Every block of a chain is used and no block is over-full (R9). -/
def Chain.full (c : Chain) : Prop := ∀ b ∈ c, 1 ≤ b.chars.length ∧ b.chars.length ≤ 64

@[simp] theorem Chain.text_nil : Chain.text [] = [] := rfl

@[simp] theorem Chain.text_cons (b : Block) (c : Chain) : Chain.text (b :: c) = b.chars ++ Chain.text c := rfl

@[simp] theorem Chain.nums_nil : Chain.nums [] = [] := rfl

@[simp] theorem Chain.nums_cons (b : Block) (c : Chain) : Chain.nums (b :: c) = b.num :: Chain.nums c := rfl

@[simp] theorem Chain.count_nil : Chain.count [] = 0 := rfl

@[simp] theorem Chain.count_cons (b : Block) (c : Chain) :
    Chain.count (b :: c) = b.chars.length + Chain.count c := rfl

/-- The character count is the length of the text. -/
theorem Chain.count_eq (c : Chain) : c.count = c.text.length := by
  induction c with
  | nil => rfl
  | cons b c ih => simp [ih]

theorem Chain.full_nil : Chain.full [] := by simp [Chain.full]

theorem Chain.full_cons (b : Block) (c : Chain) :
    Chain.full (b :: c) ↔ (1 ≤ b.chars.length ∧ b.chars.length ≤ 64) ∧ Chain.full c := by
  simp [Chain.full]

/-! ## Insert (R12) -/

theorem insertCode_append_left (p : Nat) (c : Byte) (a b : List Byte) (h : p ≤ a.length) :
    insertCode p c (a ++ b) = insertCode p c a ++ b := by
  simp [insertCode, List.take_append_of_le_length h, List.drop_append_of_le_length h]

theorem insertCode_append_right (p : Nat) (c : Byte) (a b : List Byte) (h : a.length ≤ p) :
    insertCode p c (a ++ b) = a ++ insertCode (p - a.length) c b := by
  simp [insertCode, List.take_append, List.drop_append, List.take_of_length_le h, List.drop_eq_nil_of_le h]

theorem length_insertCode (p : Nat) (c : Byte) (l : List Byte) : (insertCode p c l).length = l.length + 1 := by
  simp [insertCode]; omega

/-- What R12's four cases at the target block do. -/
theorem insertAt_spec (c : Byte) (free : List Nat) (b : Block) (p : Nat) (rest : Chain) (r : Chain × List Nat)
    (hp : p ≤ b.chars.length) (h : insertAt c free b p rest = some r) :
    r.1.text = insertCode p c b.chars ++ rest.text ∧ (r.2 ++ r.1.nums).Perm (free ++ b.num :: rest.nums) ∧
      (Chain.full (b :: rest) → r.1.full) := by
  unfold insertAt at h
  split at h
  · next hl =>
    have hl : b.chars.length < 64 := hl
    cases h
    refine ⟨rfl, .rfl, fun hf => ?_⟩
    rw [Chain.full_cons] at hf ⊢
    have := length_insertCode p c b.chars
    refine ⟨?_, hf.2⟩
    dsimp only
    omega
  · next hl =>
    have hl : ¬ b.chars.length < 64 := hl
    cases free with
    | nil => cases h
    | cons n free =>
      have hn : ∀ l m : List Nat, (free ++ b.num :: n :: m).Perm (n :: free ++ b.num :: m) := fun _ m => by
        rw [List.perm_iff_count]; intro a; simp [List.count_cons]; omega
      dsimp only at h
      split at h
      · next he =>
        cases h
        refine ⟨by simp [insertCode, he], hn [] _, fun hf => ?_⟩
        simp only [Chain.full_cons] at hf ⊢
        exact ⟨hf.1, ⟨by simp, by simp⟩, hf.2⟩
      · split at h
        · next hp31 =>
          cases h
          refine ⟨?_, hn [] _, fun hf => ?_⟩
          · have := insertCode_append_left p c (b.chars.take 32) (b.chars.drop 32) (by simp; omega)
            rw [List.take_append_drop] at this
            simp [this]
          · simp only [Chain.full_cons, length_insertCode, List.length_take, List.length_drop] at hf ⊢
            exact ⟨by omega, by omega, hf.2⟩
        · next hp31 =>
          cases h
          refine ⟨?_, hn [] _, fun hf => ?_⟩
          · have := insertCode_append_right p c (b.chars.take 32) (b.chars.drop 32) (by simp; omega)
            rw [List.take_append_drop, List.length_take, Nat.min_eq_left (by omega)] at this
            simp [this]
          · simp only [Chain.full_cons, length_insertCode, List.length_take, List.length_drop] at hf ⊢
            exact ⟨by omega, by omega, hf.2⟩

/-- An insert puts the code at its offset, keeps every block number in one place, and keeps every block used and within 64. -/
theorem Chain.insert_spec (c : Byte) (free : List Nat) (ch : Chain) :
    ∀ (x : Nat) (r : Chain × List Nat), ch.insert c free x = some r →
      r.1.text = insertCode x c ch.text ∧ (r.2 ++ r.1.nums).Perm (free ++ ch.nums) ∧ (ch.full → r.1.full) := by
  induction ch with
  | nil =>
    intro x r h
    cases free with
    | nil => cases h
    | cons n free =>
      cases h
      exact ⟨by simp [insertCode], by simp, fun _ => by simp [Chain.full]⟩
  | cons b rest ih =>
    intro x r h
    unfold Chain.insert at h
    split at h
    · next hx =>
      have hs := insertAt_spec c free b _ rest r (Nat.min_le_right _ _) h
      refine ⟨hs.1.trans ?_, hs.2⟩
      by_cases hl : x ≤ b.chars.length
      · rw [Nat.min_eq_left hl, Chain.text_cons, insertCode_append_left _ _ _ _ hl]
      · have hr : rest = [] := by rcases hx with hx | hx <;> [omega; exact hx]
        subst hr
        rw [Nat.min_eq_right (by omega)]
        simp [insertCode, List.take_of_length_le (show b.chars.length ≤ x by omega),
          List.drop_eq_nil_of_le (show b.chars.length ≤ x by omega)]
    · next hx =>
      rw [not_or] at hx
      cases hi : Chain.insert c free rest (x - b.chars.length) with
      | none => simp [hi] at h
      | some q =>
        simp only [hi, Option.map_some, Option.some.injEq] at h
        subst h
        obtain ⟨h1, h2, h3⟩ := ih _ q hi
        refine ⟨?_, ?_, fun hf => ?_⟩
        · simp only [Chain.text_cons, h1]
          exact (insertCode_append_right x c _ _ (by omega)).symm
        · simp only [Chain.nums_cons]
          exact (List.perm_middle.trans (h2.cons _)).trans List.perm_middle.symm
        · rw [Chain.full_cons] at hf ⊢
          exact ⟨hf.1, h3 hf.2⟩

/-! ## Delete (R13) -/

/-- A delete takes out the code at its offset, keeps every block number in one place, and unlinks a block that empties. -/
theorem Chain.delete_spec (free : List Nat) (ch : Chain) :
    ∀ x : Nat, x < ch.count →
      (ch.delete free x).1.text = ch.text.eraseIdx x ∧
        ((ch.delete free x).2 ++ (ch.delete free x).1.nums).Perm (free ++ ch.nums) ∧
        (ch.full → (ch.delete free x).1.full) := by
  induction ch with
  | nil => intro x h; simp at h
  | cons b rest ih =>
    intro x h
    unfold Chain.delete
    split
    · next hx =>
      split
      · next h1 =>
        refine ⟨?_, ?_, fun hf => ?_⟩
        · have : b.chars.eraseIdx x = [] := List.eq_nil_of_length_eq_zero (by rw [List.length_eraseIdx]; simp [hx]; omega)
          rw [Chain.text_cons, List.eraseIdx_append_of_lt_length hx, this]; rfl
        · simpa using List.perm_middle.symm
        · exact (Chain.full_cons _ _).1 hf |>.2
      · next h1 =>
        refine ⟨?_, .rfl, fun hf => ?_⟩
        · rw [Chain.text_cons, Chain.text_cons, List.eraseIdx_append_of_lt_length hx]
        · rw [Chain.full_cons] at hf ⊢
          refine ⟨?_, hf.2⟩
          dsimp only
          rw [List.length_eraseIdx, if_pos hx]
          omega
    · next hx =>
      simp only [Chain.count_cons] at h
      obtain ⟨h1, h2, h3⟩ := ih (x - b.chars.length) (by omega)
      refine ⟨?_, ?_, fun hf => ?_⟩
      · simp only [Chain.text_cons, h1]
        rw [List.eraseIdx_append_of_length_le (by omega)]
      · simp only [Chain.nums_cons]
        exact (List.perm_middle.trans (h2.cons _)).trans List.perm_middle.symm
      · rw [Chain.full_cons] at hf ⊢
        exact ⟨hf.1, h3 hf.2⟩

/-! ## Append (R14) -/

theorem Chain.fillLast_nums (run : List Byte) (ch : Chain) : (ch.fillLast run).nums = ch.nums := by
  induction ch with
  | nil => rfl
  | cons b rest ih => cases rest with
    | nil => rfl
    | cons d rest => simp only [Chain.fillLast, Chain.nums_cons] at ih ⊢; rw [ih]

theorem Chain.fillLast_text (run : List Byte) (ch : Chain) (h : ch ≠ [] ∨ run = []) :
    (ch.fillLast run).text = ch.text ++ run := by
  induction ch with
  | nil => simpa [Chain.fillLast] using h
  | cons b rest ih => cases rest with
    | nil => simp [Chain.fillLast]
    | cons d rest =>
      have := ih (.inl (by simp))
      rw [Chain.fillLast, Chain.text_cons, this, Chain.text_cons b, List.append_assoc]
      simp

theorem Chain.fillLast_full (run : List Byte) (ch : Chain) (hr : run.length ≤ ch.room) (h : ch.full) :
    (ch.fillLast run).full := by
  induction ch with
  | nil => exact h
  | cons b rest ih => cases rest with
    | nil =>
      simp only [Chain.fillLast, Chain.full_cons, Chain.room, Config.blockSize, List.length_append] at hr h ⊢
      exact ⟨by omega, h.2⟩
    | cons d rest =>
      rw [Chain.fillLast, Chain.full_cons]
      · exact ⟨((Chain.full_cons _ _).1 h).1, ih hr ((Chain.full_cons _ _).1 h).2⟩
      · simp

theorem blocksOf_nums (nums : List Nat) : ∀ run : List Byte, (blocksOf nums run).nums = nums := by
  induction nums with
  | nil => intro _; rfl
  | cons n nums ih => intro run; simp [blocksOf, ih]

theorem blocksOf_text (nums : List Nat) :
    ∀ run : List Byte, run.length ≤ 64 * nums.length → (blocksOf nums run).text = run := by
  induction nums with
  | nil => intro run h; simp_all [blocksOf]
  | cons n nums ih =>
    intro run h
    simp only [List.length_cons] at h
    rw [blocksOf, Chain.text_cons, ih _ (by simp [Config.blockSize]; omega)]
    simp

theorem blocksOf_full (nums : List Nat) :
    ∀ run : List Byte, 64 * nums.length < run.length + 64 → Chain.full (blocksOf nums run) := by
  induction nums with
  | nil => intro _ _; simp [blocksOf, Chain.full]
  | cons n nums ih =>
    intro run h
    simp only [List.length_cons] at h
    rw [blocksOf, Chain.full_cons]
    refine ⟨?_, ih _ (by simp [Config.blockSize]; omega)⟩
    simp only [List.length_take, Config.blockSize]
    omega

theorem Chain.room_le (ch : Chain) : ch.room ≤ 64 := by
  induction ch with
  | nil => simp [Chain.room]
  | cons b rest ih => cases rest with
    | nil => simp [Chain.room, Config.blockSize]
    | cons d rest => simpa [Chain.room] using ih

/-- An append that the free stack can hold puts the run after the text, keeps every block number in one place, and keeps every
block used and within 64. -/
theorem Chain.append_spec (ch : Chain) (free : List Nat) (run : List Byte) (h : ch.needed run.length ≤ free.length) :
    (ch.append free run).1.text = ch.text ++ run ∧
      ((ch.append free run).2 ++ (ch.append free run).1.nums).Perm (free ++ ch.nums) ∧
      (ch.full → (ch.append free run).1.full) := by
  have hk : (free.take (ch.needed run.length)).length = ch.needed run.length := by simp [h]
  have hn : ch.needed run.length =
      if run.length ≤ ch.room then 0 else (run.length - ch.room + 63) / 64 := rfl
  have text_append (a b : Chain) : Chain.text (a ++ b) = Chain.text a ++ Chain.text b := by simp [Chain.text]
  have nums_append (a b : Chain) : Chain.nums (a ++ b) = Chain.nums a ++ Chain.nums b := by simp [Chain.nums]
  refine ⟨?_, ?_, fun hf => ?_⟩
  · show Chain.text (_ ++ _) = _
    rw [text_append, Chain.fillLast_text, blocksOf_text]
    · simp
    · rw [hk, List.length_drop, hn]; split <;> omega
    · cases ch with
      | nil => right; simp [Chain.room]
      | cons b c => left; simp
  · show (_ ++ Chain.nums (_ ++ _)).Perm _
    rw [nums_append, Chain.fillLast_nums, blocksOf_nums]
    conv => rhs; rw [← List.take_append_drop (ch.needed run.length) free]
    rw [List.perm_iff_count]
    intro a
    simp only [List.count_append, Chain.append]
    omega
  · show Chain.full (_ ++ _)
    have h1 := Chain.fillLast_full (run.take ch.room) ch (by simp) hf
    have h2 := blocksOf_full (free.take (ch.needed run.length)) (run.drop ch.room) (by
      rw [hk, List.length_drop, hn]
      have := ch.room_le
      split <;> omega)
    intro b hb
    rcases List.mem_append.1 hb with hb | hb
    · exact h1 b hb
    · exact h2 b hb

/-! ## Release (R16) -/

/-- A release puts every block number on the free stack. -/
theorem Chain.release_perm (free : List Nat) (ch : Chain) : (ch.release free).Perm (free ++ ch.nums) :=
  ((List.reverse_perm _).append_right _).trans List.perm_append_comm

end Sys2Proof.Machine
end

