-- ==== Sys2Proof/Tests/Slice0.lean ====
section
/-! SUPPORT. Tests: ill-formed commands refused, the manual's own examples, one step on small states, and for each statement with
hypotheses a state and operands that meet them. Expected values come from spec/, as each test says. -/

set_option Elab.async false

namespace Sys2Proof.Machine.Tests

/-! ## Ill-formed commands -/

theorem test_wf_refuses_long_body : (Instr.identify 0 (List.replicate 1025 0)).wf = false := by decide +kernel

theorem test_wf_admits_longest_body : (Instr.identify 0 (List.replicate 1024 0)).wf = true := by decide +kernel

theorem test_wf_refuses_unprintable_key : (Instr.keyPrintable 0 0x7F).wf = false ∧ (Instr.keyPrintable 0 0x1F).wf = false := by
  decide

theorem test_wf_admits_printable_key : (Instr.keyPrintable 31 0x7E).wf = true ∧ (Instr.keyPrintable 0 0x20).wf = true := by
  decide

/-- No row of spec/opcode_table.json has bits. -/
theorem test_decode_no_word : decodeTableWord 0 0 = none := rfl

/-! ## Small states -/

/-- A field of the next state of a step; none where the step stops. -/
def field {α : Type} (o : Host.Outcome State Fault Refusal) (f : State → α) : Option α :=
  match o with
  | .next t => some (f t)
  | .fault _ => none
  | .refused _ => none

/-- The line of the manual's example of 7: 9,600 bit/s, 8 data bits, no parity, 1 stop bit, profile 0. -/
def lineConfig : LineConfig := ⟨3, 8, .none, 1, 0, 900, 20, 120⟩

def lineUp : Line := { Line.reset with state := .up, config := some lineConfig }

/-- The state after reset with every line UP and one screen changed. -/
def withScreen (n : Nat) (f : Screen → Screen) : State :=
  { State.reset with
    lines := List.replicate 32 lineUp
    screens := State.reset.screens.modify n fun c => f { c with mode := .signedOff } }

/-- One line that is UP and its screen, which shows nothing yet but a message row to paint. -/
def oneLine (l : Line) (f : Screen → Screen) : State :=
  { State.reset with lines := [l], screens := [f { Screen.reset with mode := .signedOff }] }

def linkConfig : LinkConfig := ⟨0, 20, 300, 10, 16, 32, 24, 28, false⟩

/-- The state after reset with a configured link. -/
def withLink (f : Link → Link) : State :=
  { State.reset with link := f { Link.reset with config := some linkConfig, cond := .up, los := false } }

/-- The style of the first example of 4. -/
def style : Style := ⟨2, 24, 24, 28, 36, 0⟩

/-- Face 2 of the first example of 4: a 9, i 5, l 5, m 14, n 9, w 14, the space 5. -/
def face : Face where
  lower := 5 :: List.replicate 47 0
  upper := (List.range 47).map fun i =>
    if i = 17 then 9 else if i = 25 then 5 else if i = 28 then 5 else if i = 29 then 14
    else if i = 30 then 9 else if i = 39 then 14 else 0
  lowerLoaded := true
  upperLoaded := true
  generation := 2

/-- A QUEUED story of desk 3. -/
def story : Story where
  slug := str "BRIEF"
  state := .queued
  priority := .routine
  desk := 3
  owner := none
  viewers := []
  version := 7
  style := style
  head := none
  fit := none
  placement := none
  created := 0
  setEdition := none

def desk : Desk := ⟨str "CITY", str "4471", false, false, some 5, [5], 30, style⟩

/-- The state after reset with story 0, desk 3, and face 2. -/
def withStory (x : Story) : State :=
  { State.reset with
    stories := State.reset.stories.set 0 (some x)
    desks := State.reset.desks.set 3 (some desk)
    fit := { FitUnit.reset with faces := FitUnit.reset.faces.set 2 face } }

/-! ## The manual's examples -/

/-- 10, Example: the summary byte. -/
theorem test_summary_bytes : summaryByte 1000 = 0x6F ∧ summaryByte 0 = 0 ∧ summaryByte 600000 = 0xFF := by decide

/-- 1, the example: the used counts after an insert at offset 40 of a full block, and at 65. -/
theorem test_insert_splits :
    (Chain.insert 0x41 [9] [⟨4, List.replicate 64 0x40⟩] 40).map (fun r => (r.1.map fun b => (b.num, b.chars.length), r.2)) =
        some ([(4, 32), (9, 33)], []) ∧
      ((Chain.insert 0x41 [] [⟨4, List.replicate 32 0x40⟩, ⟨9, List.replicate 33 0x40⟩] 65).map fun r =>
        r.1.map fun b => b.chars.length) = some [32, 34] := by decide +kernel

/-- 1, the example: the 31st delete unlinks the first block, and an append of 100 codes to a block of 34 takes two. -/
theorem test_delete_and_append :
    Chain.delete [7] [⟨4, [0x40]⟩, ⟨9, [0x41]⟩] 0 = ([⟨9, [0x41]⟩], [4, 7]) ∧
      ((Chain.append [⟨9, List.replicate 34 0x40⟩] [5, 6, 7] (List.replicate 100 0x41)).1.map fun b =>
        (b.num, b.chars.length)) = [(9, 64), (5, 64), (6, 6)] := by decide +kernel

/-- 4, Example: fitting one paragraph: 3 lines of depth 84, and 4 of 112 with an indent of 18. -/
theorem test_fit_one_paragraph :
    (fitFigures face style (str "a mill will win" ++ [0x0A]) none).lines = 3 ∧
      (fitFigures face style (str "a mill will win" ++ [0x0A]) none).depth = 84 ∧
      (fitFigures face { style with indent := 18 } (str "a mill will win" ++ [0x0A]) none).depth = 112 := by decide +kernel

/-- 4, Example: splitting and an overfull line. -/
theorem test_fit_splits_words :
    (fitFigures face style (str "mmmm") none).lines = 2 ∧ (fitFigures face style (str "mmmm") none).overfull = 0 ∧
      (fitFigures face { style with indent := 50 } (str "mw") none).lines = 2 ∧
      (fitFigures face { style with indent := 50 } (str "mw") none).overfull = 1 := by decide +kernel

/-- 4, Example: a headline and BUST. -/
theorem test_fit_headline_bust :
    let f := fitFigures face style (str "a mill will win" ++ [0x0A])
      (some (face, ⟨str "mill win", { style with leading := 40 }, 1⟩))
    f.heads = 2 ∧ f.bust = true ∧ f.depth = 164 ∧ f.lines = 3 := by decide +kernel

/-- 11.6: the CRC of no bytes is its initial value. -/
theorem test_crc_of_nothing_is_initial : crc16 [] = 0xFFFF := by decide

/-- 11, Example: a notice and its read: line 6 DEAD raises LINE_DOWN and makes one notice due; a second rise makes none. -/
theorem test_one_notice_until_read :
    ((State.reset.raiseFor .lineDown 6).raiseFor .deskOverdue 3).host.flags = 0x140 ∧
      ((State.reset.raiseFor .lineDown 6).raiseFor .deskOverdue 3).host.noticesDue = 1 ∧
      ((State.reset.raiseFor .lineDown 6).raiseFor .deskOverdue 3).host.lineDown = [6] := by decide +kernel

/-- 11, the example: the first read clears LINE_DOWN alone and a new notice falls due. -/
theorem test_attention_read_of_the_example :
    field (exec (.attentionRead 1 (be 2 0x40)) ((State.reset.raiseFor .lineDown 6).raiseFor .deskOverdue 3))
        (fun t => (t.host.flags, t.host.lineDown, t.host.deskOverdue, t.host.outstanding)) =
      some (0x100, [], [3], true) := by decide +kernel

/-- 7, Example: a break key: the break start loads the timer with 20, and the return to mark queues a BREAK (here with another
key waiting, so that the interpreter's turn does not matter). -/
theorem test_break_key :
    field (exec (.terminalCharacterReceived 9 ⟨0, false, false⟩) (withScreen 9 id)) (fun t => (t.line 9).breakTimer) =
        some (some 20) := by decide +kernel

/-- 7, Example: a terminal switched off: line 9 DEAD, screen 9 DOWN, LINE_DOWN with line 9. -/
theorem test_line_dies :
    field (exec (.breakTimerExpiry 9)
        { withScreen 9 id with lines := List.replicate 32 { lineUp with breakTimer := some 0 } })
        (fun t => ((t.line 9).state, (t.screen 9).mode, t.host.lineDown)) = some (.dead, .down, [9]) := by decide +kernel

/-- 4, Example: the schedule through an edit: after step 1,000 with a quiet time of 15, due at 1,016. -/
theorem test_schedule_of_the_example :
    (({ State.reset with clock := ⟨1000, 0, 10⟩ }).schedule 40).fit.refit = [⟨40, 1016⟩] := by decide +kernel

/-- R83: an entry that is not due does not fall due, whatever the command. -/
theorem test_entry_not_due_stays :
    field (exec .refitDue { withStory story with fit := { FitUnit.reset with refit := [⟨0, 1016⟩] } })
      (fun t => (t.fit.refit, t.fit.queue)) = some ([⟨0, 1016⟩], []) := by decide +kernel

/-- R145: 9,600 bit/s with 10 bits to a frame are 960 codes a second, 96 in a tenth; and the frame of 'A' (0x41) with even parity. -/
theorem test_frames :
    (({ lineConfig with rate := 3 }.codesPerTenth, { lineConfig with rate := 0 }.codesPerTenth) = (96, 12)) ∧
      { lineConfig with dataBits := 7, parity := .even }.frame 0xC1 =
        [false, true, false, false, false, false, false, true, false, true] := by decide +kernel

/-- R96: a key that changes nothing lays its screen out at the present time of day. -/
theorem test_key_lays_out_now :
    field (exec (.keyAck 0) { oneLine lineUp id with clock := ⟨0, 4567, 10⟩ }) (fun t => (t.screen 0).layoutTime) =
      some 4567 := by decide +kernel

/-- R96: a change of a desk's record lays out the screens signed on there, and no others. -/
theorem test_route_lays_out_the_desk :
    let t := (reqDeskRoute (be 1 3 ++ be 1 0 ++ be 1 0 ++ be 2 0) { withStory story with
      clock := ⟨0, 4567, 10⟩
      screens := [{ Screen.reset with mode := .desk, desk := some 3 }, { Screen.reset with mode := .desk, desk := some 5 }] }).1
    ((t.screen 0).layoutTime, (t.screen 1).layoutTime) = (4567, 0) := by decide +kernel

/-- R17: a fall and a return of the free count lay the signed-on screens out; only the fall raises STORE_LOW. -/
theorem test_crossings_lay_out :
    let s := { State.reset with
      clock := ⟨0, 4567, 10⟩, screens := [{ Screen.reset with mode := .desk }, { Screen.reset with mode := .signedOff }] }
    let low := s.putChain 0 [] (List.range 255)
    ((low.screen 0).layoutTime, (low.screen 1).layoutTime, low.host.raised .storeLow) = (4567, 0, true) ∧
      (({ low with clock := ⟨0, 5000, 10⟩ }.putChain 0 [] (List.range 256)).screen 0).layoutTime = 5000 ∧
      (({ low with clock := ⟨0, 5000, 10⟩ }.putChain 0 [] (List.range 254)).screen 0).layoutTime = 4567 := by decide +kernel

/-- R183: the frame of 0x53 on the link, and an ENQUIRY block of seven bytes and a CRC on the wire. -/
theorem test_link_frames :
    linkFrame 0x53 = [false, true, true, false, false, true, false, true, false, true] ∧
      (blockWire ⟨5, .enquiry, []⟩).take 10 = linkFrame 0x96 ∧ (blockWire ⟨5, .enquiry, []⟩).length = 70 := by decide +kernel

/-- R209: bytes before a start byte are dropped, and so is a message of a code that is none of the five. -/
theorem test_return_receiver_drops_noise :
    returnMessage 0xEE 1 2 3 = none ∧
      ReturnCode.ready.byte ≠ 0x5A ∧
      field (exec (.ready ⟨[9, 0x5A, 0xEE, 1, 2, 3, 9], 5⟩ (returnCheck .ready 5))
        (withLink fun l => { l with cond := .acquiring })) (fun t => t.link.cond) = some .up := by decide +kernel

/-- R185: with an expiry and HOLD at one timebase step the try has failed and the resend waits for GO. -/
theorem test_hold_after_expiry_waits :
    (field (exec (.hold ⟨[], 0⟩ (returnCheck .hold 0))
        (withLink fun l => { l with
          resent := some (0, 57), forward := [⟨57, .data, [0x01]⟩]
          setting := some ⟨12, 8, 0, 3, some ⟨57, [0x01], true, 2, true, .sending⟩, false, none⟩ }))
      fun t => (t.link.held, t.link.forward, t.link.current.map CurrentBlock.phase)) = some (true, [], some .resendDue) := by
  decide +kernel

/-! ## One step -/

theorem test_step_takes_the_front :
    field (step { State.reset with pending := [.fitQuiet 5 (be 4 60), .refitDue] }) (fun t => (t.fit.quiet, t.pending)) =
      some (50, [.refitDue]) := by decide +kernel

theorem test_step_of_empty_queue_ticks :
    field (step State.reset) (fun t => t.clock) = some ⟨1, 0, 9⟩ := by decide +kernel

/-! ## The hypotheses of the statements are met: the machine and the host line -/

theorem test_meets_StepRunsTheFront :
    ({ State.reset with pending := [.replySent, .refitDue] }).pending = .replySent :: [.refitDue] := rfl

theorem test_meets_EmptyQueueStepsTheTimebase :
    (withScreen 9 id).pending = [] ∧ State.reset.fit.pass = none ∧
      (let p : Pass := ⟨0, 7, 2, none, 1, 2⟩
       { FitUnit.reset with pass := some p }.pass = some p ∧ p.limit ≤ p.elapsed + 1) := by decide +kernel

/-- The screen with its layout painted. -/
def painted (c : Screen) : Screen :=
  { c with image := layoutAt (oneLine lineUp id) { Screen.reset with mode := .signedOff } 0 }

theorem test_meets_TransmittersTakeTheirItems :
    (0 < (oneLine lineUp id).lines.length ∧ 0 < (oneLine lineUp id).screens.length ∧ ((oneLine lineUp id).line 0).state = .up ∧
      ((oneLine lineUp id).line 0).item = none) ∧
    ((oneLine lineUp fun c => { c with clearDue := true }).layOutAll.screen 0).clearDue = true ∧
    (let c := (oneLine lineUp fun c => { c with bells := 1 }).layOutAll.screen 0
     c.clearDue = false ∧ 0 < c.bells) ∧
    (let c := (oneLine lineUp id).layOutAll.screen 0
     c.clearDue = false ∧ c.bells = 0 ∧ c.blanked = false ∧ 23 ∈ c.paint ∧
      ∃ r ∈ c.paint, ∀ q ∈ c.paint, r ≤ q) ∧
    (let c := (oneLine lineUp fun c => { painted c with ringDue := true }).layOutAll.screen 0
     c.paint = [] ∧ c.bells = 0 ∧ c.clearDue = false ∧ c.cursorAt = none ∧ c.ringDue = true) ∧
    ((oneLine lineUp painted).layOutAll.screen 0).ringDue = false ∧
    (((oneLine { lineUp with shift := some (lineUp.shifting 0x41) } id).line 0).shift.isSome = true ∧ lineUp.shift = none) ∧
    ((oneLine lineUp fun c => { c with clearDue := true }).settle.line 0).item = some ⟨.clear, [Profile.basic.clearCode]⟩ ∧
    ((oneLine lineUp fun c => { c with bells := 2 }).settle.line 0).item =
      some ⟨.bells, [Profile.basic.bellCode, Profile.basic.bellCode]⟩ ∧
    ((oneLine { lineUp with item := some ⟨.clear, [0x0C]⟩ } id).line 0).item = some ⟨.clear, [0x0C]⟩ ∧
    (oneLine { lineUp with buffer := some 0x41, unfed := [0x42] } id).pending = [] ∧
    min { lineUp with buffer := some 0x41, unfed := [0x42] }.codesPerTenth 1 = 1 ∧ 1 ≤ lineUp.codesPerTenth ∧
    lineUp.config = some lineConfig ∧ lineConfig.dataBits = 8 ∧ { lineConfig with parity := .odd }.parity = .odd := by
  decide +kernel

theorem test_meets_HostFramesRoundTrip :
    (List.replicate 1024 (0 : Byte)).length ≤ 1024 ∧ State.reset.host.receiver = .hunting := by decide +kernel

theorem test_meets_LostFramesRaiseFrameError :
    0 ≠ (crc16 (frameContent 1 7 [])).toNat ∧ 65535 ≠ (crc16 (frameContent 1 7 [])).toNat ∧
      State.reset.host.receiver = .hunting ∧ 1024 < 1025 ∧ 65535 < 65536 ∧
      ({ State.reset with host := { HostLine.reset with receiver := .assembling [0x00] } }).host.receiver =
        .assembling [0x00] := by decide +kernel

def withReply (contended : Bool) (hold : Option Request) : State :=
  { State.reset with host := { HostLine.reset with reply := some ⟨[], contended⟩, hold := hold, noticesDue := 1 } }

theorem test_meets_TheHoldIsServedAfterTheReply :
    (withReply false none).host.reply = some ⟨[], false⟩ ∧ (withReply false none).host.hold = none ∧
      (withReply false (some ⟨0x80, 1, []⟩)).host.hold = some ⟨0x80, 1, []⟩ ∧ 128 ≤ (0x80 : Byte).toNat := by decide

theorem test_meets_NoticeCarriesTheFlagsAsTheyStand :
    0 < (withReply true none).host.noticesDue ∧ (withReply true none).host.reply = some ⟨[], true⟩ ∧
      (withReply false none).host.reply = some ⟨[], false⟩ ∧ 0 < (State.reset.raise .pageSet).host.noticesDue ∧
      (State.reset.raise .pageSet).host.reply = none := by decide

theorem test_meets_RaisedFlagsMakeNoticesDue :
    ({ State.reset with host := { HostLine.reset with enables := 0 } }).host.enabled .storyOrphaned = false ∧
      State.reset.host.enabled .storyOrphaned = true := by decide

theorem test_meets_ReportsChangeNothing :
    State.reset.host.reply = none ∧ List.replicate 1024 (0 : Byte) ≠ [] ∧
      (List.replicate 1024 (0 : Byte)).length ≤ 1024 := by decide +kernel

theorem story_withStory (x : Story) (m : Nat) : (withStory x).story m = if m = 0 then some x else none := by
  unfold withStory State.story
  cases m with
  | zero => rfl
  | succ m => simp [State.reset, List.getD_eq_getElem?_getD, List.getElem?_replicate]; split <;> rfl

theorem test_meets_ReadAndFindReportTheStory :
    (withStory story).host.reply = none ∧ (withStory story).story 0 = some story ∧
      1 ≤ (str "brief").length ∧ (str "brief").length ≤ 12 ∧ ((str "brief").map foldCase).all isSlugCode = true ∧
      story.slug = (str "brief").map foldCase ∧
      (∀ m < 512, ∀ u, (withStory story).story m = some u → u.slug = story.slug → m = 0) := by
  refine ⟨rfl, rfl, by decide, by decide, by decide, by decide, fun m _ u h _ => ?_⟩
  rw [story_withStory] at h
  split at h
  · assumption
  · cases h

theorem test_meets_TimeSetKeepsEveryAge :
    State.reset.host.reply = none ∧ State.reset.clock.time < 86400 ∧
      ∀ e ∈ ({ State.reset with baskets := [[⟨0, 86399, false⟩]] }).basket 0, e.time < 86400 := by decide

theorem test_meets_AttentionReadReportsThenClears :
    State.reset.host.reply = none ∧ 4095 < 4096 ∧ Nat.testBit 0x80 7 = true := by decide

theorem test_meets_FullResetsLeaveTheResetState : State.reset.host.reply = none := rfl

theorem test_meets_QuietTimeIsSet : State.reset.host.reply = none ∧ 4294967295 < 4294967296 := by decide

theorem test_meets_EditionsClose : State.reset.host.reply = none := rfl

theorem test_meets_AttentionEnableClearsWhatGoesOff :
    State.reset.host.enabled .lineDown = true ∧ Nat.testBit 0xFBF 6 = false ∧ Nat.testBit 0xFFF 6 = true := by decide

/-- A page 12 with story 0 in slot 3. -/
def page (st : PageState) : Page := ⟨str "B3", 2, st, none, [⟨3, 36, 120, some 0⟩]⟩

/-- The block that holds the page's whole galley (9, the example: number 57). -/
def block (phase : BlockPhase) (tries : Nat) (last : Bool) : CurrentBlock := ⟨57, [0x01], last, tries, false, phase⟩

def settingPage (b : CurrentBlock) : SettingPage := ⟨12, 8, 0, 3, some b, false, none⟩

/-- A page that is SETTING with its block, on a link that is UP. -/
def withSetting (phase : BlockPhase) (tries : Nat) (last : Bool) : State :=
  { withLink (fun l => { l with activity := .setting, nextNum := 58, setting := some (settingPage (block phase tries last)) }) with
    pages := State.reset.pages.set 12 (some (page .setting))
    stories := [some { story with state := .setting, placement := some (12, 3) }] }

theorem test_meets_LinkResetRestartsTheLink :
    let s := withSetting .sent 1 true
    s.host.reply = none ∧ s.proof.state = .idle ∧ s.link.config.isSome = true ∧ State.reset.link.config = none ∧
      s.link.setting = some (settingPage (block .sent 1 true)) ∧ s.page 12 = some (page .setting) ∧
      (page .setting).state = .setting := by decide +kernel

theorem test_meets_ScreensResetSignsEveryScreenOff :
    (withScreen 9 id).host.reply = none ∧ (withScreen 9 id).lines.length = 32 ∧ (withScreen 9 id).screens.length = 32 ∧
      ((withScreen 9 id).line 31).config = some lineConfig ∧ (State.reset.line 0).config = none := by decide +kernel

/-! ## Screens, desks, faces and fits as the host sets them -/

/-- The codes of the basic profile's key map (R95, 11.6). -/
def basicKeys : List Byte :=
  [0x00, 0x18, 0x0B, 0x0D, 0x03, 0x0C, 0x12, 0x00, 0x02, 0x15, 0x01, 0x06, 0x05, 0x01, 0x0E, 0x0F,
   0x08, 0x16, 0x1A, 0x13, 0x0A, 0x1B, 0x10, 0x1C, 0x19, 0x17, 0x14, 0x11, 0x04, 0x00, 0x07, 0x09]

theorem test_meets_ProfilesAreStored :
    Profile.basic.attrCodes.length = 8 ∧ basicKeys.length = 32 ∧
      basicKeys.mapM (fun k => keyEntryOfCode k.toNat) = some Profile.basic.keyMap ∧ State.reset.profiles.length = 4 ∧
      (∀ n : Fin 32, ((withScreen 9 id).screen n).mode = .edit → ∀ c ∈ ((withScreen 9 id).line n).config, c.profile ≠ 3) ∧
      (9 < (withScreen 9 id).screens.length ∧ ((withScreen 9 id).screen 9).mode ≠ .down ∧
        ((withScreen 9 id).screen 9).blanked = false ∧ ∃ c ∈ ((withScreen 9 id).line 9).config, c.profile = 0) ∧
      ((withScreen 9 fun c => { c with mode := .edit }).screen 9).mode = .edit ∧
      ((withScreen 9 fun c => { c with mode := .edit }).line 9).config = some lineConfig ∧ lineConfig.profile = 0 := by
  decide +kernel

theorem test_meets_HostMessagesReachScreens :
    (List.replicate 80 (0x7E : Byte)).length ≤ 80 ∧ (List.replicate 80 (0x7E : Byte)).all printable = true ∧
      4294967295 < 4294967296 ∧ State.reset.screens.length = 32 := by decide +kernel

/-- Screen 9 in a given state at desk 3, with story 0, whose record is x. -/
def withStoryAt (x : Story) (f : Screen → Screen) : State :=
  { withStory x with
    lines := List.replicate 32 lineUp
    screens := State.reset.screens.modify 9 fun c => f { c with desk := some 3 } }

def viewing (c : Screen) : Screen := { c with mode := .view, story := some (0, .viewer) }
def owning (c : Screen) : Screen := { c with mode := .edit, story := some (0, .owner) }
def atDesk (c : Screen) : Screen := { c with mode := .desk, selection := some (0, 0) }

theorem test_meets_LinesAreConfigured :
    State.reset.lines.length = 32 ∧ State.reset.screens.length = 32 ∧ (State.reset.line 31).config = none ∧
      Parity.ofCode 0 = some lineConfig.parity ∧ lineConfig.rate < 6 ∧ lineConfig.dataBits = 8 ∧ lineConfig.stopBits = 1 ∧
      LineConfig.storedOver (some lineConfig) 2 { lineConfig with deadThreshold := 4294967295, grace := 0 } =
        { lineConfig with deadThreshold := 100 } ∧
      lineStatus 2 { lineConfig with deadThreshold := 101 } = 0x01 ∧ lineStatus 5 { lineConfig with deadThreshold := 101 } = 0x00 ∧
      ((withScreen 9 id).line 9).config = some lineConfig ∧ ((withScreen 9 id).screen 9).mode ≠ .edit ∧
      ((withScreen 9 id).screen 9).mode ≠ .down ∧ ((withScreen 9 fun c => { c with blanked := true }).screen 9).blanked = true ∧
      (lineConfig.profile ≠ { lineConfig with profile := 3 }.profile) ∧
      ((withScreen 9 fun c => { c with mode := .edit }).screen 9).mode = .edit ∧
      lineConfig.stopBits ≠ { lineConfig with stopBits := 2 }.stopBits ∧
      ((withStoryAt story owning).screen 9).story = some (0, .owner) ∧
      ((withStoryAt story viewing).screen 9).story = some (0, .viewer) ∧ (withStoryAt story owning).story 0 = some story ∧
      story.desk < (withStoryAt story owning).baskets.length ∧ ((withScreen 9 id).screen 9).story = none := by decide +kernel

theorem test_meets_ScreensSignOff :
    (let s := withStoryAt { story with viewers := [9] } viewing
     s.host.reply = none ∧ 9 < s.screens.length ∧ (s.screen 9).mode = .view ∧
      (s.screen 9).story = some (0, .viewer) ∧ s.story 0 = some { story with viewers := [9] }) ∧
    ((withStoryAt story owning).screen 9).mode = .edit ∧ ((withScreen 31 id).screen 31).mode = .signedOff ∧
    (∀ k : Fin 2, ((withStoryAt story atDesk).screen 9).story ≠ some (k.val, .viewer)) := by decide +kernel

theorem test_meets_ScreensSignOff_key :
    (withStoryAt story atDesk).atKeys 9 .desk .closed 0 ∧
      ∀ k, ((withStoryAt story atDesk).screen 9).story ≠ some (k, .viewer) := by
  refine ⟨?_, fun k => by rw [show ((withStoryAt story atDesk).screen 9).story = none by decide +kernel]; simp⟩
  unfold State.atKeys State.noKeyWaits
  decide +kernel

theorem test_meets_DesksAreDefinedAndRouted :
    State.reset.desks.length = 16 ∧ (str "Copy-2 X").length ≤ 8 ∧ ((str "Copy-2 X").map foldCase).all isNameCode = true ∧
      (str "Copy-2 X").head? ≠ some 0x20 ∧ (str "4471").length = 4 ∧ (str "4471").all isDigit = true ∧
      (withStory story).desk 3 = some desk ∧ Nat.testBit 0x20 3 = false ∧ Nat.testBit 0x20 5 = true ∧
      Nat.testBit 0x08 3 = true ∧ Nat.testBit 0x20 6 = false ∧
      (style.face < 256 ∧ style.leading < 65536) := by decide +kernel

theorem test_meets_FacesAreLoaded :
    State.reset.fit.faces.length = 8 ∧ (withStory story).stories.length = 512 ∧
      (List.replicate 47 (54 : Byte)).length = 47 ∧ (withStory story).settingQueue = [] ∧
      (∀ p < 32, ∀ g ∈ (withStory story).page p, g.state ≠ .setting) ∧ (withStory story).story 0 = some story ∧
      story.style.face = 2 ∧ story.style.face ≠ 7 ∧ (∀ h ∈ story.head, h.style.face ≠ 7) ∧
      ({ State.reset with settingQueue := [31] }).settingQueue ≠ [] ∧
      (∃ p < 32, ∃ g ∈ (withSetting .sent 1 true).page p, g.state = .setting) := by decide +kernel

theorem test_meets_FitsAreAskedFor :
    (withStory story).host.reply = none ∧ (withStory story).story 0 = some story ∧
      (let s := { withStory story with fit := { FitUnit.reset with refit := [⟨0, 1016⟩] }, clock := ⟨1016, 0, 10⟩ }
       s.fit.refit = ⟨0, 1016⟩ :: [] ∧ 1016 ≤ s.clock.steps) ∧
      (let s := { withStory story with fit := { FitUnit.reset with refit := [⟨0, 1016⟩] }, clock := ⟨1015, 0, 10⟩ }
       ∀ e ∈ s.fit.refit.head?, s.clock.steps < e.due) ∧
      (withStoryAt { story with state := .open_, owner := some 9 } owning).editing 9 0
        { story with state := .open_, owner := some 9 } := by
  unfold State.editing State.atKeys State.noKeyWaits
  decide +kernel

def pass (version : BitVec 32) : Pass := ⟨0, version, 2, none, 0, 2⟩

def withPass : State := { withStory story with fit := { (withStory story).fit with pass := some (pass 7) } }

/-- The figures of the text "mw" of R75's example: two lines, of which one is overfull. -/
theorem test_meets_PassesWriteMatchingFigures :
    (withPass.fit.pass = some (pass 7) ∧ withPass.fit.queue = [] ∧ withPass.story (pass 7).story = some story ∧
      story.version = (pass 7).version ∧ (withPass.face story.style.face).generation = (pass 7).bodyGen ∧
      (∀ g ∈ (pass 7).headGen, ∃ h ∈ story.head, (withPass.face h.style.face).generation = g) ∧
      story.version ≠ (pass 6).version) ∧
    (let s := { withPass with fit := { withPass.fit with queue := [0] } }
     (s.fit.queue.find? s.placed).or s.fit.queue.head? = some 0 ∧ s.facesDefined story = true) ∧
    ((bodyLines face { style with indent := 50 } (str "mw")).map fun l => (l.text.length, l.overfull)) =
      [(1, true), (1, false)] :=
  ⟨⟨rfl, rfl, rfl, rfl, rfl, by simp [pass], by decide⟩, by decide +kernel, by decide +kernel⟩

/-! ## The link and its proof as the host sets them -/

theorem test_meets_LinksAreConfigured :
    State.reset.link.config = none ∧ (withLink id).link.config = some linkConfig ∧ (withLink id).settingQueue = [] ∧
      (withLink id).link.cond = .up ∧ linkConfig.rate ≠ { linkConfig with rate := 6 }.rate ∧ linkConfig.rate < 7 ∧
      5 ≤ linkConfig.ackTimeout ∧ linkConfig.ackTimeout ≤ 100 ∧ 10 ≤ linkConfig.lossLimit ∧
      linkConfig.lossLimit ≤ 3600 ∧ 5 ≤ linkConfig.acquireInterval ∧ linkConfig.acquireInterval ≤ 100 ∧
      linkConfig.losAssert ≤ 255 ∧ linkConfig.losClear ≤ 255 ∧ 1 ≤ linkConfig.poorAssert ∧
      linkConfig.poorAssert ≤ linkConfig.poorClear ∧ linkConfig.poorClear ≤ 32 := by decide +kernel

def request : ProofRequest := ⟨.fixed 0x55555555, none, 5, false⟩

/-- A proof in a state, of a request, on a link that is UP. -/
def withProof (st : ProofState) (r : ProofRequest) (f : Proof → Proof) : State :=
  { withLink (fun l => { l with activity := .proving, returnBits := true }) with
    proof := f { Proof.reset with state := st, request := some r } }

theorem test_meets_ProofsStartAndStop :
    request.pattern.code = 2 ∧ timebaseOfCode 3 = some request.timebase ∧
      (0x55555555#32 ≠ 0 ∧ 0x55555555#32 ≠ BitVec.allOnes 32 ∧ 0x55555555 = (0x55555555#32).toNat) ∧
      (withLink id).link.activity = .idle ∧ (withLink id).link.cond = .up ∧
      (withSetting .sent 1 true).link.activity ≠ .idle ∧ State.reset.link.activity = .idle ∧
      State.reset.link.cond ≠ .up ∧ (withProof .counting request id).proof.state ≠ .idle ∧
      (withProof .counting request id).proof.request = some request ∧ State.reset.proof.state = .idle := by decide +kernel

/-! ## Stories -/

theorem risingFrom_add (a b : Nat) : ∀ k, risingFrom k a ++ risingFrom (k + a) b = risingFrom k (a + b) := by
  induction a with
  | zero => intro k; simp [risingFrom]
  | succ a ih =>
    intro k
    rw [show a + 1 + b = (a + b) + 1 by omega, risingFrom, risingFrom, List.cons_append, ← ih,
      show k + 1 + a = k + (a + 1) by omega]

/-- A state whose one chain, story 0's, is of the first blocks. -/
def withChain (s : State) (c : Chain) : State :=
  { s with store := ⟨risingFrom c.length (16384 - c.length), c :: List.replicate 511 []⟩ }

theorem storeWhole_withChain (s : State) (c : Chain) (x : Story) (hl : s.stories.length = 512) (hs : s.story 0 = some x)
    (hn : c.nums = risingFrom 0 c.length) (hc : c.length ≤ 16384) (h3 : c.count ≤ 30000) (hf : c.full) :
    StoreWhole (withChain s c) := by
  refine ⟨hl, (List.length_cons).trans (by rw [List.length_replicate]), ?_, ?_, ?_⟩
  · have hr : (List.replicate 511 ([] : Chain)).flatMap Chain.nums = [] :=
      List.flatMap_eq_nil_iff.2 fun d hd => by rw [List.eq_of_mem_replicate hd]; rfl
    simp only [withChain, List.flatMap_cons, hr, List.append_nil, hn]
    refine List.perm_append_comm.trans (List.Perm.of_eq ?_)
    have := risingFrom_add c.length (16384 - c.length) 0
    rwa [Nat.zero_add, Nat.add_sub_cancel' hc] at this
  · intro d hd
    simp only [withChain, List.mem_cons, List.mem_replicate] at hd
    rcases hd with rfl | ⟨-, rfl⟩
    · exact ⟨h3, hf⟩
    · exact ⟨by simp, by simp⟩
  · intro n hne
    cases n with
    | zero => exact absurd (hs.symm.trans hne) (by simp)
    | succ n =>
      simp only [State.chain, withChain, List.getD_eq_getElem?_getD, List.getElem?_cons_succ, List.getElem?_replicate]
      split <;> rfl

/-- A text of 64 characters a block, and fewer in the last. -/
def blocksFrom (n : Nat) (last : Nat) : Chain :=
  (risingFrom 0 n).map (fun k => ⟨k, List.replicate 64 0x41⟩) ++ [⟨n, List.replicate last 0x41⟩]

theorem length_risingFrom (n : Nat) : ∀ k, (risingFrom k n).length = n := by
  induction n with
  | zero => intro _; rfl
  | succ n ih => intro k; simp [risingFrom, ih]

theorem nums_blocksFrom (n last : Nat) : (blocksFrom n last).nums = risingFrom 0 (n + 1) := by
  rw [← risingFrom_add n 1 0]
  simp [blocksFrom, Chain.nums, risingFrom, Function.comp_def]

theorem full_blocksFrom (n last : Nat) (h : 1 ≤ last ∧ last ≤ 64) : (blocksFrom n last).full := by
  intro b hb
  simp only [blocksFrom, List.mem_append, List.mem_map, List.mem_singleton] at hb
  rcases hb with ⟨_, _, rfl⟩ | rfl
  · simp
  · simpa using h

theorem count_blocksFrom (n last : Nat) : (blocksFrom n last).count = 64 * n + last := by
  simp [Chain.count, blocksFrom, Function.comp_def, List.map_const', length_risingFrom, Nat.mul_comm]

theorem storeWhole_blocksFrom (s : State) (n last : Nat) (x : Story) (hl : s.stories.length = 512)
    (hs : s.story 0 = some x) (hlast : 1 ≤ last ∧ last ≤ 64) (hn : 64 * n + last ≤ 30000) :
    StoreWhole (withChain s (blocksFrom n last)) := by
  have hlen : (blocksFrom n last).length = n + 1 := by simp [blocksFrom, length_risingFrom]
  exact storeWhole_withChain s _ x hl hs (by rw [nums_blocksFrom, hlen]) (by omega) (by rw [count_blocksFrom]; omega)
    (full_blocksFrom n last hlast)

/-- Story 0 with a text of 1 character, and with one of 30,000. -/
def short : State := withChain (withStory story) (blocksFrom 0 1)
def longest : State := withChain (withStory story) (blocksFrom 468 48)

theorem count_longest : longest.count 0 = 30000 := count_blocksFrom 468 48

theorem test_meets_RefusedRequestsChangeNothing :
    catalogue 0x02 = some reqTimeSet ∧ (reqTimeSet (be 4 86400) State.reset).2 = [0x05] ∧
      catalogue 0x40 = some reqStoryLoad ∧ (reqStoryLoad [] short).2 = [0x04] ∧ StoreWhole short := by
  refine ⟨rfl, ?_, rfl, ?_,
    storeWhole_blocksFrom (withStory story) 0 1 story (by decide +kernel) (story_withStory _ 0) (by omega) (by omega)⟩ <;>
    decide +kernel

theorem test_meets_EveryStepKeepsTheStoreWhole :
    ∃ t, StoreWhole short ∧ step { short with pending := [.storyAppend 0 (be 2 0 ++ textField 2 (str "ab"))] } = .next t ∧
      StoreWhole { short with pending := [.storyAppend 0 (be 2 0 ++ textField 2 (str "ab"))] } := by
  have h := storeWhole_blocksFrom (withStory story) 0 1 story (by decide +kernel) (story_withStory _ 0) (by omega) (by omega)
  exact ⟨_, h, rfl, h⟩

/-- The state after reset with the edition at its end and its rollover waiting. -/
def atRollover : State := { State.reset with edition := ⟨99, true⟩, pending := [.editionRollover 0 [1]] }

theorem story_atRollover (m : Nat) : atRollover.story m = none := by
  unfold atRollover State.story State.reset
  rw [List.getD_eq_getElem?_getD, List.getElem?_replicate]
  split <;> rfl

theorem test_meets_EveryStepStaysWithinLimits :
    ∃ t, step atRollover = .next t ∧ WithinLimits atRollover ∧ CopyConsistent atRollover ∧ ListsWithinLimits atRollover := by
  refine ⟨_, rfl, ?_, ?_, ?_⟩
  · unfold WithinLimits; decide +kernel
  · refine ⟨by decide +kernel, ⟨by decide +kernel, ?_⟩, ?_, ⟨fun n => ⟨?_, ?_, ?_⟩, ?_⟩, ?_⟩
    · simp [story_atRollover]
    · simp [FitsHold, story_atRollover]
    · revert n; unfold Screen.holds; decide +kernel
    · revert n; unfold Line.holds; decide +kernel
    · revert n; decide +kernel
    · simp [story_atRollover]
    · unfold PagesHold; decide +kernel
  · have hunts : atRollover.link.receiver = .hunting := rfl
    simp only [ListsWithinLimits, hunts, and_true]
    decide +kernel

/-- Story 0 is OPEN at screen 9 and viewed at screen 31; every line is UP. -/
def shared : State :=
  { withStory { story with state := .open_, owner := some 9, viewers := [31] } with
    lines := List.replicate 32 lineUp
    screens := ((State.reset.screens.map fun c => { c with mode := .signedOff }).modify 9 fun c =>
      { owning c with desk := some 3 }).modify 31 fun c => { viewing c with desk := some 3 } }

theorem test_meets_ScreensResetSignsEveryScreenOff_stories :
    CopyConsistent shared ∧ (shared.screen 9).story = some (0, .owner) ∧ (shared.screen 31).story = some (0, .viewer) ∧
      (shared.line 31).config ≠ none ∧ (shared.story 0).isSome = true := by
  have read (m : Nat) : shared.story m = if m = 0 then _ else none := story_withStory _ m
  refine ⟨⟨by decide +kernel, ⟨by decide +kernel, ?_⟩, ?_, ⟨fun n => ⟨?_, ?_, ?_⟩, ?_⟩, ?_⟩, by decide +kernel⟩
  · intro n _ x hx
    rw [read] at hx
    split at hx <;> cases hx
    exact ⟨by decide, fun h => by cases h <;> contradiction⟩
  · intro n _ x hx r hr
    rw [read] at hx
    split at hx <;> cases hx
    cases hr
  · revert n; unfold Screen.holds; decide +kernel
  · revert n; unfold Line.holds; decide +kernel
  · revert n; decide +kernel
  · intro n _ x hx
    rw [read] at hx
    split at hx <;> cases hx
    subst n
    decide +kernel
  · unfold PagesHold; decide +kernel

theorem test_meets_EveryStepKeepsAttentionConsistent :
    ∃ t, AttentionConsistent { (State.reset.raiseFor .lineDown 31) with pending := [.attentionRead 0 (be 2 0x40)] } ∧
      step { (State.reset.raiseFor .lineDown 31) with pending := [.attentionRead 0 (be 2 0x40)] } = .next t := by
  refine ⟨_, ?_, rfl⟩
  unfold AttentionConsistent
  decide +kernel

theorem test_meets_EveryStepKeepsTheLinkConsistent :
    ∃ t, LinkConsistent { withLink (fun l => { l with held := true }) with pending := [.losWindowEnd false] } ∧
      step { withLink (fun l => { l with held := true }) with pending := [.losWindowEnd false] } = .next t := by
  refine ⟨_, ?_, rfl⟩
  unfold LinkConsistent
  decide +kernel

theorem withinLimits_short : WithinLimits short := by
  unfold WithinLimits
  decide +kernel

theorem test_meets_LoadedStoriesFillARecord :
    short.host.reply = none ∧ ((str "mayor-2").map foldCase).all isSlugCode = true ∧ (str "mayor-2").length ≤ 12 ∧
      short.desk 3 = some desk ∧ Priority.ofCode 0 = some .flash ∧ Priority.ofCode 3 = some .routine ∧
      (∀ m x, short.story m = some x → x.slug ≠ (str "mayor-2").map foldCase) ∧ short.story 1 = none ∧
      (∀ m < 1, (short.story m).isSome = true) ∧ StoreWhole short ∧ WithinLimits short ∧
      (960 + 63) / 64 ≤ short.store.free.length ∧ (short.basket 3).length < 64 ∧
      (short.screen 9).signedOnAt 3 = false ∧
      ((withStoryAt story atDesk).screen 9).signedOnAt 3 = true := by
  have h := storeWhole_blocksFrom (withStory story) 0 1 story (by decide +kernel) (story_withStory _ 0) (by omega) (by omega)
  refine ⟨rfl, by decide, by decide, rfl, rfl, rfl, fun m x hx => ?_, ?_, ?_, h, withinLimits_short, ?_, ?_, ?_, ?_⟩
  · have hs : (withStory story).story m = some x := hx
    rw [story_withStory] at hs
    split at hs
    · cases hs; decide
    · cases hs
  all_goals decide +kernel

theorem test_meets_AppendedTextFollows :
    short.story 0 = some story ∧ StoreWhole short ∧ short.count 0 + 1000 ≤ 30000 ∧ longest.story 0 = some story ∧
      (1000 + 63) / 64 ≤ short.store.free.length ∧ StoreWhole longest ∧ 30000 < longest.count 0 + 1 ∧
      story.state = .queued ∧ { story with state := StoryState.open_ }.state ≠ .queued := by
  have h := storeWhole_blocksFrom (withStory story) 0 1 story (by decide +kernel) (story_withStory _ 0) (by omega) (by omega)
  have g := storeWhole_blocksFrom (withStory story) 468 48 story (by decide +kernel) (story_withStory _ 0) (by omega)
    (by omega)
  refine ⟨rfl, h, ?_, rfl, ?_, g, by rw [count_longest]; omega, rfl, by decide⟩ <;> decide +kernel

theorem offPress_story : OffPress (withStory story) story := by simp [OffPress, story]

theorem test_meets_StylesAndHeadlinesAreStored :
    (withStory story).story 0 = some story ∧ OffPress (withStory story) { story with state := .set_ } ∧ style.carried ∧
      { style with face := 7 }.carried ∧
      overlayStyle 0 story.style (clampStyle style) = story.style ∧
      overlayStyle 1 story.style (clampStyle { style with face := 7 }) ≠ story.style ∧
      story.head.getD ⟨[], { story.style with indent := 0 }, 1⟩ = ⟨[], style, 1⟩ ∧
      overlayStyle (33 % 32) style (clampStyle { style with face := 7, leading := 999 }) = { style with face := 7 } ∧
      Nat.testBit 33 5 = true ∧ max 1 (min 255 4) = 4 ∧
      story.head ≠ some ⟨(List.replicate 120 0x41).map toCopyCode, { style with face := 7 }, 4⟩ ∧
      { story with head := some ⟨str "X", style, 1⟩ }.head =
        some ⟨(str "X").map toCopyCode, { overlayStyle (0 % 32) style (clampStyle style) with indent := 0 }, 1⟩ ∧
      (List.replicate 120 (0x41 : Byte)).length ≤ 120 ∧ story.head = none ∧
      { story with state := StoryState.setting }.state = .setting := by
  refine ⟨rfl, by simp [OffPress, story], ?_⟩
  unfold Style.carried
  decide +kernel

theorem test_meets_MovedStoriesChangeBaskets :
    (withStory story).story 0 = some story ∧ ((withStory story).desk 3).isSome = true ∧ story.state = .queued ∧
      (withStory story).baskets.length = 16 ∧ { story with desk := 0 }.desk ≠ 3 ∧
      ((withStory story).basket 3).length < 64 ∧ story.desk = 3 ∧
      64 ≤ (({ withStory story with baskets := [[], [], [], List.replicate 64 ⟨1, 0, false⟩] }).basket 3).length := by
  decide +kernel

theorem test_meets_StoriesAreSpikedAndRevised :
    (withStory story).story 0 = some story ∧ OffPress (withStory story) story ∧ story.state = .queued ∧
      (withStory story).screens.length = 32 ∧ (withStory story).baskets.length = 16 ∧
      (let s := withStoryAt { story with state := .open_, owner := some 9 } owning
       (s.screen 9).grace = none ∧ (s.screen 9).desk = some 3) ∧
      (let s := withStoryAt { story with state := .open_, owner := some 9 } fun c => { owning c with grace := some 0 }
       (s.screen 9).grace ≠ none) ∧
      OffPress (withStory { story with state := .set_ }) { story with state := .set_ } ∧
      (withStory story).edition.closed = false ∧ story.desk < 16 ∧ ((withStory story).basket 3).length < 64 ∧
      ({ State.reset with edition := ⟨1, true⟩ }).edition.closed = true := by
  refine ⟨rfl, offPress_story, rfl, ?_, ?_, ?_, ?_, by simp [OffPress, story], ?_⟩ <;> decide +kernel

theorem test_meets_PurgedStoriesAreForgotten :
    (withSetting .sent 1 true).story 0 = some { story with state := .setting, placement := some (12, 3) } ∧
      OffPress (withStory { story with state := .set_ }) { story with state := .set_ } ∧
      { story with state := StoryState.spiked }.state = .spiked ∧ (withStory story).screens.length = 32 ∧
      (withStory story).store.chains.length = 512 ∧
      { story with placement := some (12, 3) }.placement = some (12, 3) ∧
      (withSetting .sent 1 true).page 12 = some (page .setting) ∧ story.placement = none ∧
      (9 : Nat) ∈ { story with viewers := [9] }.viewers ∧
      ((withStoryAt { story with viewers := [9] } viewing).screen 9).desk = some 3 := by
  refine ⟨rfl, by simp [OffPress, story], ?_⟩
  decide +kernel

/-! ## Pages -/

def slots : List Slot := (List.range 16).map fun k => ⟨15 - k, 35, 120, none⟩

def withPage (g : Page) (x : Story) : State :=
  { withStory x with pages := State.reset.pages.set 12 (some g) }

def fitted : Story :=
  { story with
    placement := some (12, 3)
    fit := some ⟨true, 3, 0, 0, 120, false, false, 7, 2, none⟩ }

theorem test_meets_PagesAreDefined :
    State.reset.pages.length = 32 ∧ (str "Final 2-").length ≤ 8 ∧ ((str "Final 2-").map foldCase).all isNameCode = true ∧
      slots.length ≤ 16 ∧ (slots.map Slot.num).Nodup ∧
      (∀ k ∈ slots, k.num < 16 ∧ k.measure < 65536 ∧ k.allowance < 65536 ∧ k.story = none) ∧ State.reset.page 31 = none ∧
      (withPage (page .open_) fitted).page 12 = some (page .open_) ∧ (page .open_).state = .open_ ∧
      (∃ o ∈ (page .open_).slots, o.story = some 0 ∧ (withPage (page .open_) fitted).story 0 = some fitted ∧
        fitted.placement = some (12, o.num) ∧ ∀ z ∈ ([] : List Slot), z.num ≠ o.num) ∧
      (page .waiting).state ≠ .open_ := by decide +kernel

theorem test_meets_StoriesArePlaced :
    (let g : Page := { page .open_ with slots := [⟨15, 37, 120, none⟩] }
     (withPage g story).page 12 = some g ∧ g.state = .open_ ∧
      g.slots.find? (fun o => o.num == 15) = some ⟨15, 37, 120, none⟩ ∧ (withPage g story).story 0 = some story ∧
      story.placement = none ∧ story.state ≠ .spiked ∧ story.style.measure ≠ 37 ∧ fitted.placement ≠ none) ∧
    (page .open_).slots.find? (fun o => o.num == 3) = some ⟨3, 36, 120, some 0⟩ ∧ story.style.measure = 36 ∧
      fitted.placement = some (12, 3) := by decide +kernel

/-- Screen 9 at desk 3, a composing one or not, with a page prompt open that holds some digits. -/
def atPagePrompt (p : Prompt) (digits : List Byte) (composing : Bool) (g : Page) : State :=
  { withStoryAt fitted fun c => { atDesk c with prompt := p, buffer := digits } with
    desks := State.reset.desks.set 3 (some { desk with composing := composing })
    pages := State.reset.pages.set 12 (some g) }

theorem releasable_page (s : State) (hp : s.page 12 = some (page .open_)) (hs : s.story 0 = some fitted)
    (hc : s.edition.closed = false) (hq : s.settingQueue.length < 8) (hl : s.settingQueue ≠ [] → s.link.mayTake = false) :
    Releasable s 12 (page .open_) := by
  refine ⟨hp, rfl, hc, by decide, fun z hz m hm => ?_, hq, hl⟩
  simp only [page, List.mem_singleton] at hz
  subst hz
  cases hm
  exact ⟨fitted, _, hs, .inl rfl, rfl, rfl, rfl, by decide⟩

theorem test_meets_PagesAreReleased :
    (let s := { withPage (page .open_) fitted with settingQueue := [1, 2, 3, 4, 5, 6, 7] }
     s.host.reply = none ∧ Releasable s 12 (page .open_) ∧ s.link.cond ≠ .up) ∧
    (let s := { withPage (page .open_) fitted with link := (withLink id).link }
     Releasable s 12 (page .open_) ∧ s.link.cond = .up ∧ s.link.activity = .idle ∧ s.link.poor = false ∧ s.link.held = false ∧
      s.settingQueue = [] ∧ (page .open_).label.length ≤ 8) ∧
    (withLink fun l => { l with held := true }).link.held = true ∧
    ((page .open_).slots = [⟨3, 36, 120, some 0⟩] ∧ 119 < 120) ∧
    (let s := atPagePrompt .pageRelease (str "12") true (page .open_)
     s.atKeys 9 .desk .pageRelease 0 ∧ (∃ d, (s.screen 9).desk = some d ∧ ∃ k ∈ s.desk d, k.composing = true) ∧
      (s.screen 9).buffer ≠ [] ∧ ofDigits (s.screen 9).buffer = 12 ∧ Releasable s 12 (page .open_)) ∧
    (let s := atPagePrompt .pageRelease (str "32") false (page .open_)
     s.atKeys 9 .desk .pageRelease 0 ∧ (s.desk 3).all (fun k => !k.composing) = true ∧ 31 < ofDigits (s.screen 9).buffer) := by
  refine ⟨⟨rfl, releasable_page _ (by decide +kernel) rfl rfl (by decide) (by decide +kernel), by decide +kernel⟩,
    ⟨releasable_page _ (by decide +kernel) rfl rfl (by decide) (by decide +kernel), ?_⟩, ?_, ?_,
    ⟨?_, ⟨3, rfl, _, rfl, rfl⟩, ?_, ?_, releasable_page _ (by decide +kernel) rfl rfl (by decide) (by decide +kernel)⟩, ?_⟩ <;>
    (try unfold State.atKeys State.noKeyWaits) <;> decide +kernel

theorem test_meets_PagesAreAborted :
    (withPage (page .waiting) fitted).page 12 = some (page .waiting) ∧ (page .waiting).state = .waiting ∧
      (let s := withSetting .sent 1 true
       s.page 12 = some (page .setting) ∧ s.link.setting = some (settingPage (block .sent 1 true)) ∧
        (settingPage (block .sent 1 true)).page = 12 ∧ s.link.cond = .up ∧ s.link.held = false ∧ s.settingQueue = []) ∧
      { (withSetting .sent 1 true).link with held := true }.held = true ∧ (page .open_).state = .open_ ∧
      (let s := atPagePrompt .pageAbort (str "12") true (page .waiting)
       s.atKeys 9 .desk .pageAbort 0 ∧ (∃ k ∈ s.desk 3, k.composing = true) ∧ (s.screen 9).desk = some 3 ∧
        (s.screen 9).buffer ≠ [] ∧ ofDigits (s.screen 9).buffer = 12 ∧ s.page 12 = some (page .waiting)) ∧
      (let s := atPagePrompt .pageAbort [] false (page .waiting)
       s.atKeys 9 .desk .pageAbort 0 ∧ (∀ k ∈ s.desk 3, k.composing = false) ∧ (s.screen 9).buffer = []) := by
  unfold State.atKeys State.noKeyWaits
  decide +kernel

theorem test_meets_EditionsRollOver :
    (let s := { withPage (page .set_) fitted with edition := ⟨98, true⟩ }
     s.edition.closed = true ∧ (∀ o ∈ s.pages, ∀ g ∈ o, g.state ≠ .waiting ∧ g.state ≠ .setting) ∧ s.edition.number < 99) ∧
    State.reset.edition.closed = false ∧
    (∃ o ∈ (withPage (page .waiting) fitted).pages, ∃ g ∈ o, g.state = .waiting ∨ g.state = .setting) ∧
    99 ≤ ({ State.reset with edition := ⟨99, true⟩ }).edition.number := by decide +kernel

/-! ## Timers and lines -/

theorem test_meets_TimeAdvancesAndEscalates :
    (∀ d < 16, ∀ k ∈ State.reset.desk d, k.waitLimit ≠ 0 → ∀ y ∈ State.reset.basket d, y.escalated = true) ∧
      (let s := { withStory story with baskets := [[], [], [], [⟨0, 84601, false⟩]] }
       s.desk 3 = some desk ∧ desk.waitLimit ≠ 0 ∧ s.basket 3 = [] ++ ⟨0, 84601, false⟩ :: [] ∧ s.story 0 = some story ∧
        story.priority = .routine ∧ 60 * desk.waitLimit ≤ ageAt ((s.clock.time + 1) % 86400) 84601 ∧
        (∀ d' < 16, ∀ k' ∈ s.desk d', k'.waitLimit ≠ 0 → ∀ y ∈ s.basket d', d' = 3 ∧ y = ⟨0, 84601, false⟩)) := by
  decide +kernel

theorem test_meets_ScreenTimersExpire :
    (let s := withScreen 31 fun c => { c with idle := some 0, ringTimer := some 0, ring := [0] }
     31 < s.screens.length ∧ (s.screen 31).idle.isSome = true ∧ (s.screen 31).mode ≠ .down ∧
      (s.screen 31).blanked = false ∧ (s.screen 31).ringTimer.isSome = true ∧ (s.screen 31).ring ≠ []) ∧
    ((withScreen 31 fun c => { c with ringTimer := some 0 }).screen 31).ring = [] ∧
    (State.reset.screen 0).idle = none ∧ (State.reset.screen 0).ringTimer = none ∧ (State.reset.screen 0).grace = none ∧
    (let s := withStoryAt { story with state := .open_, owner := some 9 } fun c =>
        { c with grace := some 0, story := some (0, .owner) }
     (s.screen 9).grace.isSome = true ∧ (s.screen 9).story = some (0, .owner) ∧ story.desk < s.baskets.length ∧
      (s.basket 3).length < 64) ∧
    64 ≤ (({ State.reset with baskets := [List.replicate 64 ⟨1, 0, false⟩] }).basket 0).length := by decide +kernel

def withLine (l : Line) : State := { withScreen 31 id with lines := List.replicate 32 l }

theorem test_meets_ReceivedFramesAreJudged :
    (let s := withScreen 31 id
     (s.line 31).config = some lineConfig ∧ 31 < s.lines.length ∧ 31 < s.screens.length ∧ (s.line 31).breakTimer = none ∧
      (s.line 31).state = .up ∧ lineConfig.parity = .none ∧ (s.line 31).queue.length < 8) ∧
    lineConfig.parityAgrees ⟨0x41, false, true⟩ = true ∧
    { lineConfig with parity := .even }.parityAgrees ⟨0x41, true, true⟩ = false ∧
    ((withLine { lineUp with queue := List.replicate 8 .brk }).line 31).holding = none ∧
    8 ≤ ((withLine { lineUp with queue := List.replicate 8 .brk }).line 31).queue.length ∧
    ((withLine { lineUp with queue := List.replicate 8 .brk, holding := some .brk }).line 31).holding.isSome = true ∧
    ((withLine { lineUp with state := .dead }).line 31).state = .dead := by decide +kernel

theorem test_meets_BreaksEndOrKillTheLine :
    ((withLine { lineUp with breakTimer := some 0 }).line 31).config = some lineConfig ∧
      ((withLine { lineUp with breakTimer := some 0 }).line 31).breakTimer.isSome = true ∧
      ((withLine { lineUp with breakTimer := some 0 }).line 31).queue.length < 8 ∧ ((withScreen 31 id).line 31).breakTimer = none ∧
      (let l := { lineUp with breakTimer := some 0, queue := List.replicate 8 .brk }
       8 ≤ ((withLine l).line 31).queue.length ∧ ((withLine l).line 31).holding = none ∧
        ((withLine { l with holding := some .brk }).line 31).holding.isSome = true ∧ l.overrun = false) ∧
      State.reset.host.enabled .lineError = true ∧
      ((withStoryAt story owning).screen 9).mode = .edit ∧ ((withStoryAt story viewing).screen 9).mode ≠ .edit ∧
      ((withStoryAt story viewing).screen 9).grace = none ∧
      ((withStoryAt story viewing).screen 9).story = some (0, .viewer) ∧ (withStoryAt story viewing).story 0 = some story ∧
      State.reset.host.enabled .lineDown = true := by decide +kernel

/-! ## Keys -/

def owned : Story := { story with state := .open_, owner := some 9 }

theorem length_withStoryAt (x : Story) (f : Screen → Screen) : (withStoryAt x f).screens.length = 32 :=
  (List.length_modify ..).trans List.length_replicate

theorem editing_owned (c : Nat) :
    (withStoryAt owned fun d => { owning d with cursor := c }).editing 9 0 owned ∧
      ((withStoryAt owned fun d => { owning d with cursor := c }).screen 9).cursor = c := by
  unfold State.editing State.atKeys State.noKeyWaits
  refine ⟨⟨⟨?_, rfl, by rw [length_withStoryAt]; decide, rfl, rfl, rfl, rfl⟩, rfl, rfl, rfl, rfl⟩, rfl⟩
  intro l hl
  rw [show (withStoryAt owned fun d => { owning d with cursor := c }).lines = List.replicate 32 lineUp from rfl] at hl
  rw [List.eq_of_mem_replicate hl]
  rfl

/-- Screen 9 edits story 0, of n full blocks and one of a given length, with its cursor at c. -/
def typing (n last c : Nat) : State := withChain (withStoryAt owned fun d => { owning d with cursor := c }) (blocksFrom n last)

theorem typing_editing (n last c : Nat) : (typing n last c).editing 9 0 owned := (editing_owned c).1

theorem typing_cursor (n last c : Nat) : ((typing n last c).screen 9).cursor = c := rfl

theorem typing_count (n last c : Nat) : (typing n last c).count 0 = 64 * n + last := count_blocksFrom n last

theorem typing_whole (n last c : Nat) (h : 1 ≤ last ∧ last ≤ 64) (hn : 64 * n + last ≤ 30000) :
    StoreWhole (typing n last c) :=
  storeWhole_blocksFrom _ n last owned (show (withStory owned).stories.length = 512 by decide +kernel) rfl h hn

theorem test_meets_EditKeysChangeTheText :
    (typing 0 1 0).editing 9 0 owned ∧ StoreWhole (typing 0 1 0) ∧ (typing 0 1 0).store.free ≠ [] ∧
      (typing 0 1 0).count 0 < 30000 ∧ printable 0x20 = true ∧
      (0x20 : Byte) ≠ ((typing 0 1 0).screen 9).profile.superCode ∧ ((typing 0 1 0).screen 9).cursor = 0 ∧
      (typing 0 1 1).editing 9 0 owned ∧ StoreWhole (typing 0 1 1) ∧ ((typing 0 1 1).screen 9).cursor = 1 ∧
      (typing 0 1 1).count 0 ≤ 1 ∧ 0 < 1 ∧ 1 ≤ (typing 0 1 1).count 0 ∧ 0 < (typing 0 1 0).count 0 ∧
      (typing 468 48 0).editing 9 0 owned ∧ StoreWhole (typing 468 48 0) ∧ 30000 ≤ (typing 468 48 0).count 0 := by
  simp only [typing_count, typing_editing, typing_cursor, typing_whole 0 1 _ (by omega) (by omega),
    typing_whole 468 48 _ (by omega) (by omega)]
  decide +kernel

def inSetView (c : Screen) : Screen := { viewing c with setView := true }

theorem test_meets_MovementKeysMoveOneScreen :
    (let s := { withStoryAt story atDesk with baskets := State.reset.baskets.set 3 [⟨0, 0, false⟩] }
     s.atKeys 9 .desk .closed 0 ∧ (s.screen 9).desk = some 3 ∧ (s.screen 9).selection = some (0, 0) ∧
      s.basketView 3 = [0] ∧ [0][0 - 1]? = some 0 ∧ [0][min (0 + 1) ([0].length - 1)]? = some 0) ∧
      (withStoryAt owned owning).inStory 9 0 ∧ (withStoryAt story viewing).inStory 9 0 ∧
      (withStoryAt fitted inSetView).inStory 9 0 ∧
      1 ≤ ((withStoryAt owned owning).screen 9).profile.cols ∧ 3 ≤ ((withStoryAt owned owning).screen 9).profile.rows ∧
      ((withStoryAt owned owning).screen 9).setView = false ∧ ((withStoryAt fitted inSetView).screen 9).setView = true ∧
      (withStoryAt fitted inSetView).story 0 = some fitted ∧ (∃ r ∈ fitted.fit, r.valid = true) ∧
      (∀ r ∈ story.fit, r.valid = false) := by
  refine ⟨?_, .inl ?_, .inr ?_, .inr ?_, ?_⟩
  · unfold State.atKeys State.noKeyWaits; decide +kernel
  · unfold State.atKeys State.noKeyWaits; decide +kernel
  · unfold State.atKeys State.noKeyWaits; decide +kernel
  · unfold State.atKeys State.noKeyWaits; decide +kernel
  · decide +kernel

theorem test_meets_PromptsOpenAndSignOn :
    (withStoryAt story atDesk).atKeys 9 .desk .closed 0 ∧ isSlugCode (foldCase 0x6D) = true ∧ printable 0x6D = true ∧
      (0x6D : Byte) ≠ ((withStoryAt story atDesk).screen 9).profile.superCode ∧
      ((withStoryAt story atDesk).screen 9).desk = some 3 ∧ (∀ k ∈ (withStoryAt story atDesk).desk 3, k.composing = false) ∧
      (∃ k ∈ ({ withStory story with desks := [some { desk with composing := true }] }).desk 0, k.composing = true) ∧
      (withStoryAt owned owning).atKeys 9 .edit .closed 0 ∧ ((withStoryAt owned owning).screen 9).story = some (0, .owner) ∧
      (let s := withStoryAt story fun c => { c with mode := .signedOff, prompt := .signon, buffer := str "034471" }
       s.atKeys 9 .signedOff .signon 0 ∧ (s.screen 9).buffer.length = 6 ∧ ofDigits ((s.screen 9).buffer.take 2) = 3 ∧
        (∃ k ∈ s.desk 3, k.code = (s.screen 9).buffer.drop 2) ∧ (s.screen 9).grace = none) ∧
      (let s := withStoryAt owned fun c =>
          { c with mode := .signedOff, prompt := .signon, buffer := str "034471", grace := some 0, story := some (0, .owner) }
       s.atKeys 9 .signedOff .signon 0 ∧ (s.screen 9).grace.isSome = true ∧ (s.screen 9).desk = some 3) ∧
      (let s := withStoryAt story fun c => { c with mode := .signedOff, prompt := .signon, buffer := str "164471" }
       s.atKeys 9 .signedOff .signon 0 ∧ 16 ≤ ofDigits ((s.screen 9).buffer.take 2)) := by
  unfold State.atKeys State.noKeyWaits
  decide +kernel

theorem test_meets_PromptsOpenAndSignOn_elsewhere :
    (let s := { withStoryAt owned fun c =>
          { c with mode := .signedOff, prompt := .signon, buffer := str "004471", grace := some 0, story := some (0, .owner) }
        with desks := State.reset.desks.set 0 (some desk) }
     s.atKeys 9 .signedOff .signon 0 ∧ (s.screen 9).buffer.length = 6 ∧ ofDigits ((s.screen 9).buffer.take 2) = 0 ∧
      (∃ k ∈ s.desk 0, k.code = (s.screen 9).buffer.drop 2) ∧ (s.screen 9).grace.isSome = true ∧
      (s.screen 9).desk ≠ some 0 ∧ (s.screen 9).story = some (0, .owner) ∧ s.story 0 = some owned ∧
      owned.desk < s.baskets.length) := by
  unfold State.atKeys State.noKeyWaits
  decide +kernel

theorem test_meets_KeysOfEveryState :
    (withStoryAt owned fun c => { owning c with prompt := .sendDesk }).atKeys 9 .edit .sendDesk 0 ∧
      ((withStoryAt owned fun c => { owning c with prompt := .sendDesk }).screen 9).story = some (0, .owner) ∧
      (withStoryAt story fun c => { atDesk c with escape := 3 }).atKeys 9 .desk .closed 3 ∧
      (withStoryAt story fun c => { atDesk c with escape := 4 }).atKeys 9 .desk .closed 4 ∧
      ((withStoryAt story fun c => { atDesk c with escape := 4 }).screen 9).desk = some 3 ∧
      (∀ k ∈ (withStoryAt story atDesk).desk 3, k.supervisor = false) ∧
      (∃ k ∈ ({ withStory story with desks := [some { desk with supervisor := true }] }).desk 0, k.supervisor = true) := by
  unfold State.atKeys State.noKeyWaits
  decide +kernel

/-- Screen 9 at desk 3, a supervisor's or not, with a prompt open. -/
def atPrompt (x : Story) (p : Prompt) (buffer : List Byte) (supervisor : Bool) (f : Screen → Screen) : State :=
  { withStoryAt x fun c => f { c with prompt := p, buffer := buffer, promptArg := some 0 } with
    desks := State.reset.desks.set 3 (some { desk with supervisor := supervisor }) }

theorem typed_brief (x : Story) (f : Screen → Screen) (p : Prompt) (supervisor : Bool) (hx : x.slug = str "BRIEF")
    (hb : ((atPrompt x p (str "brief") supervisor f).screen 9).buffer = str "brief") :
    (atPrompt x p (str "brief") supervisor f).typed 9 0 x := by
  unfold State.typed
  rw [show ((atPrompt x p (str "brief") supervisor f).screen (9 : Fin 32)).buffer = str "brief" from hb]
  refine ⟨by decide, rfl, by decide, by decide, by decide, by rw [hx]; decide, fun m _ u hu _ => ?_⟩
  have h : (withStory x).story m = some u := hu
  rw [story_withStory] at h
  split at h
  · assumption
  · cases h

theorem test_meets_KeysOfEveryState_take :
    (let x := { owned with owner := some 31, viewers := [9] }
     let s := atPrompt x .superTake (str "brief") true viewing
     s.atKeys 9 .view .superTake 0 ∧ s.atSupervisor 9 ∧ s.typed 9 0 x ∧ x.state = .open_ ∧ x.owner ≠ some 9 ∧
      s.screens.length = 32 ∧ (s.screen 9).story = some (0, .viewer) ∧ (s.screen 31).grace = none ∧
      (x.viewers.filter (· != 9)).length < 8) ∧
    (let x := { owned with owner := none }
     let s := atPrompt x .superTake (str "brief") true atDesk
     s.atKeys 9 .desk .superTake 0 ∧ s.typed 9 0 x ∧ (s.screen 9).story = none) ∧
    (let x := { owned with owner := some 31, viewers := [0, 1, 2, 3, 4, 5, 6, 7] }
     let s := (atPrompt x .superTake (str "brief") true atDesk).updScreen 31 fun c => { c with desk := some 5 }
     8 ≤ x.viewers.length ∧ (s.screen 31).desk = some 5) ∧
    (((atPrompt owned .superTake (str "brief") true atDesk).updScreen 31 fun c => { c with grace := some 0 }).screen 31).grace.isSome
      = true ∧
    ((atPrompt story .superTake (str "brief") true atDesk).typed 9 0 story ∧ story.state ≠ .open_) ∧
    (∀ k ∈ (atPrompt story .superTake (str "brief") false atDesk).desk 3, k.supervisor = false) := by
  refine ⟨⟨?_, ⟨3, rfl, _, rfl, rfl⟩, typed_brief _ _ _ _ rfl rfl, ?_⟩, ⟨?_, typed_brief _ _ _ _ rfl rfl, ?_⟩, ?_, ?_,
    ⟨typed_brief _ _ _ _ rfl rfl, by decide⟩, ?_⟩ <;>
    (try unfold State.atKeys State.noKeyWaits) <;> decide +kernel

theorem test_meets_KeysOfEveryState_move :
    (let s := atPrompt story .superMoveSlug (str "brief") true atDesk
     s.atKeys 9 .desk .superMoveSlug 0 ∧ s.atSupervisor 9 ∧ s.typed 9 0 story ∧ story.state = .queued) ∧
    (let s := atPrompt story .superMoveDesk (str "05") true viewing
     s.atKeys 9 .view .superMoveDesk 0 ∧ (s.screen 9).promptArg = some 0 ∧ (s.screen 9).buffer ≠ [] ∧
      ofDigits (s.screen 9).buffer = 5 ∧ s.desk 5 = none ∧ story.desk ≠ 5 ∧ (s.basket 5).length < 64 ∧
      s.baskets.length = 16 ∧ (({ s with desks := s.desks.set 5 (some desk) }).desk 5).isSome = true) ∧
    ofDigits (str "3") = story.desk ∧ owned.state ≠ .queued ∧
    64 ≤ (({ State.reset with baskets := [List.replicate 64 ⟨1, 0, false⟩] }).basket 0).length := by
  refine ⟨⟨?_, ⟨3, rfl, _, rfl, rfl⟩, typed_brief _ _ _ _ rfl rfl, rfl⟩, ?_, ?_⟩ <;>
    (try unfold State.atKeys State.noKeyWaits) <;> decide +kernel

/-- Screen 9 with keys in its line's queue and its holding buffer. -/
def withKeys (queue : List QueuedKey) (holding : Option QueuedKey) (f : Screen → Screen) : State :=
  (withStoryAt story f).updLine 9 fun l => { l with queue := queue, holding := holding }

theorem test_meets_KeysOfEveryState_queues :
    (withKeys [.brk] (some .brk) atDesk).turn 9 ∧ (8 : Fin 32) ≠ 9 ∧
    (withKeys [.brk] (some .brk) atDesk).line 9 = { lineUp with queue := .brk :: [], holding := some .brk } ∧
    (withKeys [.code 0x01] none atDesk).turn 9 ∧ (0x01 : Byte).toNat < 32 ∧
    ((withKeys [.code 0x01] none atDesk).screen 9).mode = .desk ∧ ((withKeys [.code 0x01] none atDesk).screen 9).escape = 0 ∧
    (0x01 : Byte) ≠ ((withKeys [.code 0x01] none atDesk).screen 9).profile.superCode ∧
    Profile.basic.keyMap[(0x01 : Byte).toNat]? = some (some .ack) ∧
    (let s := withStoryAt story fun c => { atDesk c with blanked := true }
     s.noKeyWaits ∧ (s.line 9).state = .up ∧ (s.screen 9).blanked = true ∧ (s.screen 9).mode ≠ .down) := by
  unfold State.turn State.noKeyWaits
  decide +kernel

theorem test_meets_KeysOfEveryState_keys : IsKeyOf 9 (.keyPrintable 9 0x20) ∧ IsKeyOf 9 (.keyAbort 9) :=
  ⟨.inl ⟨0x20, by decide, rfl⟩, .inr (by decide)⟩

theorem test_meets_StoriesAreOpenedViewedAndFiled :
    (withStoryAt story atDesk).atKeys 9 .desk .closed 0 ∧ ((withStoryAt story atDesk).screen 9).desk = some 3 ∧
      ((withStoryAt story atDesk).screen 9).selection = some (0, 0) ∧ (withStoryAt story atDesk).story 0 = some story ∧
      story.state = .queued ∧ story.desk = 3 ∧ { story with viewers := [0, 1, 2, 3, 4, 5, 6] }.viewers.length < 8 ∧
      8 ≤ { story with viewers := [0, 1, 2, 3, 4, 5, 6, 7] }.viewers.length ∧
      (withStoryAt story viewing).atKeys 9 .view .closed 0 ∧
      ((withStoryAt story viewing).screen 9).story = some (0, .viewer) ∧ (withStoryAt owned owning).editing 9 0 owned ∧
      owned.desk < (withStoryAt owned owning).baskets.length ∧ ((withStoryAt owned owning).basket 3).length < 64 ∧
      64 ≤ (({ withStoryAt owned owning with baskets := [[], [], [], List.replicate 64 ⟨1, 0, false⟩] }).basket 3).length := by
  unfold State.editing State.atKeys State.noKeyWaits
  decide +kernel

theorem test_meets_StoriesAreOpenedViewedAndFiled_new :
    (let s := withStoryAt story fun c => { atDesk c with prompt := .newSlug, buffer := str "FRESH-1" }
     s.atKeys 9 .desk .newSlug 0 ∧ (s.screen 9).desk = some 3 ∧ s.desk 3 = some desk ∧ (s.screen 9).buffer.length ≤ 12 ∧
      ((s.screen 9).buffer.map foldCase).all isSlugCode = true ∧ (s.basket 3).length < 64 ∧ s.stories.length = 512 ∧
      s.story 1 = none ∧ (∀ m < 1, (s.story m).isSome = true)) ∧
    (∀ m < 512, ∀ x, (withStory story).story m = some x → x.slug ≠ (str "FRESH-1").map foldCase) ∧
    (∃ m < 512, ∃ x, (withStory story).story m = some x ∧ x.slug = (str "brief").map foldCase) ∧
    (∀ m < 512, (({ State.reset with stories := List.replicate 512 (some story) }).story m).isSome = true) ∧
    12 < (str "THIRTEEN-CODE").length ∧ (str "A B").all isSlugCode = false := by
  refine ⟨?_, fun m _ x h => ?_, ⟨0, by decide, story, rfl, by decide⟩, fun m hm => ?_, by decide, by decide⟩
  · unfold State.atKeys State.noKeyWaits
    decide +kernel
  · rw [story_withStory] at h
    split at h
    · cases h; decide
    · cases h
  · unfold State.story
    rw [List.getD_eq_getElem?_getD, List.getElem?_replicate, if_pos hm]
    rfl

theorem test_meets_StoriesAreOpenedViewedAndFiled_send :
    (let s := withStoryAt owned fun c => { owning c with prompt := .sendDesk, buffer := str "05" }
     s.atKeys 9 .edit .sendDesk 0 ∧ (s.screen 9).story = some (0, .owner) ∧ s.story 0 = some owned ∧
      (s.screen 9).desk = some 3 ∧ s.desk owned.desk = some desk ∧ ofDigits (s.screen 9).buffer ∈ desk.allowed ∧
      s.desk 5 = none ∧ (({ s with desks := s.desks.set 5 (some desk) }).desk 5).isSome = true ∧
      (s.basket 5).length < 64 ∧ 5 < s.baskets.length) ∧
    desk.route = some 5 ∧ { desk with route := none }.route = none ∧ 4 ∉ desk.allowed ∧
    (let s := withStoryAt owned fun c => { owning c with prompt := .spikeConfirm }
     s.atKeys 9 .edit .spikeConfirm 0 ∧ s.story 0 = some owned ∧ owned.state = .open_) ∧
    (foldCase 0x79 = 0x59 ∧ printable 0x79 = true ∧ foldCase 0x4E ≠ 0x59 ∧ owned.placement = none) ∧
    (let s := withStoryAt owned fun c => { owning c with prompt := .priority }
     s.atKeys 9 .edit .priority 0 ∧ (0x33 : Byte).toNat = 0x30 + 3 ∧ Priority.ofCode 3 = some .routine ∧
      Priority.ofCode 0 = some .flash) := by
  unfold State.atKeys State.noKeyWaits
  decide +kernel

theorem test_meets_StoriesAreOpenedViewedAndFiled_spike :
    OffPress (withStory owned) owned ∧
      ¬ OffPress (withPage (page .waiting) { owned with placement := some (12, 3) }) { owned with placement := some (12, 3) } := by
  refine ⟨by simp [OffPress, owned, story], fun h => ?_⟩
  exact (h (12, 3) rfl (page .waiting) (by decide +kernel)).1 rfl

/-! ## The link and its proof at work -/

theorem test_meets_TheLinkFollowsItsSignal :
    (let s := withLink fun l => { l with cond := .down, los := true, activeCount := 31 }
     s.link.config = some linkConfig ∧ s.link.los = true ∧ linkConfig.losClear ≤ s.link.activeCount + 1 ∧
      s.link.cond = .down) ∧
    (withLink fun l => { l with los := true, activeCount := 30 }).link.activeCount + 1 < linkConfig.losClear ∧
    (withLink fun l => { l with quietCount := 15 }).link.los = false ∧
    linkConfig.losAssert ≤ (withLink fun l => { l with quietCount := 15 }).link.quietCount + 1 ∧
    (withLink fun l => { l with quietCount := 14 }).link.quietCount + 1 < linkConfig.losAssert ∧
    (withLink id).link.cond = .up ∧ (withSetting .sent 1 true).link.setting = some (settingPage (block .sent 1 true)) ∧
    (let s := withLink fun l => { l with cond := .acquiring, acquireTimer := some 0 }
     s.link.cond = .acquiring ∧ s.link.acquireTimer.isSome = true ∧ s.link.setting = none ∧ s.settingQueue = []) ∧
    (withLink id).link.acquireTimer = none ∧ (withLink id).link.cond ≠ .acquiring ∧
    (settingPage (block .unsent 1 true)).current = some (block .unsent 1 true) ∧
    (withLink id).hears [] ∧ (withLink id).hears [0x00, 0xFF, 0xA5] ∧ returnCheck .ready 5 ≠ 0 ∧
    (returnMessage 0x06 5 0 0 = none ∧ returnMessage 0x5A 0x5A 0x5A 0x5A = none) := by
  unfold State.hears
  decide +kernel

theorem test_meets_AnswersFinishOrFailTheBlock :
    ((withSetting .sent 1 false).awaits (settingPage (block .sent 1 false)) (block .sent 1 false) ∧
      (withSetting .sent 1 false).page (settingPage (block .sent 1 false)).page = some (page .setting) ∧
      (block .sent 1 false).last = false ∧ (withSetting .sent 1 false).link.held = false) ∧
    ((withSetting .resendDue 4 true).awaits (settingPage (block .resendDue 4 true)) (block .resendDue 4 true) ∧
      (block .resendDue 4 true).last = true ∧ (page .setting).state = .setting ∧
      (withSetting .resendDue 4 true).settingQueue = [] ∧ 4 ≤ (block .resendDue 4 true).tries) ∧
    (block .sent 3 true).tries < 4 ∧ (57 : Byte) = (block .sent 3 true).num ∧ (58 : Byte) ≠ (block .sent 3 true).num ∧
    (withSetting .sent 1 true).link.abortWait = none ∧ (withSetting .sent 1 true).proof.state ≠ .starting ∧
    (withLink fun l => { l with ackTimer := some 0 }).link.ackTimer.isSome = true ∧
    (withLink fun l => { l with cond := .down }).link.cond ≠ .up ∧ (withLink id).link.ackTimer = none ∧
    (withSetting .sent 1 false).hears [0x00] ∧ (withSetting .resendDue 4 true).hears [] ∧
    ((withSetting .sent 1 false).link.config = some linkConfig ∧ State.reset.host.enabled .linkPoor = true ∧
      poorAfter linkConfig false (List.replicate 24 true ++ List.replicate 8 false) = false ∧
      poorAfter linkConfig false (List.replicate 23 true ++ List.replicate 9 false) = true ∧
      poorAfter linkConfig true (List.replicate 27 true ++ List.replicate 5 false) = true ∧
      poorAfter linkConfig true (List.replicate 28 true ++ List.replicate 4 false) = false) := by
  unfold State.awaits State.hears
  decide +kernel

theorem test_meets_HoldAndGoGovernSending :
    (withSetting .sent 1 true).link.config = some linkConfig ∧ (withSetting .sent 1 true).link.cond = .up ∧
      (withSetting .sent 1 true).link.returnBits = false ∧ (withSetting .sent 1 true).link.held = false ∧
      (withLink fun l => { l with held := true }).link.held = true ∧ (block .sent 1 true).phase = .sent ∧
      (block .resendDue 2 true).phase = .resendDue ∧ (block .unsent 1 true).phase = .unsent ∧
      (withLink fun l => { l with held := true }).link.setting = none ∧
      (withLink fun l => { l with held := true }).proof.loop = none ∧
      (withLink fun l => { l with cond := .down }).link.cond ≠ .up ∧
      (let s := withSetting .sending 1 true
       s.link.setting = some (settingPage (block .sending 1 true)) ∧ (block .sending 1 true).phase = .sending) ∧
      (withLink fun l => { l with forward := [⟨57, .enquiry, []⟩, ⟨57, .data, [0x01]⟩] }).link.forward =
        [⟨57, .enquiry, []⟩] ++ ⟨57, .data, [0x01]⟩ :: [] ∧
      (withLink fun l => { l with forward := [⟨58, .abort, [9, 1, 12]⟩] }).link.forward = [] ++ ⟨58, .abort, [9, 1, 12]⟩ :: [] ∧
      (withLink id).link.forward = [] ∧
      (withLink fun l => { l with abortWait := some ⟨58, 0⟩ }).link.abortWait = some ⟨58, 0⟩ ∧
      (withLink id).link.abortWait = none ∧
      { settingPage (block .unsent 1 true) with suspended := true, lossTimer := some 0 }.lossTimer.isSome = true ∧
      (withLink id).link.setting = none ∧ (withSetting .sent 1 true).hears [] ∧
      (∀ m : Byte, (withSetting .sent 1 true).link.resent ≠ some ((withSetting .sent 1 true).clock.steps, m)) ∧
      (let s := withSetting .sending 2 true
       let t := { s with link := { s.link with resent := some (0, 57), forward := [⟨57, .data, [0x01]⟩] } }
       t.link.resent = some (t.clock.steps, (block .sending 2 true).num)) ∧
      (let s := { withLink (fun l => { l with resent := some (0, 112) }) with
          proof := { Proof.reset with state := .starting, loop := some ⟨112, 2, .sending⟩ } }
       s.link.setting = none ∧ s.proof.loop = some ⟨112, 2, .sending⟩ ∧ s.link.resent = some (s.clock.steps, 112)) ∧
      (let s := { withSetting .sent 3 true with link := { (withSetting .sent 3 true).link with ackTimer := some 0 } }
       (block .sent 3 true).tries < 4 ∧ s.link.ackTimer.isSome = true ∧ s.link.held = false) := by
  unfold State.hears
  decide +kernel

def p15 : ProofRequest := ⟨.p15, some 65536, 1, false⟩

theorem test_meets_ProofBitsAreSoughtAndCounted :
    (let s := withProof .starting p15 fun p => { p with loop := some ⟨112, 1, .sent⟩ }
     s.proof.state = .starting ∧ s.proof.request = some p15 ∧ s.proof.loop = some ⟨112, 1, .sent⟩ ∧
      s.link.setting = none ∧ s.link.abortWait = none ∧ s.link.cond = .up ∧ s.link.receiver = .hunting) ∧
    (withLink id).link.returnBits = false ∧ (withLink id).hears [0x00] ∧
    ((withProof .counting p15 fun p => { p with windowChecked := 63, windowErrors := 7 }).proof.windowChecked = 63) ∧
    (withProof .syncing p15 id).proof.state = .syncing ∧
    p15.timebase ≠ some ((withProof .syncing p15 id).proof.received + 1) ∧
    p15.timebase = some ((withProof .counting p15 fun p => { p with received := 65535 }).proof.received + 1) ∧
    (withProof .counting p15 fun p => { p with windowErrors := 8 }).proof.windowErrors = 8 ∧
    (withProof .counting p15 id).proof.state = .counting ∧ (withProof .counting p15 id).proof.windowErrors ≠ 8 ∧
    p15.mask = false ∧ p15.threshold ≠ 0 ∧ (withProof .counting p15 id).proof.alarmRaised = false ∧
    (let s := withLink fun l => { l with activity := .proving, forward := [⟨113, .unloop, []⟩] }
     s.link.forward = [] ++ ⟨113, .unloop, []⟩ :: [] ∧ s.link.activity = .proving ∧ s.proof.state = .idle ∧
      s.settingQueue = []) := by
  unfold State.hears
  decide +kernel

theorem test_meets_SummaryByteStatesTheErrors :
    (507904 >>> (2 * 7) ≤ 31 ∧ ∀ f < 7, 31 < 507904 >>> (2 * f)) ∧ 524287 < 524288 ∧ 31 >>> (2 * 0) ≤ 31 := by decide

end Sys2Proof.Machine.Tests
end

section
/-! SUPPORT. Refused requests (R3): each request of the catalogue but STORY_LOAD refuses with the state as it was. -/

namespace Sys2Proof.Machine

/-! ## Replies and the states they come with -/

/-- A reply that refuses, by a status past ACCEPTED, comes with the state as it was (R3). -/
def RefusesUnchanged (s : State) (r : State × List Byte) : Prop :=
  ∀ status fields, r.2 = status :: fields → 3 ≤ status.toNat → r.1 = s

section
variable {s t : State} {st : Status} {fields : List Byte} {clamped : Bool} {r : State × List Byte}

theorem RefusesUnchanged.of_same : RefusesUnchanged s (answer s st fields) := fun _ _ _ _ => rfl

theorem RefusesUnchanged.of_refuse : RefusesUnchanged s (refuse s st) := fun _ _ _ _ => rfl

/-- A reply with OK, ADJUSTED or ACCEPTED is no refusal, whatever state it comes with. -/
theorem RefusesUnchanged.of_answer (h : st.code.toNat < 3) : RefusesUnchanged s (answer t st fields) := by
  intro status rest hbody hrefused
  obtain ⟨rfl, -⟩ := List.cons.inj hbody
  omega

theorem RefusesUnchanged.of_ok : RefusesUnchanged s (answer t .ok fields) := .of_answer (by decide)

theorem RefusesUnchanged.of_accepted : RefusesUnchanged s (answer t .accepted fields) := .of_answer (by decide)

theorem RefusesUnchanged.of_okOr : RefusesUnchanged s (answer t (okOr clamped) fields) :=
  .of_answer (by cases clamped <;> decide)

/-- A check that refuses, before a judgement that refuses with the state as it was. -/
theorem RefusesUnchanged.guard {c : Prop} [Decidable c] (h : RefusesUnchanged s r) :
    RefusesUnchanged s (if c then refuse s st else r) := by
  split
  · exact .of_refuse
  · exact h

theorem RefusesUnchanged.withStory {n : Nat} {k : Story → State × List Byte} (h : ∀ t, RefusesUnchanged s (k t)) :
    RefusesUnchanged s (withStory n s k) := by
  unfold Machine.withStory
  refine .guard ?_
  split
  · exact .of_refuse
  · exact h _

theorem RefusesUnchanged.withPage {p : Nat} {k : Page → State × List Byte} (h : ∀ g, RefusesUnchanged s (k g)) :
    RefusesUnchanged s (withPage p s k) := by
  unfold Machine.withPage
  split
  · exact .of_refuse
  · exact h _

end

section
variable (body : List Byte) (s : State)

/-! ## Identification, the time of day, resets and attention -/

theorem reqIdentify_refusal : RefusesUnchanged s (reqIdentify body s) := by
  unfold reqIdentify
  split
  · exact .of_refuse
  · exact .of_same

theorem reqTimeSet_refusal : RefusesUnchanged s (reqTimeSet body s) := by
  unfold reqTimeSet
  split
  · exact .of_refuse
  · exact .guard .of_ok

theorem reqReset_refusal : RefusesUnchanged s (reqReset body s) := by
  unfold reqReset
  split
  · exact .of_refuse
  · split
    · exact .of_ok
    · exact .of_ok
    · exact .of_ok
    · exact .of_refuse

theorem reqAttentionRead_refusal : RefusesUnchanged s (reqAttentionRead body s) := by
  unfold reqAttentionRead
  split
  · exact .of_refuse
  · exact .guard .of_ok

theorem reqAttentionEnable_refusal : RefusesUnchanged s (reqAttentionEnable body s) := by
  unfold reqAttentionEnable
  split
  · exact .of_refuse
  · exact .guard .of_ok

/-! ## Screens and lines -/

theorem reqProfileDefine_refusal : RefusesUnchanged s (reqProfileDefine body s) := by
  unfold reqProfileDefine
  split
  · exact .of_refuse
  · split
    · exact .of_refuse
    · exact .guard .of_okOr

theorem reqLineConfigure_refusal : RefusesUnchanged s (reqLineConfigure body s) := by
  unfold reqLineConfigure
  split
  · exact .of_refuse
  · split
    · exact .of_refuse
    · dsimp only
      split
      · exact .of_refuse
      · exact .of_okOr

theorem reqScreenStatus_refusal : RefusesUnchanged s (reqScreenStatus body s) := by
  unfold reqScreenStatus
  split
  · exact .of_refuse
  · exact .guard .of_same

theorem reqScreenMessage_refusal : RefusesUnchanged s (reqScreenMessage body s) := by
  unfold reqScreenMessage
  split
  · exact .of_refuse
  · exact .guard .of_ok

theorem reqScreenSignoff_refusal : RefusesUnchanged s (reqScreenSignoff body s) := by
  unfold reqScreenSignoff
  split
  · exact .of_refuse
  · refine .guard ?_
    split
    · exact .of_refuse
    · exact .of_refuse
    · exact .of_same
    · exact .of_ok
    · exact .of_ok

/-! ## Desks -/

theorem reqDeskDefine_refusal : RefusesUnchanged s (reqDeskDefine body s) := by
  unfold reqDeskDefine
  split
  · exact .of_refuse
  · split
    · exact .of_refuse
    · exact .of_okOr

theorem reqDeskRoute_refusal : RefusesUnchanged s (reqDeskRoute body s) := by
  unfold reqDeskRoute
  split
  · exact .of_refuse
  · refine .guard ?_
    split
    · exact .of_refuse
    · exact .guard .of_ok

theorem reqDeskList_refusal : RefusesUnchanged s (reqDeskList body s) := by
  unfold reqDeskList
  split
  · exact .of_refuse
  · refine .guard ?_
    split
    · exact .of_same
    · exact .of_same

/-! ## Fit engine -/

theorem reqFaceDefine_refusal : RefusesUnchanged s (reqFaceDefine body s) := by
  unfold reqFaceDefine
  split
  · refine .guard ?_
    split
    · exact .of_refuse
    · exact .guard (.guard .of_okOr)
  · exact .of_refuse

theorem reqFitQuiet_refusal : RefusesUnchanged s (reqFitQuiet body s) := by
  unfold reqFitQuiet
  split
  · exact .of_refuse
  · exact .of_okOr

theorem reqFitRequest_refusal : RefusesUnchanged s (reqFitRequest body s) := by
  unfold reqFitRequest
  split
  · exact .of_refuse
  · refine .guard ?_
    split
    · exact .of_refuse
    · exact .of_ok

theorem reqFitStatus_refusal : RefusesUnchanged s (reqFitStatus body s) := by
  unfold reqFitStatus
  split
  · exact .of_refuse
  · exact .of_same

/-! ## Stories, but for STORY_LOAD -/

theorem reqStoryAppend_refusal : RefusesUnchanged s (reqStoryAppend body s) := by
  unfold reqStoryAppend
  split
  · exact .of_refuse
  · refine .guard (.withStory fun _ => .guard ?_)
    split
    · exact .of_same
    · split
      · exact .of_refuse
      · exact .of_ok

theorem reqStoryRead_refusal : RefusesUnchanged s (reqStoryRead body s) := by
  unfold reqStoryRead
  split
  · exact .of_refuse
  · exact .guard (.withStory fun _ => .of_same)

theorem reqStoryStatus_refusal : RefusesUnchanged s (reqStoryStatus body s) := by
  unfold reqStoryStatus
  split
  · exact .of_refuse
  · refine .guard ?_
    split
    · exact .of_same
    · exact .of_same

theorem reqStoryStyle_refusal : RefusesUnchanged s (reqStoryStyle body s) := by
  unfold reqStoryStyle
  split
  · exact .of_refuse
  · exact .guard (.withStory fun _ => .guard .of_okOr)

theorem reqStoryHead_refusal : RefusesUnchanged s (reqStoryHead body s) := by
  unfold reqStoryHead
  split
  · exact .of_refuse
  · refine .guard (.guard (.withStory fun _ => .guard ?_))
    dsimp only
    split
    · exact .of_ok
    · exact .of_okOr

theorem reqStoryMove_refusal : RefusesUnchanged s (reqStoryMove body s) := by
  unfold reqStoryMove
  split
  · exact .of_refuse
  · refine .guard (.withStory fun _ => .guard ?_)
    split
    · exact .of_refuse
    · exact .of_ok

theorem reqStorySpike_refusal : RefusesUnchanged s (reqStorySpike body s) := by
  unfold reqStorySpike
  split
  · exact .of_refuse
  · exact .withStory fun _ => .guard .of_ok

theorem reqStoryPurge_refusal : RefusesUnchanged s (reqStoryPurge body s) := by
  unfold reqStoryPurge
  split
  · exact .of_refuse
  · refine .withStory fun _ => ?_
    split
    · exact .of_ok
    · exact .of_refuse

theorem reqStoryRevise_refusal : RefusesUnchanged s (reqStoryRevise body s) := by
  unfold reqStoryRevise
  split
  · exact .of_refuse
  · exact .withStory fun _ => .guard (.guard (.guard (.guard .of_ok)))

theorem reqStoryFind_refusal : RefusesUnchanged s (reqStoryFind body s) := by
  unfold reqStoryFind
  split
  · exact .of_refuse
  · split
    · exact .of_refuse
    · split
      · exact .of_refuse
      · exact .of_same

/-! ## Pages and editions -/

theorem reqPageDefine_refusal : RefusesUnchanged s (reqPageDefine body s) := by
  unfold reqPageDefine
  split
  · exact .of_refuse
  · refine .guard ?_
    split
    · exact .of_refuse
    · refine .guard ?_
      dsimp only
      split
      · exact .of_okOr
      · exact .guard .of_okOr

theorem reqPagePlace_refusal : RefusesUnchanged s (reqPagePlace body s) := by
  unfold reqPagePlace
  split
  · exact .of_refuse
  · refine .guard (.withPage fun _ => ?_)
    split
    · exact .guard (.guard (.guard (.guard .of_ok)))
    · exact .of_refuse

theorem reqPageUnplace_refusal : RefusesUnchanged s (reqPageUnplace body s) := by
  unfold reqPageUnplace
  split
  · exact .of_refuse
  · refine .guard (.withPage fun _ => ?_)
    split
    · exact .of_refuse
    · refine .guard ?_
      split
      · exact .of_same
      · exact .of_ok

theorem reqPageRelease_refusal : RefusesUnchanged s (reqPageRelease body s) := by
  unfold reqPageRelease
  split
  · exact .of_refuse
  · refine .guard (.withPage fun _ => ?_)
    split
    · exact .of_same
    · exact .of_accepted

theorem reqPageAbort_refusal : RefusesUnchanged s (reqPageAbort body s) := by
  unfold reqPageAbort
  split
  · exact .of_refuse
  · refine .guard (.withPage fun _ => ?_)
    split
    · exact .of_refuse
    · exact .of_ok

theorem reqPageStatus_refusal : RefusesUnchanged s (reqPageStatus body s) := by
  unfold reqPageStatus
  split
  · exact .of_refuse
  · refine .guard ?_
    split
    · exact .of_same
    · exact .of_same

theorem reqEditionClose_refusal : RefusesUnchanged s (reqEditionClose body s) := by
  unfold reqEditionClose
  split
  · exact .of_refuse
  · exact .of_ok

theorem reqEditionRollover_refusal : RefusesUnchanged s (reqEditionRollover body s) := by
  unfold reqEditionRollover
  split
  · exact .of_refuse
  · exact .guard (.guard (.guard (.guard .of_ok)))

theorem reqEditionStatus_refusal : RefusesUnchanged s (reqEditionStatus body s) := by
  unfold reqEditionStatus
  split
  · exact .of_refuse
  · exact .of_same

/-! ## Typesetter link and proof -/

theorem reqLinkConfigure_refusal : RefusesUnchanged s (reqLinkConfigure body s) := by
  unfold reqLinkConfigure
  split
  · exact .of_refuse
  · exact .guard .of_okOr

theorem reqLinkStatus_refusal : RefusesUnchanged s (reqLinkStatus body s) := by
  unfold reqLinkStatus
  split
  · exact .of_refuse
  · exact .of_same

theorem reqProofStart_refusal : RefusesUnchanged s (reqProofStart body s) := by
  unfold reqProofStart
  split
  · exact .of_refuse
  · split
    · exact .guard (.guard (.guard .of_accepted))
    · exact .of_refuse

theorem reqProofStop_refusal : RefusesUnchanged s (reqProofStop body s) := by
  unfold reqProofStop
  split
  · exact .of_refuse
  · exact .guard .of_ok

theorem reqProofResult_refusal : RefusesUnchanged s (reqProofResult body s) := by
  unfold reqProofResult
  split
  · exact .of_refuse
  · exact .of_same

end

/-! ## The catalogue -/

/-- Every request of the catalogue but STORY_LOAD refuses with the state as it was (R3, 11.5). -/
theorem catalogue_refusal {kind : Nat} {handler : List Byte → State → State × List Byte}
    (hk : catalogue kind = some handler) (hload : kind ≠ 0x40) (body : List Byte) (s : State) :
    RefusesUnchanged s (handler body s) := by
  unfold catalogue at hk
  split at hk <;> cases hk
  · exact reqIdentify_refusal body s
  · exact reqTimeSet_refusal body s
  · exact reqReset_refusal body s
  · exact reqAttentionRead_refusal body s
  · exact reqAttentionEnable_refusal body s
  · exact reqProfileDefine_refusal body s
  · exact reqLineConfigure_refusal body s
  · exact reqScreenStatus_refusal body s
  · exact reqScreenMessage_refusal body s
  · exact reqScreenSignoff_refusal body s
  · exact reqDeskDefine_refusal body s
  · exact reqDeskRoute_refusal body s
  · exact reqDeskList_refusal body s
  · exact reqFaceDefine_refusal body s
  · exact reqFitQuiet_refusal body s
  · exact reqFitRequest_refusal body s
  · exact reqFitStatus_refusal body s
  · exact absurd rfl hload
  · exact reqStoryAppend_refusal body s
  · exact reqStoryRead_refusal body s
  · exact reqStoryStatus_refusal body s
  · exact reqStoryStyle_refusal body s
  · exact reqStoryHead_refusal body s
  · exact reqStoryMove_refusal body s
  · exact reqStorySpike_refusal body s
  · exact reqStoryPurge_refusal body s
  · exact reqStoryRevise_refusal body s
  · exact reqStoryFind_refusal body s
  · exact reqPageDefine_refusal body s
  · exact reqPagePlace_refusal body s
  · exact reqPageUnplace_refusal body s
  · exact reqPageRelease_refusal body s
  · exact reqPageAbort_refusal body s
  · exact reqPageStatus_refusal body s
  · exact reqEditionClose_refusal body s
  · exact reqEditionRollover_refusal body s
  · exact reqEditionStatus_refusal body s
  · exact reqLinkConfigure_refusal body s
  · exact reqLinkStatus_refusal body s
  · exact reqProofStart_refusal body s
  · exact reqProofStop_refusal body s
  · exact reqProofResult_refusal body s

end Sys2Proof.Machine
end

section
/-! SUPPORT. The reports of the store-low threshold (R11, R17), and a STORY_LOAD that is taken back (R36 step 5). -/

namespace Sys2Proof.Machine

/-! ## Raising a flag twice (R205) -/

@[simp] theorem HostLine.notify_flags (h : HostLine) : h.notify.flags = h.flags := by
  unfold HostLine.notify
  split <;> rfl

theorem HostLine.rise_flags (h : HostLine) (f : Flag) : (h.rise f).flags = h.flags ||| f.mask := by
  unfold HostLine.rise
  dsimp only
  split
  · rfl
  · exact HostLine.notify_flags _

/-- A report of a raise changes the host line alone, and looks at nothing else. -/
theorem State.raise_host_eq (s : State) (f : Flag) :
    (s.raise f).host = if s.host.enabled f then s.host.rise f else s.host := by
  unfold State.raise
  split <;> rfl

theorem State.raise_host_congr {s t : State} (h : s.host = t.host) (f : Flag) : (s.raise f).host = (t.raise f).host := by
  rw [State.raise_host_eq, State.raise_host_eq, h]

/-- A flag that is raised rises without a notice, and its mask is in the flags already. -/
theorem State.raise_raise (s : State) (f : Flag) : (s.raise f).raise f = s.raise f := by
  by_cases he : s.host.enabled f
  · have hs : (s.raise f).host = s.host.rise f := by rw [State.raise_host_eq, if_pos he]
    have hflags : (s.host.rise f).flags ||| f.mask = (s.host.rise f).flags := by
      rw [HostLine.rise_flags, BitVec.or_assoc, BitVec.or_self]
    have hraised : (s.host.rise f).raised f = true := hs ▸ State.raised_raise s f he
    have hagain : (s.host.rise f).rise f = s.host.rise f := by rw [HostLine.rise, hflags, if_pos hraised]
    rw [State.raise_only (s.raise f), State.raise_host_eq, hs, hagain, ite_self, ← hs]
  · have hs : s.raise f = s := if_neg he
    rw [hs, hs]

/-! ## Reports of the threshold (R11, R17, R96) -/

/-- A screen that is signed on, marked for a layout at a time of day; another screen as it is. -/
def Screen.touchedAt (time : Nat) (c : Screen) : Screen := if c.signedOn then { c with layoutTime := time } else c

theorem Screen.touchedAt_touchedAt (time : Nat) (c : Screen) : (c.touchedAt time).touchedAt time = c.touchedAt time := by
  by_cases h : c.signedOn
  · have hc : c.touchedAt time = { c with layoutTime := time } := if_pos h
    rw [hc, Screen.touchedAt, if_pos (show Screen.signedOn { c with layoutTime := time } = true from h)]
  · have hc : c.touchedAt time = c := if_neg h
    rw [hc, hc]

@[simp] theorem State.touchSignedOn_screens (s : State) :
    s.touchSignedOn.screens = s.screens.map (Screen.touchedAt s.clock.time) := rfl

@[simp] theorem State.touchSignedOn_host (s : State) : s.touchSignedOn.host = s.host := rfl

/-- The second state is the first but for its store, and for what reports of the threshold change: nothing, or the layout times of the
signed-on screens, with STORE_LOW raised or not. -/
def ThresholdReported (s t : State) : Prop :=
  t = { s with screens := t.screens, host := t.host, store := t.store } ∧
    (t.screens = s.screens ∧ t.host = s.host ∨
      t.screens = s.screens.map (Screen.touchedAt s.clock.time) ∧
        (t.host = s.host ∨ t.host = (s.raise .storeLow).host))

/-- Two reports are as one, since a layout mark and a raise are each the same taken twice. -/
theorem ThresholdReported.trans {s t u : State} (hst : ThresholdReported s t) (htu : ThresholdReported t u) :
    ThresholdReported s u := by
  obtain ⟨ht, hst⟩ := hst
  obtain ⟨hu, htu⟩ := htu
  have hclock : t.clock = s.clock := by rw [ht]
  refine ⟨by rw [hu, ht], ?_⟩
  rw [hclock] at htu
  rcases hst with ⟨hscreens, hhost⟩ | ⟨hscreens, hhost⟩
  · rwa [hscreens, State.raise_host_congr hhost, hhost] at htu
  · have htwice : t.screens.map (Screen.touchedAt s.clock.time) = t.screens := by
      rw [hscreens, List.map_map]
      exact List.map_congr_left fun c _ => Screen.touchedAt_touchedAt _ c
    have hraised : (t.raise .storeLow).host = (s.raise .storeLow).host := by
      rcases hhost with h | h
      · exact State.raise_host_congr h _
      · rw [State.raise_host_congr h, State.raise_raise]
    rw [htwice, hraised, hscreens] at htu
    rcases htu with ⟨hs, hh⟩ | ⟨hs, hh | hh⟩
    · exact .inr ⟨hs, hh ▸ hhost⟩
    · exact .inr ⟨hs, hh ▸ hhost⟩
    · exact .inr ⟨hs, .inr hh⟩

/-- What a report of the threshold can be: none, a layout of the signed-on screens, or STORE_LOW with that layout. -/
theorem State.reportCrossing_cases (s : State) (wasLow : Bool) :
    s.reportCrossing wasLow = s ∨ s.reportCrossing wasLow = s.touchSignedOn ∨
      s.reportCrossing wasLow = (s.raise .storeLow).touchSignedOn := by
  unfold State.reportCrossing
  split
  · exact .inl rfl
  · split
    · exact .inr (.inr rfl)
    · exact .inr (.inl rfl)

@[simp] theorem State.putChain_store (s : State) (n : Nat) (c : Chain) (free : List Nat) :
    (s.putChain n c free).store = ⟨free, s.store.chains.set n c⟩ := by
  rw [State.putChain_only]

/-- A chain put in place changes the store and reports the threshold. -/
theorem State.putChain_reported (s : State) (n : Nat) (c : Chain) (free : List Nat) :
    ThresholdReported s (s.putChain n c free) := by
  refine ⟨by rw [State.putChain_store]; exact State.putChain_only s n c free, ?_⟩
  unfold State.putChain
  rcases State.reportCrossing_cases { s with store := ⟨free, s.store.chains.set n c⟩ } s.storeLow with h | h | h
  · rw [h]
    exact .inl ⟨rfl, rfl⟩
  · rw [h]
    exact .inr ⟨rfl, .inl rfl⟩
  · rw [h, State.touchSignedOn_screens, State.touchSignedOn_host]
    refine .inr ⟨by rw [State.raise_only], .inr ?_⟩
    apply State.raise_host_congr
    rfl

/-! ## What a load does to the store and the story table (R14, R16, R20) -/

/-- An append that passes its checks has the blocks it needs, and puts the longer chain in place (R14). -/
theorem State.appendRun_eq_ok {s t : State} {n : Nat} {run : List Byte} (h : s.appendRun n run = .ok t) :
    (s.chain n).needed run.length ≤ s.store.free.length ∧
      t = s.putChain n ((s.chain n).append s.store.free run).1 ((s.chain n).append s.store.free run).2 := by
  unfold State.appendRun at h
  split at h
  · cases h
  · split at h
    · cases h
    · next hfree => exact ⟨Nat.le_of_not_lt hfree, (Except.ok.inj h).symm⟩

/-- The record that a creation takes is EMPTY, and its number is a story's (R20). -/
theorem State.emptyRecord_eq_some {s : State} {n : Nat} (h : s.emptyRecord = some n) :
    n < Config.stories ∧ s.story n = none := by
  rw [State.emptyRecord] at h
  have hmem := List.mem_of_find?_eq_some h
  have hempty := List.find?_some h
  exact ⟨List.mem_range.mp hmem, Option.isNone_iff_eq_none.mp hempty⟩

/-- To empty an EMPTY record changes nothing, in the table or beyond it. -/
theorem State.set_stories_of_empty {s : State} {n : Nat} (h : s.story n = none) : s.stories.set n none = s.stories := by
  by_cases hn : n < s.stories.length
  · have hget : s.stories[n] = none := by
      rw [← h, State.story, List.getD_eq_getElem _ _ hn]
    rw [← hget, List.set_getElem_self]
  · exact List.set_eq_of_length_le (Nat.le_of_not_lt hn)

/-- The state of a STORY_LOAD taken back at step 5: a record was filled, its text appended, and both undone (R36). -/
def LoadTakenBack (s u : State) : Prop :=
  ∃ n record run t, s.emptyRecord = some n ∧ (s.setStory n (some record)).appendRun n run = .ok t ∧
    u = (t.releaseChain n).setStory n none

/-- What STORY_LOAD can do: refuse with the state as it was, refuse FULL and take the load back, or load (R36). -/
theorem reqStoryLoad_cases (body : List Byte) (s : State) :
    (∃ st, reqStoryLoad body s = refuse s st) ∨ (∃ u, LoadTakenBack s u ∧ reqStoryLoad body s = refuse u .full) ∨
      ∃ u clamped fields, reqStoryLoad body s = answer u (okOr clamped) fields := by
  unfold reqStoryLoad
  split
  · exact .inl ⟨_, rfl⟩
  split
  · exact .inl ⟨_, rfl⟩
  split
  case h_2 => exact .inl ⟨_, rfl⟩
  split
  · exact .inl ⟨_, rfl⟩
  split
  · exact .inl ⟨_, rfl⟩
  split
  · exact .inl ⟨_, rfl⟩
  split
  · exact .inl ⟨_, rfl⟩
  next n hempty =>
  dsimp only
  split
  · exact .inl ⟨_, rfl⟩
  next t happend =>
  unfold State.finishLoad
  split
  next u hfinish =>
    split at hfinish
    · cases hfinish
    · exact .inr (.inl ⟨u, ⟨n, _, _, t, hempty, happend, (Except.error.inj hfinish).symm⟩, rfl⟩)
  · exact .inr (.inr ⟨_, _, _, rfl⟩)

/-! ## A load taken back (R36; log entry 30) -/

/-- A record that was EMPTY, filled before the reports and emptied after them, leaves the reports alone. -/
theorem ThresholdReported.of_setStory {s t : State} {n : Nat} {record : Option Story} (hnone : s.story n = none)
    (h : ThresholdReported (s.setStory n record) t) : ThresholdReported s (t.setStory n none) := by
  obtain ⟨ht, hreport⟩ := h
  have hraised : ((s.setStory n record).raise .storeLow).host = (s.raise .storeLow).host := by
    apply State.raise_host_congr
    rfl
  rw [hraised] at hreport
  refine ⟨?_, hreport⟩
  rw [ht]
  simp only [State.setStory, List.set_set, State.set_stories_of_empty hnone]

theorem LoadTakenBack.reported {s u : State} (h : LoadTakenBack s u) : ThresholdReported s u := by
  obtain ⟨n, record, run, t, hempty, happend, rfl⟩ := h
  obtain ⟨-, hnone⟩ := State.emptyRecord_eq_some hempty
  obtain ⟨-, ht⟩ := State.appendRun_eq_ok happend
  have happended : ThresholdReported (s.setStory n (some record)) t := ht ▸ State.putChain_reported ..
  have hreleased : ThresholdReported t (t.releaseChain n) := State.putChain_reported ..
  exact .of_setStory hnone (happended.trans hreleased)

/-- In a whole store the load's blocks come from the free stack and go back to it, and the record's chain is empty again. -/
theorem LoadTakenBack.store {s u : State} (h : LoadTakenBack s u) (hw : StoreWhole s) :
    u.store.chains = s.store.chains ∧ u.store.free.Perm s.store.free := by
  obtain ⟨n, record, run, t, hempty, happend, rfl⟩ := h
  obtain ⟨hn, hnone⟩ := State.emptyRecord_eq_some hempty
  obtain ⟨-, hlength, -, -, hchains⟩ := hw
  have hin : n < s.store.chains.length := by rw [hlength]; exact hn
  have hchain : s.chain n = [] := hchains n hnone
  have hget : s.store.chains[n] = [] := by rw [← hchain, State.chain, List.getD_eq_getElem _ _ hin]
  obtain ⟨hneeded, ht⟩ := State.appendRun_eq_ok happend
  change ((s.chain n).needed run.length ≤ s.store.free.length) at hneeded
  change t = State.putChain _ n ((s.chain n).append s.store.free run).1 ((s.chain n).append s.store.free run).2 at ht
  rw [hchain] at hneeded ht
  obtain ⟨-, hblocks, -⟩ := Chain.append_spec [] s.store.free run hneeded
  have hstore : t.store =
      ⟨(Chain.append [] s.store.free run).2, s.store.chains.set n (Chain.append [] s.store.free run).1⟩ := by
    rw [ht, State.putChain_store]; rfl
  have htext : t.chain n = (Chain.append [] s.store.free run).1 := by
    rw [State.chain, hstore, List.getD_eq_getElem _ _ (by simpa using hin), List.getElem_set_self]
  have hreleased : (t.releaseChain n).store = ⟨(t.chain n).release t.store.free, t.store.chains.set n []⟩ :=
    State.putChain_store ..
  constructor
  · calc (t.releaseChain n).store.chains
      _ = s.store.chains.set n [] := by rw [hreleased, hstore, List.set_set]
      _ = s.store.chains := by rw [← hget, List.set_getElem_self]
  · calc (t.releaseChain n).store.free
      _ |>.Perm (t.store.free ++ (t.chain n).nums) := by rw [hreleased]; exact Chain.release_perm _ _
      _ |>.Perm s.store.free := by rw [htext, hstore]; simpa using hblocks

/-! ## The obligation -/

/-- Settles O10: the requests but STORY_LOAD by `catalogue_refusal`; a STORY_LOAD by what it can do, of which the load taken back is
the one refusal that changes anything. -/
theorem refusedRequestsChangeNothing : Obligations.RefusedRequestsChangeNothing := by
  intro kind handler body s status fields hk hbody hrefused
  refine ⟨fun hload => catalogue_refusal hk hload body s status fields hbody hrefused, ?_⟩
  rintro rfl
  cases hk
  rcases reqStoryLoad_cases body s with ⟨st, h⟩ | ⟨u, htaken, h⟩ | ⟨u, clamped, rest, h⟩
  · rw [h]
    exact ⟨⟨_, _, _, rfl, .inl ⟨rfl, rfl⟩⟩, fun _ => ⟨rfl, .refl _⟩⟩
  · rw [h]
    exact ⟨⟨_, _, _, htaken.reported⟩, htaken.store⟩
  · rw [h] at hbody ⊢
    have hu : u = s := RefusesUnchanged.of_okOr status fields hbody hrefused
    subst hu
    exact ⟨⟨_, _, _, rfl, .inl ⟨rfl, rfl⟩⟩, fun _ => ⟨rfl, .refl _⟩⟩

end Sys2Proof.Machine
end

section
/-! SUPPORT. One step of the timebase (R2): where each timer stands after it, and which commands it puts into the queue. -/

namespace Sys2Proof.Machine

/-! ## Timers -/

theorem isSecond_eq_true (step : Nat) : isSecond step = true ↔ step % 10 = 0 := beq_iff_eq

theorem expires_eq_true (t : Option Nat) : expires t = true ↔ t = some 0 := beq_iff_eq

theorem countSecond_isSecond (step : Nat) (t : Option Nat) :
    countSecond (isSecond step) t = if step % 10 = 0 then t.map (· - 1) else t := by
  simp only [countSecond, isSecond_eq_true]
  rfl

/-- The timers of an unused screen are off, and stay off. -/
theorem Screen.tick_reset (second : Bool) : Screen.reset.tick second = .reset := by cases second <;> rfl

theorem State.screen_tick (s : State) (n : Nat) :
    s.tick.screen n = (s.screen n).tick (isSecond (s.clock.steps + 1)) := by
  have h := List.getD_map (l := s.screens) (d := .reset) (n := n) (Screen.tick (isSecond (s.clock.steps + 1)))
  rwa [Screen.tick_reset] at h

theorem State.line_tick (s : State) (n : Nat) : s.tick.line n = (s.line n).tick :=
  List.getD_map (l := s.lines) (d := .reset) Line.tick

theorem Link.tick_isSecond (l : Link) (step : Nat) :
    l.tick (isSecond step) = { l with
      acquireTimer := l.acquireTimer.map (· - 1)
      ackTimer := l.ackTimer.map (· - 1)
      abortWait := l.abortWait.map fun w => ⟨w.num, w.timer - 1⟩
      setting := l.setting.map fun x => { x with
        lossTimer := if step % 10 = 0 then x.lossTimer.map (· - 1) else x.lossTimer } } := by
  simp only [Link.tick, countSecond_isSecond]
  rfl

/-! ## The pass under way (R87; log entry 6) -/

theorem State.passDone_of_idle {s : State} (h : s.fit.pass = none) : s.passDone = false := by
  rw [State.passDone, h]
  rfl

theorem State.passDone_of_limit {s : State} {p : Pass} (h : s.fit.pass = some p) (hlimit : p.limit ≤ p.elapsed + 1) :
    s.passDone = true := by
  simp [State.passDone, h, hlimit]

/-! ## The expiries of a step -/

theorem mem_forEach (i : Instr) (test : Nat → Bool) (command : Fin 32 → Instr) :
    i ∈ forEach test command ↔ ∃ n : Fin 32, i = command n ∧ test n = true := by
  simp only [forEach, List.mem_filterMap, List.mem_finRange, true_and, Option.ite_none_right_eq_some, Option.some.injEq,
    and_comm, eq_comm (a := i)]

theorem count_forEach_of_ne (i : Instr) (test : Nat → Bool) (command : Fin 32 → Instr) (h : ∀ n, command n ≠ i) :
    (forEach test command).count i = 0 := by
  rw [List.count_eq_zero, mem_forEach]
  rintro ⟨n, hn, -⟩
  exact h n hn.symm

theorem count_ite_singleton_of_ne (i j : Instr) (c : Prop) [Decidable c] (h : j ≠ i) :
    (if c then [j] else []).count i = 0 := by
  split
  · exact List.count_singleton.trans (if_neg (by simpa using h))
  · rfl

/-- The commands that one step puts into the queue, each with its cause (R2). -/
theorem State.mem_expiries (s : State) (i : Instr) :
    i ∈ s.expiries ↔
      (i = .timeOfDayAdvance ∧ s.clock.untilAdvance ≤ 1) ∨
      (∃ n : Fin 32, i = .idleTimerExpiry n ∧ (s.screen n).idle = some 0 ∧ (s.clock.steps + 1) % 10 = 0) ∨
      (∃ n : Fin 32, i = .ringTimerExpiry n ∧ (s.screen n).ringTimer = some 0) ∨
      (∃ n : Fin 32, i = .graceExpiry n ∧ (s.screen n).grace = some 0 ∧ (s.clock.steps + 1) % 10 = 0) ∨
      (i = .refitDue ∧ ∃ e ∈ s.fit.refit, e.due ≤ s.clock.steps + 1) ∨
      (i = .fitPassComplete ∧ s.passDone = true) ∨
      (∃ n : Fin 32, i = .breakTimerExpiry n ∧ (s.line n).breakTimer = some 0) ∨
      (i = .acquireTimerExpiry ∧ s.link.acquireTimer = some 0) ∨
      (i = .ackTimeout ∧ s.link.ackTimer = some 0) ∨
      (i = .lossTimerExpiry ∧ (∃ x, s.link.setting = some x ∧ x.lossTimer = some 0) ∧ (s.clock.steps + 1) % 10 = 0) ∨
      (i = .abortWaitExpiry ∧ ∃ w, s.link.abortWait = some w ∧ w.timer = 0) := by
  simp only [State.expiries, List.mem_append, mem_forEach, List.mem_ite_nil_right, List.mem_singleton, List.mem_replicate,
    ne_eq, List.length_eq_zero_iff, List.filter_eq_nil_iff, decide_eq_true_eq, not_forall, not_not, exists_prop,
    expires_eq_true, isSecond_eq_true, Bool.and_eq_true, Option.bind_eq_some_iff, Option.map_eq_some_iff, or_assoc, and_comm]

/-- Each refit entry that is due brings one command (R83). -/
theorem State.count_refitDue_expiries (s : State) :
    s.expiries.count .refitDue = s.fit.refit.countP (fun e => decide (e.due ≤ s.clock.steps + 1)) := by
  simp [State.expiries, List.count_append, count_forEach_of_ne, count_ite_singleton_of_ne, List.countP_eq_length_filter]

/-! ## The obligation -/

theorem step_of_pending_nil {s : State} (h : s.pending = []) : step s = .next s.tick := by
  rw [step, h]

theorem State.tick_pending_of_nil {s : State} (h : s.pending = []) : s.tick.pending = s.expiries := by
  rw [State.tick, h]
  rfl

/-- Settles O2: the step of an empty queue is `State.tick`; where its timers stand is the lemmas of its parts, and each expiry is the one
cause of its command in `State.mem_expiries`. -/
theorem emptyQueueStepsTheTimebase : Obligations.EmptyQueueStepsTheTimebase := by
  intro s hs
  refine ⟨s.tick, step_of_pending_nil hs, rfl, ?_⟩
  rw [State.tick_pending_of_nil hs]
  refine ⟨by simp [State.mem_expiries], fun n => ?_, Link.tick_isSecond s.link _, by simp [State.mem_expiries],
    by simp [State.mem_expiries], by simp [State.mem_expiries], by simp [State.mem_expiries], rfl,
    State.count_refitDue_expiries s, fun hidle => ?_, fun p hp hlimit => ?_, rfl, rfl, rfl, rfl, rfl, rfl, rfl, rfl, rfl⟩
  · rw [State.line_tick, State.screen_tick]
    exact ⟨rfl, by simp [State.mem_expiries], rfl, by simp [State.mem_expiries], countSecond_isSecond _ _,
      by simp [State.mem_expiries], countSecond_isSecond _ _, by simp [State.mem_expiries]⟩
  · simp [State.mem_expiries, State.passDone_of_idle hidle]
  · simp [State.mem_expiries, State.passDone_of_limit hp hlimit]

end Sys2Proof.Machine
end

section
/-! SUPPORT. What of a state the store invariant looks at, and the operations that leave it as it is (R9, R12). -/

namespace Sys2Proof.Machine

/-! ## The copy shape -/

/-- What `StoreWhole` looks at: the copy store, and which records are EMPTY. -/
def State.copyShape (s : State) : Store × List Bool := (s.store, s.stories.map Option.isNone)

theorem map_isNone_modify (l : List (Option Story)) (n : Nat) (f : Story → Story) :
    (l.modify n (Option.map f)).map Option.isNone = l.map Option.isNone := by
  refine List.ext_getElem? fun i => ?_
  simp only [List.getElem?_map, List.getElem?_modify]
  cases l[i]? <;> grind

/-- An EMPTY record is a flag of the shape, and there is none beyond the table. -/
theorem State.story_eq_none_iff (s : State) (n : Nat) : s.story n = none ↔ s.copyShape.2.getD n true = true := by
  simp only [State.story, State.copyShape, List.getD_eq_getElem?_getD, List.getElem?_map]
  cases s.stories[n]? <;> simp

theorem State.chain_eq_of_copyShape {s t : State} (h : t.copyShape = s.copyShape) (n : Nat) : t.chain n = s.chain n := by
  have hstore : t.store = s.store := congrArg Prod.fst h
  rw [State.chain, State.chain, hstore]

/-- The invariant looks at the copy shape alone. -/
theorem StoreWhole.of_copyShape {s t : State} (hw : StoreWhole s) (h : t.copyShape = s.copyShape) : StoreWhole t := by
  have hstore : t.store = s.store := congrArg Prod.fst h
  have hlength : t.stories.length = s.stories.length := by
    simpa [State.copyShape] using congrArg (fun p => p.2.length) h
  have hempty : ∀ n, t.story n = none ↔ s.story n = none := fun n => by
    rw [State.story_eq_none_iff, State.story_eq_none_iff, h]
  obtain ⟨hstories, hchains, hperm, hfull, hnone⟩ := hw
  refine ⟨hlength.trans hstories, hstore ▸ hchains, hstore ▸ hperm, hstore ▸ hfull, fun n hn => ?_⟩
  rw [State.chain_eq_of_copyShape h]
  exact hnone n ((hempty n).1 hn)

/-! ## Changes of other fields -/

section
variable (s : State)

/-- A record with some fields changed has the shape of the fields it names. -/
@[simp] theorem State.copyShape_mk (store : Store) (stories : List (Option Story)) (desks : List (Option Desk))
    (baskets : List (List Entry)) (fit : FitUnit) (profiles : List Profile) (screens : List Screen) (lines : List Line)
    (keyTurn : Nat) (pages : List (Option Page)) (settingQueue : List Nat) (edition : Edition) (link : Link) (proof : Proof)
    (host : HostLine) (clock : Clock) (strapPins : BitVec 3) (drawn : Nat) (pending : List Instr) :
    State.copyShape ⟨store, stories, desks, baskets, fit, profiles, screens, lines, keyTurn, pages, settingQueue, edition,
      link, proof, host, clock, strapPins, drawn, pending⟩ = (store, stories.map Option.isNone) := rfl

@[simp] theorem State.store_isNone_eq_copyShape : (s.store, s.stories.map Option.isNone) = s.copyShape := rfl

@[simp] theorem State.copyShape_ite (c : Prop) [Decidable c] (t : State) :
    (if c then s else t).copyShape = if c then s.copyShape else t.copyShape := apply_ite ..

/-- An operation taken for each member of a list keeps the shape if it keeps it once. -/
theorem State.foldl_copyShape {α : Type} (f : State → α → State) (hf : ∀ t a, (f t a).copyShape = t.copyShape) (l : List α) :
    ∀ s : State, (l.foldl f s).copyShape = s.copyShape := by
  induction l with
  | nil => exact fun _ => rfl
  | cons a l ih => exact fun s => (ih _).trans (hf s a)

@[simp] theorem State.updStory_copyShape (n : Nat) (f : Story → Story) : (s.updStory n f).copyShape = s.copyShape := by
  simp [State.updStory, map_isNone_modify]

@[simp] theorem State.updBasket_copyShape (d : Nat) (f : List Entry → List Entry) :
    (s.updBasket d f).copyShape = s.copyShape := rfl

@[simp] theorem State.updScreen_copyShape (n : Nat) (f : Screen → Screen) : (s.updScreen n f).copyShape = s.copyShape := rfl

@[simp] theorem State.updLine_copyShape (n : Nat) (f : Line → Line) : (s.updLine n f).copyShape = s.copyShape := rfl

@[simp] theorem State.updPage_copyShape (p : Nat) (f : Page → Page) : (s.updPage p f).copyShape = s.copyShape := rfl

@[simp] theorem State.updHost_copyShape (f : HostLine → HostLine) : (s.updHost f).copyShape = s.copyShape := rfl

@[simp] theorem State.updLink_copyShape (f : Link → Link) : (s.updLink f).copyShape = s.copyShape := rfl

@[simp] theorem State.updProof_copyShape (f : Proof → Proof) : (s.updProof f).copyShape = s.copyShape := rfl

@[simp] theorem State.withPending_copyShape (q : List Instr) : (s.withPending q).copyShape = s.copyShape := rfl

@[simp] theorem State.overScreens_copyShape (f : State → Nat → State) (hf : ∀ t n, (f t n).copyShape = t.copyShape) :
    (s.overScreens f).copyShape = s.copyShape := State.foldl_copyShape f hf _ s

/-! ## Attention, screens and the fit engine -/

@[simp] theorem State.raise_copyShape (f : Flag) : (s.raise f).copyShape = s.copyShape := by rw [State.raise_only]; rfl

@[simp] theorem State.raiseFor_copyShape (f : Flag) (m : Nat) : (s.raiseFor f m).copyShape = s.copyShape := by
  rw [State.raiseFor_only]; rfl

@[simp] theorem State.clearFlags_copyShape (mask : BitVec 12) : (s.clearFlags mask).copyShape = s.copyShape := rfl

@[simp] theorem State.touchDesk_copyShape (d : Nat) : (s.touchDesk d).copyShape = s.copyShape := rfl

@[simp] theorem State.touchStory_copyShape (n : Nat) : (s.touchStory n).copyShape = s.copyShape := by
  rw [State.touchStory_only]; rfl

@[simp] theorem State.tell_copyShape (n : Nat) (msg : List Byte) : (s.tell n msg).copyShape = s.copyShape := rfl

@[simp] theorem State.deny_copyShape (n : Nat) (msg : List Byte) : (s.deny n msg).copyShape = s.copyShape := rfl

@[simp] theorem State.bell_copyShape (n : Nat) : (s.bell n).copyShape = s.copyShape := rfl

@[simp] theorem State.reprofile_copyShape (n : Nat) : (s.reprofile n).copyShape = s.copyShape := rfl

@[simp] theorem State.comeUp_copyShape (n : Nat) : (s.comeUp n).copyShape = s.copyShape := rfl

@[simp] theorem State.wake_copyShape (n : Nat) : (s.wake n).copyShape = s.copyShape := rfl

@[simp] theorem State.enterDesk_copyShape (n d : Nat) : (s.enterDesk n d).copyShape = s.copyShape := rfl

@[simp] theorem State.enterStory_copyShape (n story : Nat) (role : Role) : (s.enterStory n story role).copyShape = s.copyShape := rfl

@[simp] theorem State.backToDesk_copyShape (n : Nat) : (s.backToDesk n).copyShape = s.copyShape := by
  rw [State.backToDesk_only]; rfl

@[simp] theorem State.stopViewing_copyShape (n : Nat) : (s.stopViewing n).copyShape = s.copyShape := by
  unfold State.stopViewing State.leaveViewers
  split <;> simp

@[simp] theorem State.signOff_copyShape (n : Nat) : (s.signOff n).copyShape = s.copyShape := by simp [State.signOff]

@[simp] theorem State.reportDesk_copyShape (d : Nat) : (s.reportDesk d).copyShape = s.copyShape := rfl

@[simp] theorem State.settle_copyShape : s.settle.copyShape = s.copyShape := rfl

@[simp] theorem State.makeStale_copyShape (n : Nat) : (s.makeStale n).copyShape = s.copyShape := by
  simp [State.makeStale, State.schedule, State.dropSetViews, State.updStory, map_isNone_modify]

@[simp] theorem State.versionChange_copyShape (n : Nat) : (s.versionChange n).copyShape = s.copyShape := by
  simp [State.versionChange]

@[simp] theorem State.engineTake_copyShape : s.engineTake.copyShape = s.copyShape := by rw [State.engineTake_only]; rfl

@[simp] theorem State.joinFitQueue_copyShape (n : Nat) : (s.joinFitQueue n).copyShape = s.copyShape := by
  rw [State.joinFitQueue_only]; rfl

@[simp] theorem State.fitNow_copyShape (n : Nat) : (s.fitNow n).copyShape = s.copyShape := by rw [State.fitNow_only]; rfl

@[simp] theorem State.firstDue_copyShape : s.firstDue.copyShape = s.copyShape := by rw [State.firstDue_only]; rfl

@[simp] theorem State.forgetFit_copyShape (n : Nat) : (s.forgetFit n).copyShape = s.copyShape := by
  unfold State.forgetFit
  rw [State.engineTake_copyShape]
  split <;> rfl

@[simp] theorem State.completePass_copyShape : s.completePass.copyShape = s.copyShape := by
  unfold State.completePass
  split
  · rfl
  · split
    · rw [State.engineTake_copyShape]
      split <;> simp [State.updStory, map_isNone_modify]
    · simp

end

end Sys2Proof.Machine
end

section
/-! SUPPORT. The desks, the stories and the pages leave the copy shape as it is (R9). -/

namespace Sys2Proof.Machine

section
variable (s : State)

/-! ## Desks -/

@[simp] theorem State.enterBasket_copyShape (n : Nat) (cause : Option Nat) :
    (s.enterBasket n cause).copyShape = s.copyShape := by
  cases hx : s.story n with
  | none => rw [State.enterBasket, hx]
  | some x => rw [State.enterBasket_only s n cause x hx]; rfl

@[simp] theorem State.toQueued_copyShape (n : Nat) (cause : Option Nat) : (s.toQueued n cause).copyShape = s.copyShape := by
  simp [State.toQueued]

@[simp] theorem State.leaveBasket_copyShape (n : Nat) : (s.leaveBasket n).copyShape = s.copyShape := by
  rw [State.leaveBasket_only]; rfl

@[simp] theorem State.autoFile_copyShape (n : Nat) : (s.autoFile n).copyShape = s.copyShape := by
  unfold State.autoFile
  split
  · rfl
  · split <;> simp

@[simp] theorem State.escalate_copyShape (d n : Nat) : (s.escalate d n).copyShape = s.copyShape := by
  unfold State.escalate
  split
  · rfl
  · dsimp only
    split <;> simp

@[simp] theorem State.escalationCheck_copyShape : s.escalationCheck.copyShape = s.copyShape :=
  State.foldl_copyShape _ (fun t d => State.foldl_copyShape _ (fun u n => u.escalate_copyShape d n) _ t) _ s

@[simp] theorem State.advance_copyShape : s.advance.copyShape = s.copyShape := by
  unfold State.advance State.showMinute
  split <;> simp [State.touchAll]

@[simp] theorem State.setTime_copyShape (v : Nat) : (s.setTime v).copyShape = s.copyShape := rfl

/-! ## Stories, but for the text and the record's filling -/

@[simp] theorem State.followText_copyShape (n : Nat) (by_ : Option Nat) (move ownTop : Nat → Nat) :
    (s.followText n by_ move ownTop).copyShape = s.copyShape := rfl

@[simp] theorem State.unplace_copyShape (n : Nat) : (s.unplace n).copyShape = s.copyShape := by
  unfold State.unplace
  split <;> simp

@[simp] theorem State.sendToDesk_copyShape (n : Nat) (msg : List Byte) : (s.sendToDesk n msg).copyShape = s.copyShape := by
  simp [State.sendToDesk]

@[simp] theorem State.ownerSpiked_copyShape (n : Nat) : (s.ownerSpiked n).copyShape = s.copyShape := by
  simp [State.ownerSpiked]

@[simp] theorem State.ownerTaken_copyShape (n owner : Nat) : (s.ownerTaken n owner).copyShape = s.copyShape := by
  simp [State.ownerTaken]

@[simp] theorem State.toOpen_copyShape (n screen : Nat) : (s.toOpen n screen).copyShape = s.copyShape := by
  unfold State.toOpen
  split <;> simp

@[simp] theorem State.toSpiked_copyShape (n : Nat) : (s.toSpiked n).copyShape = s.copyShape := by
  unfold State.toSpiked
  split <;> simp

theorem State.moveStory_copyShape {n target : Nat} {cause : Option Nat} {t : State} (h : s.moveStory n target cause = .ok t) :
    t.copyShape = s.copyShape := by
  unfold State.moveStory at h
  split at h
  · cases h
  · split_ifs at h <;> cases h <;> simp

@[simp] theorem State.take_copyShape (n screen : Nat) : (s.take n screen).copyShape = s.copyShape := by
  unfold State.take
  split
  · rfl
  · next t _ =>
    dsimp only
    cases t.owner <;> split <;> simp

@[simp] theorem State.revise_copyShape (n : Nat) : (s.revise n).copyShape = s.copyShape := by simp [State.revise]

/-! ## Pages -/

@[simp] theorem State.storySet_copyShape (n : Nat) : (s.storySet n).copyShape = s.copyShape := by
  unfold State.storySet
  split <;> simp

@[simp] theorem State.storyBack_copyShape (n : Nat) : (s.storyBack n).copyShape = s.copyShape := by
  unfold State.storyBack
  split <;> simp

@[simp] theorem State.tellComposing_copyShape (msg : List Byte) : (s.tellComposing msg).copyShape = s.copyShape := rfl

@[simp] theorem State.pageSet_copyShape (p : Nat) : (s.pageSet p).copyShape = s.copyShape := by
  unfold State.pageSet
  split
  · rfl
  · simp [State.foldl_copyShape _ State.storySet_copyShape]

@[simp] theorem State.pageReturns_copyShape (p : Nat) (g : Page) (cause : Cause) :
    (s.pageReturns p g cause).copyShape = s.copyShape := by
  simp [State.pageReturns, State.foldl_copyShape _ State.storyBack_copyShape]

@[simp] theorem State.pageFailed_copyShape (p : Nat) (cause : Cause) : (s.pageFailed p cause).copyShape = s.copyShape := by
  unfold State.pageFailed
  split <;> simp

@[simp] theorem State.storyReleased_copyShape (n : Nat) : (s.storyReleased n).copyShape = s.copyShape := by
  unfold State.storyReleased
  split <;> simp

@[simp] theorem State.pageWaits_copyShape (p : Nat) (g : Page) : (s.pageWaits p g).copyShape = s.copyShape := by
  simp [State.pageWaits, State.foldl_copyShape _ State.storyReleased_copyShape]

@[simp] theorem State.place_copyShape (p : Nat) (k : Slot) (n : Nat) : (s.place p k n).copyShape = s.copyShape := by
  simp [State.place]

@[simp] theorem State.composeNext_copyShape : s.composeNext.copyShape = s.copyShape := by
  unfold State.composeNext
  split
  · rfl
  · split <;> rfl

@[simp] theorem State.tryTake_copyShape : s.tryTake.copyShape = s.copyShape := by
  unfold State.tryTake
  split <;> simp

theorem State.releasePage_copyShape {p : Nat} {g : Page} {t : State} (h : s.releasePage p g = .ok t) :
    t.copyShape = s.copyShape := by
  unfold State.releasePage at h
  split at h
  · cases h
  · cases h; simp

/-! ## The link and its proof -/

@[simp] theorem State.proofAlarm_copyShape (r : ProofRequest) : (s.proofAlarm r).copyShape = s.copyShape := by
  simp [State.proofAlarm]

@[simp] theorem State.proofDone_copyShape : s.proofDone.copyShape = s.copyShape := by simp [State.proofDone]

@[simp] theorem State.proofEnd_copyShape (cause : EndCause) (unloop : Bool) : (s.proofEnd cause unloop).copyShape = s.copyShape := by
  unfold State.proofEnd
  split <;> simp

@[simp] theorem State.sendLoop_copyShape : s.sendLoop.copyShape = s.copyShape := by
  unfold State.sendLoop
  split <;> simp

@[simp] theorem State.failLoop_copyShape (b : LoopBlock) : (s.failLoop b).copyShape = s.copyShape := by
  unfold State.failLoop
  dsimp only
  split
  · simp
  · split <;> simp

@[simp] theorem State.loopAcked_copyShape (r : ProofRequest) : (s.loopAcked r).copyShape = s.copyShape := rfl

@[simp] theorem State.countBit_copyShape (r : ProofRequest) (bit : Bool) : (s.countBit r bit).copyShape = s.copyShape := by
  unfold State.countBit
  dsimp only
  split <;> simp

@[simp] theorem State.proofBit_copyShape (r : ProofRequest) (bit : Bool) : (s.proofBit r bit).copyShape = s.copyShape := by
  unfold State.proofBit
  dsimp only
  cases s.proof.state <;> dsimp only <;> split <;> simp

@[simp] theorem State.proofStart_copyShape (r : ProofRequest) : (s.proofStart r).copyShape = s.copyShape := by
  unfold State.proofStart
  dsimp only
  split <;> simp

@[simp] theorem State.judgeQuality_copyShape : s.judgeQuality.copyShape = s.copyShape := by
  unfold State.judgeQuality
  split <;> simp

@[simp] theorem State.settleTry_copyShape (b : CurrentBlock) (success : Bool) : (s.settleTry b success).copyShape = s.copyShape := by
  simp [State.settleTry, State.recordOutcome]

@[simp] theorem State.linkFalls_copyShape : s.linkFalls.copyShape = s.copyShape := by
  unfold State.linkFalls
  dsimp only
  split
  · simp
  · split <;> simp

@[simp] theorem State.losClears_copyShape : s.losClears.copyShape = s.copyShape := by simp [State.losClears]

@[simp] theorem State.losAsserts_copyShape : s.losAsserts.copyShape = s.copyShape := by simp [State.losAsserts]

@[simp] theorem State.losWindow_copyShape (c : LinkConfig) (active : Bool) : (s.losWindow c active).copyShape = s.copyShape := by
  simp [State.losWindow]

@[simp] theorem State.linkUp_copyShape : s.linkUp.copyShape = s.copyShape := by
  unfold State.linkUp State.resumePage
  dsimp only
  rw [State.tryTake_copyShape]
  split <;> simp

@[simp] theorem State.activityIdle_copyShape : s.activityIdle.copyShape = s.copyShape := by simp [State.activityIdle]

@[simp] theorem State.endAbortWait_copyShape : s.endAbortWait.copyShape = s.copyShape := by simp [State.endAbortWait]

@[simp] theorem State.blockAcked_copyShape (b : CurrentBlock) : (s.blockAcked b).copyShape = s.copyShape := by
  unfold State.blockAcked
  split <;> simp

@[simp] theorem State.failTry_copyShape (b : CurrentBlock) : (s.failTry b).copyShape = s.copyShape := by
  unfold State.failTry
  split <;> simp

@[simp] theorem State.takeAck_copyShape (number : Byte) : (s.takeAck number).copyShape = s.copyShape := by
  unfold State.takeAck
  split
  · simp
  · split
    · simp
    · split <;> simp

@[simp] theorem State.takeNak_copyShape (number : Byte) : (s.takeNak number).copyShape = s.copyShape := by
  unfold State.takeNak
  split
  · simp
  · split
    · simp
    · split <;> simp

@[simp] theorem State.markResent_copyShape (number : Byte) : (s.markResent number).copyShape = s.copyShape := by
  rw [State.markResent_only]; rfl

@[simp] theorem State.ackExpires_copyShape : s.ackExpires.copyShape = s.copyShape := by
  unfold State.ackExpires
  split
  · simp
  · split <;> simp

@[simp] theorem State.takeHold_copyShape : s.takeHold.copyShape = s.copyShape := by
  unfold State.takeHold
  rw [State.holdResend_only]
  simp

@[simp] theorem State.takeGo_copyShape : s.takeGo.copyShape = s.copyShape := by
  unfold State.takeGo State.goLoop
  split
  · rfl
  · dsimp only
    split
    · rfl
    · split
      · split <;> simp
      · rfl

@[simp] theorem State.takeReturn_copyShape (code : ReturnCode) (number : Byte) :
    (s.takeReturn code number).copyShape = s.copyShape := by
  unfold State.takeReturn
  split <;> simp

@[simp] theorem State.returnByte_copyShape (b : Byte) : (s.returnByte b).copyShape = s.copyShape := by
  unfold State.returnByte State.setReceiver
  split
  · rfl
  · split
    · simp
    · dsimp only
      split <;> simp
    · simp

@[simp] theorem State.returnChannel_copyShape (code : ReturnCode) (number : ReturnNumber) (check : BitVec 16) :
    (s.returnChannel code number check).copyShape = s.copyShape :=
  State.foldl_copyShape _ State.returnByte_copyShape _ s

@[simp] theorem State.blockSent_copyShape (b : ForwardBlock) : (s.blockSent b).copyShape = s.copyShape := by
  unfold State.blockSent State.loopSent
  split <;> simp

@[simp] theorem State.lossExpires_copyShape : s.lossExpires.copyShape = s.copyShape := by
  unfold State.lossExpires
  split <;> simp

@[simp] theorem State.galleyAbort_copyShape : s.galleyAbort.copyShape = s.copyShape := by
  unfold State.galleyAbort
  split <;> simp

@[simp] theorem State.pageReset_copyShape : s.pageReset.copyShape = s.copyShape := by
  unfold State.pageReset
  split <;> simp

@[simp] theorem State.linkReset_copyShape : s.linkReset.copyShape = s.copyShape := by
  simp [State.linkReset, State.goDown, State.proofReset]

@[simp] theorem State.configureLink_copyShape (c : LinkConfig) : (s.configureLink c).copyShape = s.copyShape := by
  unfold State.configureLink
  dsimp only
  split <;> simp

theorem State.abortPage_copyShape {p : Nat} {g : Page} {t : State} (h : s.abortPage p g = some t) : t.copyShape = s.copyShape := by
  unfold State.abortPage at h
  split at h <;> cases h <;> simp

/-! ## Lines -/

@[simp] theorem State.lineFault_copyShape (n : Nat) (set : Line → Line) : (s.lineFault n set).copyShape = s.copyShape := by
  simp [State.lineFault]

@[simp] theorem State.enqueue_copyShape (n : Nat) (k : QueuedKey) : (s.enqueue n k).copyShape = s.copyShape := by
  simp [State.enqueue]

@[simp] theorem State.takeFrame_copyShape (n : Nat) (c : LineConfig) (f : TermFrame) :
    (s.takeFrame n c f).copyShape = s.copyShape := by
  unfold State.takeFrame State.lineBack
  split <;> simp

@[simp] theorem State.lineDies_copyShape (n : Nat) : (s.lineDies n).copyShape = s.copyShape := by
  simp [State.lineDies, State.screenDown]

@[simp] theorem State.autoFileOf_copyShape (n : Option Nat) : (s.autoFileOf n).copyShape = s.copyShape := by
  cases n <;> simp [State.autoFileOf]

@[simp] theorem State.graceExpires_copyShape (n : Nat) : (s.graceExpires n).copyShape = s.copyShape := by
  simp [State.graceExpires]

@[simp] theorem State.restartLine_copyShape (n : Nat) (c : LineConfig) : (s.restartLine n c).copyShape = s.copyShape := by
  simp [State.restartLine]

@[simp] theorem State.restart_copyShape (n : Nat) (c : LineConfig) : (s.restart n c).copyShape = s.copyShape := by
  simp [State.restart]

@[simp] theorem State.restartKept_copyShape (n : Nat) : (s.restartKept n).copyShape = s.copyShape := by
  unfold State.restartKept
  split <;> simp

@[simp] theorem State.screensReset_copyShape : s.screensReset.copyShape = s.copyShape :=
  (State.foldl_copyShape _ State.autoFile_copyShape _ _).trans
    (State.foldl_copyShape _ State.restartKept_copyShape _ s)

theorem State.configureLine_copyShape {n : Nat} {c : LineConfig} {t : State} (h : s.configureLine n c = some t) :
    t.copyShape = s.copyShape := by
  unfold State.configureLine at h
  split at h
  · cases h; simp
  · split_ifs at h <;> cases h <;> simp [State.storeLine]

end

end Sys2Proof.Machine
end

section
/-! SUPPORT. The keys that leave the copy shape as it is (R120 to R140). -/

namespace Sys2Proof.Machine

section
variable (s : State)

/-! ## Keys that change no text and fill no record -/

@[simp] theorem State.acknowledge_copyShape (n : Nat) : (s.acknowledge n).copyShape = s.copyShape := rfl

@[simp] theorem State.cancel_copyShape (n : Nat) : (s.cancel n).copyShape = s.copyShape := rfl

@[simp] theorem State.ask_copyShape (n : Nat) (p : Prompt) (buffer : List Byte) :
    (s.ask n p buffer).copyShape = s.copyShape := rfl

@[simp] theorem State.setEscape_copyShape (n count : Nat) : (s.setEscape n count).copyShape = s.copyShape := rfl

@[simp] theorem State.keySteps_copyShape (n : Nat) : (s.keySteps n).copyShape = s.copyShape := rfl

@[simp] theorem State.readyToEdit_copyShape (n : Nat) : (s.readyToEdit n).copyShape = s.copyShape := rfl

@[simp] theorem State.editedTo_copyShape (n x : Nat) : (s.editedTo n x).copyShape = s.copyShape := rfl

@[simp] theorem State.moveKey_copyShape (n : Nat) (k : KeyFn) : (s.moveKey n k).copyShape = s.copyShape := rfl

@[simp] theorem State.moveSelection_copyShape (n : Nat) (k : KeyFn) : (s.moveSelection n k).copyShape = s.copyShape := rfl

@[simp] theorem State.enterDeskFresh_copyShape (n d : Nat) : (s.enterDeskFresh n d).copyShape = s.copyShape := rfl

@[simp] theorem State.switchView_copyShape (n : Nat) : (s.switchView n).copyShape = s.copyShape := by
  simp [State.switchView]

@[simp] theorem State.closeView_copyShape (n : Nat) : (s.closeView n).copyShape = s.copyShape := by simp [State.closeView]

@[simp] theorem State.letIn_copyShape (n d : Nat) : (s.letIn n d).copyShape = s.copyShape := by
  simp [State.letIn, State.resume]

@[simp] theorem State.signOn_copyShape (n : Nat) (buffer : List Byte) : (s.signOn n buffer).copyShape = s.copyShape := by
  simp [State.signOn]

@[simp] theorem State.openAt_copyShape (n story : Nat) : (s.openAt n story).copyShape = s.copyShape := by
  unfold State.openAt
  split <;> simp

@[simp] theorem State.viewAt_copyShape (n story : Nat) : (s.viewAt n story).copyShape = s.copyShape := by
  unfold State.viewAt
  split <;> simp

@[simp] theorem State.openSlug_copyShape (n : Nat) (view : Bool) (buffer : List Byte) :
    (s.openSlug n view buffer).copyShape = s.copyShape := by
  unfold State.openSlug
  split <;> simp

@[simp] theorem State.openSelected_copyShape (n : Nat) (view : Bool) : (s.openSelected n view).copyShape = s.copyShape := by
  unfold State.openSelected
  split <;> simp

@[simp] theorem State.fileAt_copyShape (n story : Nat) : (s.fileAt n story).copyShape = s.copyShape := by
  unfold State.fileAt
  split <;> simp

@[simp] theorem State.sendAt_copyShape (n story : Nat) (buffer : List Byte) : (s.sendAt n story buffer).copyShape = s.copyShape := by
  unfold State.sendAt
  split
  · rfl
  · split <;> simp

@[simp] theorem State.spikeAt_copyShape (n story : Nat) : (s.spikeAt n story).copyShape = s.copyShape := by
  unfold State.spikeAt
  split <;> simp

@[simp] theorem State.priorityAt_copyShape (story : Nat) (p : Priority) : (s.priorityAt story p).copyShape = s.copyShape := by
  simp [State.priorityAt]

@[simp] theorem State.releaseAt_copyShape (n : Nat) (buffer : List Byte) : (s.releaseAt n buffer).copyShape = s.copyShape := by
  unfold State.releaseAt
  split
  · simp
  · split
    · simp
    · split
      · simp
      · next h => simp [State.releasePage_copyShape s h]

@[simp] theorem State.abortAt_copyShape (n : Nat) (buffer : List Byte) : (s.abortAt n buffer).copyShape = s.copyShape := by
  unfold State.abortAt
  split
  · simp
  · split
    · simp
    · split
      · simp
      · next h => exact State.abortPage_copyShape s h

@[simp] theorem State.takeAt_copyShape (n : Nat) (buffer : List Byte) : (s.takeAt n buffer).copyShape = s.copyShape := by
  unfold State.takeAt
  split
  · simp
  · split <;> simp

@[simp] theorem State.moveSlugAt_copyShape (n : Nat) (buffer : List Byte) : (s.moveSlugAt n buffer).copyShape = s.copyShape := by
  unfold State.moveSlugAt
  split
  · simp
  · split <;> simp

@[simp] theorem State.moveDeskAt_copyShape (n : Nat) (buffer : List Byte) (story : Option Nat) :
    (s.moveDeskAt n buffer story).copyShape = s.copyShape := by
  unfold State.moveDeskAt
  split
  · simp
  · split
    · simp
    · split
      · simp
      · split
        · simp
        · split
          · simp
          · next h => simp [State.moveStory_copyShape s h]

@[simp] theorem State.functionKey_copyShape (n : Nat) (k : Key) : (s.functionKey n k).copyShape = s.copyShape := by
  unfold State.functionKey
  split
  · simp
  · split <;> simp

@[simp] theorem State.promptView_copyShape (n : Nat) : (s.promptView n).copyShape = s.copyShape := by
  simp [State.promptView]

@[simp] theorem State.signedOffKey_copyShape (n : Nat) (k : Key) : (s.signedOffKey n k).copyShape = s.copyShape := by
  unfold State.signedOffKey
  split <;> simp

@[simp] theorem State.deskKey_copyShape (n : Nat) (k : Key) : (s.deskKey n k).copyShape = s.copyShape := by
  unfold State.deskKey State.askPage
  split <;> simp

@[simp] theorem State.viewKey_copyShape (n : Nat) (k : Key) : (s.viewKey n k).copyShape = s.copyShape := by
  unfold State.viewKey
  split <;> simp

theorem State.onOwned_copyShape (n : Nat) (f : Nat → State) (hf : ∀ k, (f k).copyShape = s.copyShape) :
    (s.onOwned n f).copyShape = s.copyShape := by
  unfold State.onOwned
  split
  · exact hf _
  · rfl

@[simp] theorem State.promptChar_copyShape (n : Nat) (c : Byte) : (s.promptChar n c).copyShape = s.copyShape := by
  unfold State.promptChar
  dsimp only
  split
  · split
    · exact State.onOwned_copyShape (s.updScreen n Screen.closePrompt) n _ (State.spikeAt_copyShape _ n)
    · simp
  · split
    · exact State.onOwned_copyShape (s.updScreen n Screen.closePrompt) n _ fun k => State.priorityAt_copyShape _ k _
    · simp
  · simp

end

end Sys2Proof.Machine
end

section
/-! SUPPORT. The requests that leave the copy shape as it is: all but RESET, STORY_LOAD, STORY_APPEND and STORY_PURGE (11.5). -/

namespace Sys2Proof.Machine

/-! ## Replies and the shape of the states they come with -/

/-- A reply comes with a state of the copy shape that the state had. -/
def ShapeKept (s : State) (r : State × List Byte) : Prop := r.1.copyShape = s.copyShape

section
variable {s t : State} {st : Status} {fields : List Byte} {r : State × List Byte}

theorem ShapeKept.of_refuse : ShapeKept s (refuse s st) := rfl

theorem ShapeKept.of_answer (h : t.copyShape = s.copyShape) : ShapeKept s (answer t st fields) := h

theorem ShapeKept.guard {c : Prop} [Decidable c] (h : ShapeKept s r) : ShapeKept s (if c then refuse s st else r) := by
  split
  · exact .of_refuse
  · exact h

theorem ShapeKept.withStory {n : Nat} {k : Story → State × List Byte} (h : ∀ x, ShapeKept s (k x)) :
    ShapeKept s (withStory n s k) := by
  unfold Machine.withStory
  refine .guard ?_
  split
  · exact .of_refuse
  · exact h _

theorem ShapeKept.withPage {p : Nat} {k : Page → State × List Byte} (h : ∀ g, ShapeKept s (k g)) :
    ShapeKept s (withPage p s k) := by
  unfold Machine.withPage
  split
  · exact .of_refuse
  · exact h _

end

section
variable (body : List Byte) (s : State)

/-! ## Identification, the time of day and attention -/

theorem reqIdentify_shapeKept : ShapeKept s (reqIdentify body s) := by
  unfold reqIdentify
  split
  · exact .of_refuse
  · exact .of_answer rfl

theorem reqTimeSet_shapeKept : ShapeKept s (reqTimeSet body s) := by
  unfold reqTimeSet
  split
  · exact .of_refuse
  · exact .guard (.of_answer rfl)

theorem reqAttentionRead_shapeKept : ShapeKept s (reqAttentionRead body s) := by
  unfold reqAttentionRead
  split
  · exact .of_refuse
  · exact .guard (.of_answer rfl)

theorem reqAttentionEnable_shapeKept : ShapeKept s (reqAttentionEnable body s) := by
  unfold reqAttentionEnable
  split
  · exact .of_refuse
  · exact .guard (.of_answer rfl)

/-! ## Screens, lines and desks -/

theorem reqProfileDefine_shapeKept : ShapeKept s (reqProfileDefine body s) := by
  unfold reqProfileDefine
  split
  · exact .of_refuse
  · split
    · exact .of_refuse
    · exact .guard (.of_answer (State.overScreens_copyShape _ _ fun t n => by simp))

theorem reqLineConfigure_shapeKept : ShapeKept s (reqLineConfigure body s) := by
  unfold reqLineConfigure
  split
  · exact .of_refuse
  · split
    · exact .of_refuse
    · dsimp only
      split
      · exact .of_refuse
      · next h => exact .of_answer (State.configureLine_copyShape s h)

theorem reqScreenStatus_shapeKept : ShapeKept s (reqScreenStatus body s) := by
  unfold reqScreenStatus
  split
  · exact .of_refuse
  · exact .guard (.of_answer rfl)

theorem reqScreenMessage_shapeKept : ShapeKept s (reqScreenMessage body s) := by
  unfold reqScreenMessage
  split
  · exact .of_refuse
  · exact .guard (.of_answer (State.foldl_copyShape _ (fun t n => t.updScreen_copyShape n _) _ s))

theorem reqScreenSignoff_shapeKept : ShapeKept s (reqScreenSignoff body s) := by
  unfold reqScreenSignoff
  split
  · exact .of_refuse
  · refine .guard ?_
    split
    · exact .of_refuse
    · exact .of_refuse
    · exact .of_answer rfl
    · exact .of_answer (by simp)
    · exact .of_answer (by simp)

theorem reqDeskDefine_shapeKept : ShapeKept s (reqDeskDefine body s) := by
  unfold reqDeskDefine
  split
  · exact .of_refuse
  · split
    · exact .of_refuse
    · exact .of_answer rfl

theorem reqDeskRoute_shapeKept : ShapeKept s (reqDeskRoute body s) := by
  unfold reqDeskRoute
  split
  · exact .of_refuse
  · refine .guard ?_
    split
    · exact .of_refuse
    · exact .guard (.of_answer rfl)

theorem reqDeskList_shapeKept : ShapeKept s (reqDeskList body s) := by
  unfold reqDeskList
  split
  · exact .of_refuse
  · refine .guard ?_
    split <;> exact .of_answer rfl

/-! ## Fit engine -/

theorem reqFaceDefine_shapeKept : ShapeKept s (reqFaceDefine body s) := by
  unfold reqFaceDefine
  split
  · refine .guard ?_
    split
    · exact .of_refuse
    · exact .guard (.guard (.of_answer (State.foldl_copyShape _ State.makeStale_copyShape _ _)))
  · exact .of_refuse

theorem reqFitQuiet_shapeKept : ShapeKept s (reqFitQuiet body s) := by
  unfold reqFitQuiet
  split
  · exact .of_refuse
  · exact .of_answer rfl

theorem reqFitRequest_shapeKept : ShapeKept s (reqFitRequest body s) := by
  unfold reqFitRequest
  split
  · exact .of_refuse
  · refine .guard ?_
    split
    · exact .of_refuse
    · exact .of_answer (by simp)

theorem reqFitStatus_shapeKept : ShapeKept s (reqFitStatus body s) := by
  unfold reqFitStatus
  split
  · exact .of_refuse
  · exact .of_answer rfl

/-! ## Stories -/

theorem reqStoryRead_shapeKept : ShapeKept s (reqStoryRead body s) := by
  unfold reqStoryRead
  split
  · exact .of_refuse
  · exact .guard (.withStory fun _ => .of_answer rfl)

theorem reqStoryStatus_shapeKept : ShapeKept s (reqStoryStatus body s) := by
  unfold reqStoryStatus
  split
  · exact .of_refuse
  · refine .guard ?_
    split <;> exact .of_answer rfl

theorem reqStoryStyle_shapeKept : ShapeKept s (reqStoryStyle body s) := by
  unfold reqStoryStyle
  split
  · exact .of_refuse
  · exact .guard (.withStory fun _ => .guard (.of_answer (by simp)))

theorem reqStoryHead_shapeKept : ShapeKept s (reqStoryHead body s) := by
  unfold reqStoryHead
  split
  · exact .of_refuse
  · refine .guard (.guard (.withStory fun _ => .guard ?_))
    dsimp only
    split <;> exact .of_answer (by simp)

theorem reqStoryMove_shapeKept : ShapeKept s (reqStoryMove body s) := by
  unfold reqStoryMove
  split
  · exact .of_refuse
  · refine .guard (.withStory fun _ => .guard ?_)
    split
    · exact .of_refuse
    · next h => exact .of_answer (State.moveStory_copyShape s h)

theorem reqStorySpike_shapeKept : ShapeKept s (reqStorySpike body s) := by
  unfold reqStorySpike
  split
  · exact .of_refuse
  · refine .withStory fun x => .guard (.of_answer ?_)
    cases x.owner <;> simp

theorem reqStoryRevise_shapeKept : ShapeKept s (reqStoryRevise body s) := by
  unfold reqStoryRevise
  split
  · exact .of_refuse
  · exact .withStory fun _ => .guard (.guard (.guard (.guard (.of_answer (by simp)))))

theorem reqStoryFind_shapeKept : ShapeKept s (reqStoryFind body s) := by
  unfold reqStoryFind
  split
  · exact .of_refuse
  · split
    · exact .of_refuse
    · split
      · exact .of_refuse
      · exact .of_answer rfl

/-! ## Pages and editions -/

theorem reqPageDefine_shapeKept : ShapeKept s (reqPageDefine body s) := by
  unfold reqPageDefine
  split
  · exact .of_refuse
  · refine .guard ?_
    split
    · exact .of_refuse
    · refine .guard ?_
      dsimp only
      split
      · exact .of_answer rfl
      · exact .guard (.of_answer (State.foldl_copyShape _ State.unplace_copyShape _ s))

theorem reqPagePlace_shapeKept : ShapeKept s (reqPagePlace body s) := by
  unfold reqPagePlace
  split
  · exact .of_refuse
  · refine .guard (.withPage fun _ => ?_)
    split
    · exact .guard (.guard (.guard (.guard (.of_answer (by simp)))))
    · exact .of_refuse

theorem reqPageUnplace_shapeKept : ShapeKept s (reqPageUnplace body s) := by
  unfold reqPageUnplace
  split
  · exact .of_refuse
  · refine .guard (.withPage fun _ => ?_)
    split
    · exact .of_refuse
    · refine .guard ?_
      split <;> exact .of_answer (by simp)

theorem reqPageRelease_shapeKept : ShapeKept s (reqPageRelease body s) := by
  unfold reqPageRelease
  split
  · exact .of_refuse
  · refine .guard (.withPage fun _ => ?_)
    split
    · exact .of_answer rfl
    · next h => exact .of_answer (State.releasePage_copyShape s h)

theorem reqPageAbort_shapeKept : ShapeKept s (reqPageAbort body s) := by
  unfold reqPageAbort
  split
  · exact .of_refuse
  · refine .guard (.withPage fun _ => ?_)
    split
    · exact .of_refuse
    · next h => exact .of_answer (State.abortPage_copyShape s h)

theorem reqPageStatus_shapeKept : ShapeKept s (reqPageStatus body s) := by
  unfold reqPageStatus
  split
  · exact .of_refuse
  · refine .guard ?_
    split <;> exact .of_answer rfl

theorem reqEditionClose_shapeKept : ShapeKept s (reqEditionClose body s) := by
  unfold reqEditionClose
  split
  · exact .of_refuse
  · exact .of_answer rfl

theorem reqEditionRollover_shapeKept : ShapeKept s (reqEditionRollover body s) := by
  unfold reqEditionRollover
  split
  · exact .of_refuse
  · exact .guard (.guard (.guard (.guard (.of_answer rfl))))

theorem reqEditionStatus_shapeKept : ShapeKept s (reqEditionStatus body s) := by
  unfold reqEditionStatus
  split
  · exact .of_refuse
  · exact .of_answer rfl

/-! ## Typesetter link and proof -/

theorem reqLinkConfigure_shapeKept : ShapeKept s (reqLinkConfigure body s) := by
  unfold reqLinkConfigure
  split
  · exact .of_refuse
  · exact .guard (.of_answer (by simp))

theorem reqLinkStatus_shapeKept : ShapeKept s (reqLinkStatus body s) := by
  unfold reqLinkStatus
  split
  · exact .of_refuse
  · exact .of_answer rfl

theorem reqProofStart_shapeKept : ShapeKept s (reqProofStart body s) := by
  unfold reqProofStart
  split
  · exact .of_refuse
  · split
    · exact .guard (.guard (.guard (.of_answer (by simp))))
    · exact .of_refuse

theorem reqProofStop_shapeKept : ShapeKept s (reqProofStop body s) := by
  unfold reqProofStop
  split
  · exact .of_refuse
  · exact .guard (.of_answer (by simp))

theorem reqProofResult_shapeKept : ShapeKept s (reqProofResult body s) := by
  unfold reqProofResult
  split
  · exact .of_refuse
  · exact .of_answer rfl

end

end Sys2Proof.Machine
end

section
/-! SUPPORT. What changes the copy store, a text primitive, a creation, a purge or a full reset, leaves it whole (R9 to R16). -/

namespace Sys2Proof.Machine

/-! ## A chain put in place -/

/-- A chain put in the place of another takes its share of the block numbers. -/
theorem count_flatMap_nums_set (chains : List Chain) (n : Nat) (c : Chain) (h : n < chains.length) (a : Nat) :
    ((chains.set n c).flatMap Chain.nums).count a + (chains.getD n []).nums.count a =
      (chains.flatMap Chain.nums).count a + c.nums.count a := by
  have hsplit : chains = chains.take n ++ chains[n] :: chains.drop (n + 1) := by simp
  have hset : chains.set n c = chains.take n ++ c :: chains.drop (n + 1) := List.set_eq_take_append_cons_drop .. ▸ if_pos h
  rw [hset, List.getD_eq_getElem _ _ h]
  conv => rhs; rw [hsplit]
  simp only [List.flatMap_append, List.flatMap_cons, List.count_append]
  omega

theorem State.chain_putChain (s : State) (n m : Nat) (c : Chain) (free : List Nat) (h : n < s.store.chains.length) :
    (s.putChain n c free).chain m = if m = n then c else s.chain m := by
  rw [State.chain, State.putChain_store, State.chain, List.getD_eq_getElem?_getD, List.getD_eq_getElem?_getD]
  split
  · next hm => simp [hm, h]
  · next hm => rw [List.getElem?_set_ne (Ne.symm hm)]

@[simp] theorem State.putChain_stories (s : State) (n : Nat) (c : Chain) (free : List Nat) :
    (s.putChain n c free).stories = s.stories := by rw [State.putChain_only]

@[simp] theorem State.story_putChain (s : State) (n m : Nat) (c : Chain) (free : List Nat) :
    (s.putChain n c free).story m = s.story m := by rw [State.story, State.putChain_stories]; rfl

section
variable {s t : State} {n : Nat}

theorem StoreWhole.lt_of_story (hw : StoreWhole s) (hx : s.story n ≠ none) : n < 512 := by
  obtain ⟨hlength, -⟩ := hw
  by_contra hn
  exact hx (List.getD_eq_default _ _ (by omega))

theorem StoreWhole.chain_mem (hw : StoreWhole s) (hn : n < 512) : s.chain n ∈ s.store.chains := by
  obtain ⟨-, hlength, -⟩ := hw
  rw [State.chain, List.getD_eq_getElem _ _ (by omega)]
  exact List.getElem_mem _

theorem StoreWhole.chain_full (hw : StoreWhole s) (hn : n < 512) : (s.chain n).full := by
  have hmem := hw.chain_mem hn
  obtain ⟨-, -, -, hbounds, -⟩ := hw
  exact (hbounds _ hmem).2

/-- A chain of blocks within the bounds, whose numbers and the free stack's are those of the old chain and the old stack, leaves the
store whole where its record is not EMPTY. -/
theorem StoreWhole.putChain (hw : StoreWhole s) (hx : s.story n ≠ none) {c : Chain} {free : List Nat} (hcount : c.count ≤ 30000)
    (hfull : c.full) (hperm : (free ++ c.nums).Perm (s.store.free ++ (s.chain n).nums)) :
    StoreWhole (s.putChain n c free) := by
  have hn := hw.lt_of_story hx
  obtain ⟨hstories, hchains, hblocks, hbounds, hempty⟩ := hw
  have hin : n < s.store.chains.length := by omega
  refine ⟨by simpa using hstories, by simpa using hchains, ?_, fun d hd => ?_, fun m hm => ?_⟩
  · refine List.Perm.trans ?_ hblocks
    rw [State.putChain_store, List.perm_iff_count]
    intro a
    have hset := count_flatMap_nums_set s.store.chains n c hin a
    have hshare := List.perm_iff_count.1 hperm a
    simp only [List.count_append, State.chain] at hshare ⊢
    omega
  · rw [State.putChain_store] at hd
    rcases List.mem_or_eq_of_mem_set hd with hd | rfl
    · exact hbounds d hd
    · exact ⟨hcount, hfull⟩
  · rw [State.story_putChain] at hm
    have hne : m ≠ n := fun h => hx (h ▸ hm)
    rw [State.chain_putChain s n m c free hin, if_neg hne]
    exact hempty m hm

/-! ## The primitives (R12 to R14, R16) -/

/-- An insert that passes its checks puts the longer chain in place (R12). -/
theorem State.insertChar_eq_ok {x : Nat} {c : Byte} (h : s.insertChar n x c = .ok t) :
    s.count n < 30000 ∧ ∃ r, (s.chain n).insert c s.store.free x = some r ∧ t = s.putChain n r.1 r.2 := by
  unfold State.insertChar at h
  split at h
  · cases h
  · next hcount =>
    split at h
    · cases h
    · next r free hr => exact ⟨Nat.lt_of_not_le hcount, _, hr, (Except.ok.inj h).symm⟩

/-- A delete within the text puts the shorter chain in place (R13). -/
theorem State.deleteChar_eq_some {x : Nat} (h : s.deleteChar n x = some t) :
    x < s.count n ∧ t = s.putChain n ((s.chain n).delete s.store.free x).1 ((s.chain n).delete s.store.free x).2 := by
  unfold State.deleteChar at h
  split at h
  · next hx => exact ⟨hx, (Option.some.inj h).symm⟩
  · cases h

theorem StoreWhole.insertChar (hw : StoreWhole s) (hx : s.story n ≠ none) {x : Nat} {c : Byte}
    (h : s.insertChar n x c = .ok t) : StoreWhole t := by
  obtain ⟨hcount, r, hr, rfl⟩ := State.insertChar_eq_ok h
  obtain ⟨htext, hperm, hfull⟩ := Chain.insert_spec c s.store.free (s.chain n) x r hr
  refine hw.putChain hx ?_ (hfull (hw.chain_full (hw.lt_of_story hx))) hperm
  rw [State.count, Chain.count_eq] at hcount
  rw [Chain.count_eq, htext, length_insertCode]
  omega

theorem StoreWhole.count_le (hw : StoreWhole s) (hn : n < 512) : s.count n ≤ 30000 := by
  have hmem := hw.chain_mem hn
  obtain ⟨-, -, -, hbounds, -⟩ := hw
  exact (hbounds _ hmem).1

theorem StoreWhole.deleteChar (hw : StoreWhole s) (hx : s.story n ≠ none) {x : Nat} (h : s.deleteChar n x = some t) :
    StoreWhole t := by
  obtain ⟨hin, rfl⟩ := State.deleteChar_eq_some h
  obtain ⟨htext, hperm, hfull⟩ := Chain.delete_spec s.store.free (s.chain n) x hin
  have hcount := hw.count_le (hw.lt_of_story hx)
  refine hw.putChain hx ?_ (hfull (hw.chain_full (hw.lt_of_story hx))) hperm
  rw [State.count, Chain.count_eq] at hcount
  rw [Chain.count_eq, htext, List.length_eraseIdx]
  split <;> omega

theorem State.appendRun_count {run : List Byte} (h : s.appendRun n run = .ok t) : s.count n + run.length ≤ 30000 := by
  unfold State.appendRun at h
  split at h
  · cases h
  · next hcount => exact Nat.le_of_not_lt hcount

theorem StoreWhole.appendRun (hw : StoreWhole s) (hx : s.story n ≠ none) {run : List Byte} (h : s.appendRun n run = .ok t) :
    StoreWhole t := by
  have hcount := State.appendRun_count h
  obtain ⟨hneeded, rfl⟩ := State.appendRun_eq_ok h
  obtain ⟨htext, hperm, hfull⟩ := Chain.append_spec (s.chain n) s.store.free run hneeded
  refine hw.putChain hx ?_ (hfull (hw.chain_full (hw.lt_of_story hx))) hperm
  rw [State.count, Chain.count_eq] at hcount
  rw [Chain.count_eq, htext, List.length_append]
  exact hcount

theorem StoreWhole.releaseChain (hw : StoreWhole s) (hx : s.story n ≠ none) : StoreWhole (s.releaseChain n) :=
  hw.putChain hx (by simp) Chain.full_nil (by simpa using Chain.release_perm s.store.free (s.chain n))

/-! ## Records filled and emptied (R20, R42) -/

theorem State.story_setStory (s : State) (n m : Nat) (x : Option Story) (h : n < s.stories.length) :
    (s.setStory n x).story m = if m = n then x else s.story m := by
  rw [State.story, State.setStory, State.story, List.getD_eq_getElem?_getD, List.getD_eq_getElem?_getD]
  split
  · next hm => simp [hm, h]
  · next hm => rw [List.getElem?_set_ne (Ne.symm hm)]

/-- A record that is filled, or emptied with its chain released, leaves the store whole. -/
theorem StoreWhole.setStory (hw : StoreWhole s) {x : Option Story} (hx : x = none → s.chain n = []) :
    StoreWhole (s.setStory n x) := by
  obtain ⟨hstories, hchains, hblocks, hbounds, hempty⟩ := hw
  refine ⟨by simpa [State.setStory] using hstories, hchains, hblocks, hbounds, fun m hm => ?_⟩
  by_cases hn : n < s.stories.length
  · rw [State.story_setStory s n m x hn] at hm
    split at hm
    · next hmn => exact hmn ▸ hx hm
    · exact hempty m hm
  · have hset : s.stories.set n x = s.stories := List.set_eq_of_length_le (Nat.le_of_not_lt hn)
    exact hempty m (by rwa [State.setStory, hset] at hm)

theorem StoreWhole.setStory_some (hw : StoreWhole s) {x : Story} : StoreWhole (s.setStory n (some x)) := hw.setStory nofun

/-- A chain released and its record emptied leave the store whole. -/
theorem StoreWhole.release (hw : StoreWhole s) (hx : s.story n ≠ none) : StoreWhole ((s.releaseChain n).setStory n none) := by
  have hn := hw.lt_of_story hx
  refine (hw.releaseChain hx).setStory fun _ => ?_
  obtain ⟨-, hchains, -⟩ := hw
  rw [State.releaseChain, State.chain_putChain _ _ _ _ _ (by omega), if_pos rfl]

theorem story_ne_none_of_copyShape (h : t.copyShape = s.copyShape) (hx : s.story n ≠ none) : t.story n ≠ none := by
  rwa [Ne, State.story_eq_none_iff, h, ← State.story_eq_none_iff]

theorem StoreWhole.purge (hw : StoreWhole s) (n : Nat) : StoreWhole (s.purge n) := by
  unfold State.purge
  split
  · exact hw
  · next x hx =>
    have hshape : ((x.viewers.foldl (fun u v => u.sendToDesk v (str "PURGED")) s).unplace n).copyShape = s.copyShape :=
      (State.unplace_copyShape _ n).trans (State.foldl_copyShape _ (fun u v => u.sendToDesk_copyShape v _) _ s)
    have hne : s.story n ≠ none := by simp [hx]
    exact ((hw.of_copyShape hshape).release (story_ne_none_of_copyShape hshape hne)).of_copyShape
      (State.forgetFit_copyShape _ n)

/-! ## Requests that change the store -/

theorem State.appendRun_story {run : List Byte} (h : s.appendRun n run = .ok t) (m : Nat) : t.story m = s.story m := by
  obtain ⟨-, rfl⟩ := State.appendRun_eq_ok h
  exact State.story_putChain ..

/-- A record filled and a text appended to it leave the store whole (R36). -/
theorem StoreWhole.filled (hw : StoreWhole s) (hn : n < 512) {x : Story} {run : List Byte}
    (h : (s.setStory n (some x)).appendRun n run = .ok t) : StoreWhole t ∧ t.story n ≠ none := by
  have hx : (s.setStory n (some x)).story n ≠ none := by
    obtain ⟨hlength, -⟩ := hw
    rw [State.story_setStory s n n _ (by omega), if_pos rfl]
    simp
  exact ⟨hw.setStory_some.appendRun hx h, by rwa [State.appendRun_story h]⟩

theorem reqStoryLoad_whole (hw : StoreWhole s) (body : List Byte) : StoreWhole (reqStoryLoad body s).1 := by
  unfold reqStoryLoad
  split
  · exact hw
  split
  · exact hw
  split
  case h_2 => exact hw
  split
  · exact hw
  split
  · exact hw
  split
  · exact hw
  split
  · exact hw
  next k hempty =>
  dsimp only
  split
  · exact hw
  next u happend =>
  obtain ⟨hu, hfilled⟩ := hw.filled (State.emptyRecord_eq_some hempty).1 happend
  unfold State.finishLoad
  split
  · next v hfinish =>
    split at hfinish
    · cases hfinish
    · cases hfinish
      exact hu.release hfilled
  · next v hfinish =>
    split at hfinish
    · cases hfinish
      exact hu.of_copyShape (by simp [answer, State.schedule])
    · cases hfinish

theorem State.hostAppend_eq_ok {run : List Byte} (h : s.hostAppend n run = .ok t) :
    ∃ u, s.appendRun n run = .ok u ∧
      t = (u.followText n none (afterInsert (s.count n) run.length) id).versionChange n := by
  unfold State.hostAppend at h
  split at h
  · cases h
  · next u hu => exact ⟨u, hu, (Except.ok.inj h).symm⟩

/-- A judgement of a story of the table that leaves the store whole. -/
theorem withStory_whole (hw : StoreWhole s) {k : Story → State × List Byte}
    (hk : ∀ x, s.story n = some x → StoreWhole (k x).1) : StoreWhole (withStory n s k).1 := by
  unfold withStory
  split
  · exact hw
  · split
    · exact hw
    · next x hx => exact hk x hx

theorem reqStoryAppend_whole (hw : StoreWhole s) (body : List Byte) : StoreWhole (reqStoryAppend body s).1 := by
  unfold reqStoryAppend
  split
  · exact hw
  · split
    · exact hw
    · refine withStory_whole hw fun x hx => ?_
      split
      · exact hw
      · split
        · exact hw
        · split
          · exact hw
          · next u hu =>
            obtain ⟨v, hv, rfl⟩ := State.hostAppend_eq_ok hu
            exact (hw.appendRun (by simp [hx]) hv).of_copyShape (by simp [answer])

theorem reqStoryPurge_whole (hw : StoreWhole s) (body : List Byte) : StoreWhole (reqStoryPurge body s).1 := by
  unfold reqStoryPurge
  split
  · exact hw
  · refine withStory_whole hw fun x _ => ?_
    split
    · exact hw.purge _
    · exact hw

/-! ## Resets -/

theorem StoreWhole.reset : StoreWhole State.reset := by
  have hchain : ∀ n, State.reset.chain n = [] := fun n => by
    simp only [State.chain, State.reset, Store.reset, List.getD_eq_getElem?_getD, List.getElem?_replicate]
    split <;> rfl
  refine ⟨List.length_replicate, List.length_replicate, ?_, fun c hc => ?_, fun n _ => hchain n⟩
  · have hnone : (List.replicate Config.stories ([] : Chain)).flatMap Chain.nums = [] :=
      List.flatMap_eq_nil_iff.2 fun c hc => by rw [List.eq_of_mem_replicate hc]; rfl
    rw [show State.reset.store.chains = List.replicate Config.stories [] from rfl, hnone, List.append_nil]
    exact List.Perm.refl _
  · rw [show State.reset.store.chains = List.replicate Config.stories [] from rfl] at hc
    rw [List.eq_of_mem_replicate hc]
    exact ⟨by simp, Chain.full_nil⟩

theorem StoreWhole.fullReset (s : State) : StoreWhole s.fullReset := StoreWhole.reset.of_copyShape rfl

theorem reqReset_whole (hw : StoreWhole s) (body : List Byte) : StoreWhole (reqReset body s).1 := by
  unfold reqReset
  split
  · exact hw
  · split
    · exact hw.of_copyShape s.screensReset_copyShape
    · exact hw.of_copyShape s.linkReset_copyShape
    · exact .fullReset s
    · exact hw

/-- Every request of the catalogue leaves the store whole (11.5). -/
theorem catalogue_whole {kind : Nat} {handler : List Byte → State → State × List Byte} (hk : catalogue kind = some handler)
    (hw : StoreWhole s) (body : List Byte) : StoreWhole (handler body s).1 := by
  unfold catalogue at hk
  split at hk <;> cases hk
  · exact hw.of_copyShape (reqIdentify_shapeKept body s)
  · exact hw.of_copyShape (reqTimeSet_shapeKept body s)
  · exact reqReset_whole hw body
  · exact hw.of_copyShape (reqAttentionRead_shapeKept body s)
  · exact hw.of_copyShape (reqAttentionEnable_shapeKept body s)
  · exact hw.of_copyShape (reqProfileDefine_shapeKept body s)
  · exact hw.of_copyShape (reqLineConfigure_shapeKept body s)
  · exact hw.of_copyShape (reqScreenStatus_shapeKept body s)
  · exact hw.of_copyShape (reqScreenMessage_shapeKept body s)
  · exact hw.of_copyShape (reqScreenSignoff_shapeKept body s)
  · exact hw.of_copyShape (reqDeskDefine_shapeKept body s)
  · exact hw.of_copyShape (reqDeskRoute_shapeKept body s)
  · exact hw.of_copyShape (reqDeskList_shapeKept body s)
  · exact hw.of_copyShape (reqFaceDefine_shapeKept body s)
  · exact hw.of_copyShape (reqFitQuiet_shapeKept body s)
  · exact hw.of_copyShape (reqFitRequest_shapeKept body s)
  · exact hw.of_copyShape (reqFitStatus_shapeKept body s)
  · exact reqStoryLoad_whole hw body
  · exact reqStoryAppend_whole hw body
  · exact hw.of_copyShape (reqStoryRead_shapeKept body s)
  · exact hw.of_copyShape (reqStoryStatus_shapeKept body s)
  · exact hw.of_copyShape (reqStoryStyle_shapeKept body s)
  · exact hw.of_copyShape (reqStoryHead_shapeKept body s)
  · exact hw.of_copyShape (reqStoryMove_shapeKept body s)
  · exact hw.of_copyShape (reqStorySpike_shapeKept body s)
  · exact reqStoryPurge_whole hw body
  · exact hw.of_copyShape (reqStoryRevise_shapeKept body s)
  · exact hw.of_copyShape (reqStoryFind_shapeKept body s)
  · exact hw.of_copyShape (reqPageDefine_shapeKept body s)
  · exact hw.of_copyShape (reqPagePlace_shapeKept body s)
  · exact hw.of_copyShape (reqPageUnplace_shapeKept body s)
  · exact hw.of_copyShape (reqPageRelease_shapeKept body s)
  · exact hw.of_copyShape (reqPageAbort_shapeKept body s)
  · exact hw.of_copyShape (reqPageStatus_shapeKept body s)
  · exact hw.of_copyShape (reqEditionClose_shapeKept body s)
  · exact hw.of_copyShape (reqEditionRollover_shapeKept body s)
  · exact hw.of_copyShape (reqEditionStatus_shapeKept body s)
  · exact hw.of_copyShape (reqLinkConfigure_shapeKept body s)
  · exact hw.of_copyShape (reqLinkStatus_shapeKept body s)
  · exact hw.of_copyShape (reqProofStart_shapeKept body s)
  · exact hw.of_copyShape (reqProofStop_shapeKept body s)
  · exact hw.of_copyShape (reqProofResult_shapeKept body s)

end

end Sys2Proof.Machine
end

section
/-! SUPPORT. Every step leaves the copy store whole (R9, R12). -/

namespace Sys2Proof.Machine

section
variable {s : State}

/-! ## Keys that create a story or change a text (R26, R131) -/

theorem StoreWhole.onOwned (hw : StoreWhole s) (n : Nat) {f : Nat → State} (hf : ∀ k, StoreWhole (f k)) :
    StoreWhole (s.onOwned n f) := by
  unfold State.onOwned
  split
  · exact hf _
  · exact hw

theorem StoreWhole.newAt (hw : StoreWhole s) (n : Nat) (buffer : List Byte) : StoreWhole (s.newAt n buffer) := by
  unfold State.newAt
  split
  · split
    · exact hw
    · split
      · split
        · exact hw
        · exact hw.setStory_some.of_copyShape (State.enterStory_copyShape _ _ _ _)
      · exact hw
  · exact hw

theorem StoreWhole.complete (hw : StoreWhole s) (n : Nat) : StoreWhole (s.complete n) := by
  have ht : StoreWhole (s.updScreen n Screen.closePrompt) := hw
  unfold State.complete
  dsimp only
  split
  case h_4 => exact ht.newAt n _
  case h_6 => exact ht.onOwned n fun k => ht.of_copyShape (State.sendAt_copyShape _ n k _)
  all_goals exact ht.of_copyShape (by simp)

theorem StoreWhole.promptKey (hw : StoreWhole s) (n : Nat) (k : Key) : StoreWhole (s.promptKey n k) := by
  unfold State.promptKey
  split
  case h_3 | h_4 => exact hw.complete n
  all_goals exact hw.of_copyShape (by simp)

theorem State.owns_ne_none {n k : Nat} (h : ¬(!s.owns n k) = true) : s.story k ≠ none := by
  intro hnone
  simp [State.owns, hnone] at h

theorem StoreWhole.insertKey (hw : StoreWhole s) (n k : Nat) (c : Byte) : StoreWhole (s.insertKey n k c) := by
  have ht : StoreWhole (s.readyToEdit n) := hw
  unfold State.insertKey State.keyInsert
  dsimp only
  split
  · exact ht
  · next howns =>
    split
    · exact ht
    · next u hu =>
      split at hu
      · cases hu
      · next v hv =>
        cases hu
        exact (ht.insertChar (State.owns_ne_none howns) hv).of_copyShape (by simp)

theorem StoreWhole.deleteKeyAt (hw : StoreWhole s) (n k x : Nat) : StoreWhole (s.deleteKeyAt n k x) := by
  unfold State.deleteKeyAt State.keyDelete
  split
  · exact hw
  · next howns =>
    split
    · exact hw
    · next u hu =>
      obtain ⟨v, hv, rfl⟩ := Option.map_eq_some_iff.1 hu
      exact (hw.deleteChar (State.owns_ne_none howns) hv).of_copyShape (by simp)

theorem StoreWhole.ruboutKey (hw : StoreWhole s) (n k : Nat) : StoreWhole (s.ruboutKey n k) := by
  have ht : StoreWhole (s.readyToEdit n) := hw
  unfold State.ruboutKey
  dsimp only
  split
  · exact ht
  · exact ht.deleteKeyAt n k _

theorem StoreWhole.deleteKey (hw : StoreWhole s) (n k : Nat) : StoreWhole (s.deleteKey n k) :=
  StoreWhole.deleteKeyAt (s := s.readyToEdit n) hw n k _

theorem StoreWhole.editKey (hw : StoreWhole s) (n story : Nat) (k : Key) : StoreWhole (s.editKey n story k) := by
  unfold State.editKey State.noteKey
  split
  case h_1 | h_2 | h_3 => exact hw.insertKey n story _
  case h_4 => exact hw.ruboutKey n story
  case h_5 => exact hw.deleteKey n story
  all_goals exact hw.of_copyShape (by simp)

/-! ## Taking a key (R121, R147) -/

theorem StoreWhole.stateKey (hw : StoreWhole s) (n : Nat) (k : Key) : StoreWhole (s.stateKey n k) := by
  unfold State.stateKey
  split
  case h_4 => exact hw.onOwned n fun story => hw.editKey n story k
  all_goals exact hw.of_copyShape (by simp)

theorem StoreWhole.sequenceKey (hw : StoreWhole s) (n : Nat) (k : Struck) : StoreWhole (s.sequenceKey n k) := by
  unfold State.sequenceKey
  dsimp only
  split
  · exact hw.of_copyShape (by simp)
  · split
    · exact hw.of_copyShape (by simp)
    · exact StoreWhole.stateKey (s := s.setEscape n 0) hw n k.key

theorem StoreWhole.takeKey (hw : StoreWhole s) (n : Nat) (k : Struck) : StoreWhole (s.takeKey n k) := by
  have ht : StoreWhole (s.keySteps n) := hw
  unfold State.takeKey
  dsimp only
  split
  · exact hw
  · split
    · exact hw
    · split
      · exact ht.promptKey n k.key
      · split
        · exact ht.of_copyShape (State.signedOffKey_copyShape _ n k.key)
        · exact ht.sequenceKey n k

theorem StoreWhole.keyTaken (hw : StoreWhole s) (n : Nat) (k : Struck) : StoreWhole (s.keyTaken n k) := by
  unfold State.keyTaken
  split
  · split
    · exact StoreWhole.takeKey (s := { s.updLine n Line.dequeue with keyTurn := n }) hw n k
    · exact hw
  · split
    · exact StoreWhole.takeKey (s := { s with keyTurn := n }) hw n k
    · exact hw

/-! ## The host line (R201, R202) -/

theorem StoreWhole.serve (hw : StoreWhole s) (r : Request) : StoreWhole (s.serve r) := by
  unfold State.serve
  split
  · exact hw
  · next h => exact catalogue_whole h hw r.body

theorem StoreWhole.accept (hw : StoreWhole s) (r : Request) : StoreWhole (s.accept r) := by
  unfold State.accept
  split
  · exact hw.serve r
  · exact hw.of_copyShape (by simp)

theorem State.frameLost_copyShape (s : State) : s.frameLost.copyShape = s.copyShape := by
  simp [State.frameLost, State.hunt]

theorem StoreWhole.assemble (hw : StoreWhole s) (bytes : List Byte) : StoreWhole (s.assemble bytes) := by
  unfold State.assemble
  dsimp only
  split
  · exact hw
  · split
    · exact hw.of_copyShape s.frameLost_copyShape
    · split
      · exact hw
      · split
        · exact StoreWhole.accept (s := s.hunt) hw _
        · exact hw.of_copyShape s.frameLost_copyShape

theorem StoreWhole.hostByte (hw : StoreWhole s) (b : Byte) : StoreWhole (s.hostByte b) := by
  unfold State.hostByte
  split
  · exact hw.of_copyShape (by simp)
  · exact hw.assemble _

theorem StoreWhole.hostBytes (bytes : List Byte) : ∀ {s : State}, StoreWhole s → StoreWhole (s.hostBytes bytes) := by
  induction bytes with
  | nil => exact id
  | cons b bytes ih => exact fun hw => ih (hw.hostByte b)

theorem StoreWhole.breakFrame (hw : StoreWhole s) : StoreWhole s.breakFrame := by
  unfold State.breakFrame
  split
  · exact hw
  · exact hw.of_copyShape s.frameLost_copyShape

theorem StoreWhole.replySent (hw : StoreWhole s) : StoreWhole s.replySent := by
  unfold State.replySent
  split
  · exact hw
  · split
    · exact hw
    · exact StoreWhole.serve (s := s.updHost fun h => { h with reply := none, hold := none }) hw _

theorem StoreWhole.requestIn (hw : StoreWhole s) (r : Request) : StoreWhole (s.requestIn r) := by
  unfold State.requestIn
  split
  · exact hw.of_copyShape s.frameLost_copyShape
  · exact StoreWhole.accept (s := s.hunt) hw r

/-! ## Commands -/

/-- An outcome whose next state, if it has one, has a whole store. -/
def NextWhole (o : Host.Outcome State Fault Refusal) : Prop := ∀ t, o = .next t → StoreWhole t

/-- Every command ends with a layout, which the store does not enter. -/
theorem StoreWhole.settled (hw : StoreWhole s) : NextWhole (.next s.settle) := fun t ht => by
  cases ht
  exact hw.of_copyShape s.settle_copyShape

/-- A command that leaves the copy shape as it is, before its layout, leaves the store whole. -/
theorem StoreWhole.kept (hw : StoreWhole s) {t : State} (h : t.copyShape = s.copyShape) : NextWhole (.next t.settle) :=
  (hw.of_copyShape h).settled

theorem StoreWhole.request (hw : StoreWhole s) (kind tag : Byte) (body : List Byte) : NextWhole (requestOutcome kind tag body s) :=
  (hw.requestIn _).settled

theorem StoreWhole.key (hw : StoreWhole s) (n : Fin 32) (k : Struck) : NextWhole (keyOutcome n k s) := (hw.keyTaken n k).settled

theorem StoreWhole.keyPrintable (hw : StoreWhole s) (n : Fin 32) (code : Byte) : NextWhole (execKeyPrintable n code s) := by
  unfold execKeyPrintable
  split
  · exact hw.key n _
  · exact hw.settled

theorem StoreWhole.transmissionComplete (hw : StoreWhole s) (n : Fin 32) : NextWhole (execTransmissionComplete n s) := by
  unfold execTransmissionComplete
  split <;> exact hw.kept (by simp)

theorem StoreWhole.terminalCharacterReceived (hw : StoreWhole s) (n : Fin 32) (f : TermFrame) :
    NextWhole (execTerminalCharacterReceived n f s) := by
  unfold execTerminalCharacterReceived
  split <;> exact hw.kept (by simp)

theorem StoreWhole.breakEnd (hw : StoreWhole s) (n : Fin 32) : NextWhole (execBreakEnd n s) := by
  unfold execBreakEnd
  split <;> exact hw.kept (by simp)

theorem StoreWhole.losWindowEnd (hw : StoreWhole s) (active : Bool) : NextWhole (execLosWindowEnd active s) := by
  unfold execLosWindowEnd
  split <;> exact hw.kept (by simp)

theorem StoreWhole.acquireTimerExpiry (hw : StoreWhole s) : NextWhole (execAcquireTimerExpiry s) := by
  unfold execAcquireTimerExpiry
  split <;> exact hw.kept (by simp)

theorem StoreWhole.blockSent (hw : StoreWhole s) : NextWhole (execBlockSent s) := by
  unfold execBlockSent
  split
  · exact hw.settled
  · split <;> exact hw.kept (by simp)

theorem StoreWhole.proofBitReceived (hw : StoreWhole s) (bit : Bool) : NextWhole (execProofBitReceived bit s) := by
  unfold execProofBitReceived
  split <;> exact hw.kept (by simp)

theorem StoreWhole.proofTimebaseReached (hw : StoreWhole s) (bit : Bool) : NextWhole (execProofTimebaseReached bit s) := by
  unfold execProofTimebaseReached
  split
  · exact hw.settled
  · split <;> exact hw.kept (by simp)

theorem StoreWhole.unloopSent (hw : StoreWhole s) : NextWhole (execUnloopSent s) := by
  unfold execUnloopSent
  split
  · dsimp only
    refine hw.kept ?_
    split <;> simp
  · exact hw.settled

/-- Every command leaves the store whole: the requests by the catalogue, the keys by what they take, and the rest, but for a full
reset, by their copy shape. -/
theorem StoreWhole.exec (hw : StoreWhole s) : ∀ c : Instr, NextWhole (exec c s)
  | .powerOn _ => (StoreWhole.fullReset _).settled
  | .hostFrameReceived bytes => (StoreWhole.hostBytes bytes hw).settled
  | .frameAbandoned bytes | .frameGapTimeout bytes => (StoreWhole.hostBytes bytes hw).breakFrame.settled
  | .replySent => hw.replySent.settled
  | .attentionNotice => hw.kept (by simp)
  | .resetScreens tag | .resetLink tag | .resetAll tag => hw.request _ tag _
  | .identify tag body | .timeSet tag body | .attentionRead tag body | .attentionEnable tag body | .profileDefine tag body
  | .lineConfigure tag body | .screenStatus tag body | .screenMessage tag body | .screenSignoff tag body | .deskDefine tag body
  | .deskRoute tag body | .deskList tag body | .faceDefine tag body | .fitQuiet tag body | .fitRequest tag body
  | .fitStatus tag body | .linkConfigure tag body | .linkStatus tag body | .proofStart tag body | .proofStop tag body
  | .proofResult tag body | .storyLoad tag body | .storyAppend tag body | .storyRead tag body | .storyStatus tag body
  | .storyStyle tag body | .storyHead tag body | .storyMove tag body | .storySpike tag body | .storyPurge tag body
  | .storyRevise tag body | .storyFind tag body | .pageDefine tag body | .pagePlace tag body | .pageUnplace tag body
  | .pageRelease tag body | .pageAbort tag body | .pageStatus tag body | .editionClose tag body | .editionRollover tag body
  | .editionStatus tag body => hw.request _ tag body
  | .timeOfDayAdvance => hw.kept s.advance_copyShape
  | .idleTimerExpiry n | .ringTimerExpiry n => hw.kept (s.updScreen_copyShape n _)
  | .graceExpiry n => hw.kept (by simp)
  | .refitDue => hw.kept s.firstDue_copyShape
  | .fitPassComplete => hw.kept s.completePass_copyShape
  | .terminalCharacterReceived n f => hw.terminalCharacterReceived n f
  | .breakEnd n => hw.breakEnd n
  | .breakTimerExpiry n => hw.kept (by simp)
  | .keyPrintable n code => hw.keyPrintable n code
  | .keyUnmapped n | .keySupervisorCode n | .keyInsertEp n | .keyRubout n | .keyDelete n | .keyNote n | .keyLeft n
  | .keyRight n | .keyUp n | .keyDown n | .keyPrev n | .keyNext n | .keyTop n | .keyBottom n | .keyEnter n | .keyCancel n
  | .keyNew n | .keyOpen n | .keyView n | .keyClose n | .keyFile n | .keySend n | .keySpike n | .keyPriority n | .keyFit n
  | .keyViewmode n | .keyAck n | .keySignoff n | .keyRelease n | .keyAbort n => hw.key n _
  | .transmissionComplete n => hw.transmissionComplete n
  | .losWindowEnd active => hw.losWindowEnd active
  | .acquireTimerExpiry => hw.acquireTimerExpiry
  | .ready number check | .ack number check | .nak number check | .hold number check | .go number check =>
    hw.kept (s.returnChannel_copyShape _ number check)
  | .blockSent => hw.blockSent
  | .ackTimeout => hw.kept (by simp)
  | .lossTimerExpiry => hw.kept s.lossExpires_copyShape
  | .abortWaitExpiry => hw.kept (by simp)
  | .proofBitReceived bit => hw.proofBitReceived bit
  | .proofTimebaseReached bit => hw.proofTimebaseReached bit
  | .unloopSent => hw.unloopSent

end

/-! ## The obligation -/

/-- Settles O5: the timebase leaves the copy shape as it is, and every command leaves the store whole by `StoreWhole.exec`. -/
theorem everyStepKeepsTheStoreWhole : Obligations.EveryStepKeepsTheStoreWhole := by
  intro s t hw hstep
  unfold step at hstep
  split at hstep
  · cases hstep
    exact hw
  · next c rest _ => exact StoreWhole.exec (s := s.withPending rest) hw c t hstep

end Sys2Proof.Machine
end

section
/-! SUPPORT. What the tables read as after a full reset, and the invariants of that state (R18, R45, R67, R90, R173, R191, R208). -/

namespace Sys2Proof.Machine

/-! ## The tables after a full reset -/

/-- A table of one record reads as that record, within it and beyond it. -/
theorem getD_replicate_self {α : Type} (count n : Nat) (a : α) : (List.replicate count a).getD n a = a := by
  rw [List.getD_eq_getElem?_getD]
  exact List.getElem?_getD_replicate_default_eq ..

@[simp] theorem State.story_reset (n : Nat) : State.reset.story n = none := getD_replicate_self ..

@[simp] theorem State.basket_reset (d : Nat) : State.reset.basket d = [] := getD_replicate_self ..

@[simp] theorem State.screen_reset (n : Nat) : State.reset.screen n = Screen.reset := getD_replicate_self ..

@[simp] theorem State.line_reset (n : Nat) : State.reset.line n = Line.reset := getD_replicate_self ..

@[simp] theorem State.page_reset (p : Nat) : State.reset.page p = none := getD_replicate_self ..

/-! ## The invariants after a full reset -/

/-- Every table has its size, and each of its records is the one that a full reset puts there. -/
theorem withinLimits_reset : WithinLimits State.reset := by
  refine ⟨List.length_replicate, List.length_replicate, List.length_replicate, List.length_replicate, List.length_replicate,
    List.length_replicate, List.length_replicate, fun l hl => ?_, fun t ht => ?_, fun l hl => ?_, by decide, by decide,
    by decide, fun c hc => ?_, by decide, by decide⟩
  · simp [List.eq_of_mem_replicate hl]
  · simp [List.eq_of_mem_replicate ht]
  · rw [List.eq_of_mem_replicate hl]
    decide
  · rw [List.eq_of_mem_replicate hc]
    decide

theorem attentionConsistent_reset : AttentionConsistent State.reset := by
  unfold AttentionConsistent
  decide

theorem linkConsistent_reset : LinkConsistent State.reset := by
  unfold LinkConsistent
  decide

theorem basketsHold_reset : BasketsHold State.reset := by simp [BasketsHold]

theorem fitsHold_reset : FitsHold State.reset := by simp [FitsHold]

theorem screenHolds_reset : Screen.reset.holds := by
  unfold Screen.holds
  decide

theorem lineHolds_reset : Line.reset.holds Screen.reset := by
  unfold Line.holds
  decide

theorem screensHold_reset : ScreensHold State.reset := by
  refine ⟨fun n => ⟨?_, ?_, ?_⟩, by simp⟩
  · rw [State.screen_reset]
    exact screenHolds_reset
  · rw [State.screen_reset, State.line_reset]
    exact lineHolds_reset
  · rw [State.screen_reset]
    nofun

theorem pagesHold_reset : PagesHold State.reset := by
  refine ⟨List.nodup_nil, nofun, fun p _ => ?_, nofun, by decide, by decide, fun h => absurd rfl h⟩
  rw [State.page_reset]
  exact ⟨⟨nofun, nofun⟩, ⟨nofun, nofun⟩⟩

theorem copyConsistent_reset : CopyConsistent State.reset :=
  ⟨⟨List.length_replicate, List.length_replicate, List.length_replicate, List.length_replicate, List.length_replicate,
    List.length_replicate⟩, basketsHold_reset, fitsHold_reset, screensHold_reset, pagesHold_reset⟩

theorem listsWithinLimits_reset : ListsWithinLimits State.reset := by
  refine ⟨List.nodup_nil, nofun, by decide, List.nodup_nil, nofun, by decide, fun c hc => ?_, by decide, by decide, nofun,
    trivial⟩
  rw [List.eq_of_mem_replicate hc]
  exact ⟨List.nodup_nil, by decide, by decide, fun h => absurd rfl h⟩

/-! ## The obligation -/

/-- Settles O9, with one lemma for each of the six invariants. -/
theorem resetMeetsTheInvariants : Obligations.ResetMeetsTheInvariants :=
  ⟨.reset, withinLimits_reset, attentionConsistent_reset, linkConsistent_reset, copyConsistent_reset, listsWithinLimits_reset⟩

end Sys2Proof.Machine
end

section
/-! SUPPORT. Bodies read back as the fields they were made of (R210), and requests answered (R202). -/

namespace Sys2Proof.Machine

/-! ## Numbers, texts and styles read back (R210, 11.6) -/

@[simp] theorem length_be (width n : Nat) : (be width n).length = width := by
  induction width with
  | zero => rfl
  | succ width ih => simp [be, ih]

theorem foldl_be (width n a : Nat) :
    (be width n).foldl (fun a b => a * 256 + b.toNat) a = a * 256 ^ width + n % 256 ^ width := by
  induction width generalizing a with
  | zero => simp [be, Nat.mod_one]
  | succ width ih =>
    have hdigit : (byte (n / 256 ^ width)).toNat = n / 256 ^ width % 256 := by simp [byte]
    rw [be, List.foldl_cons, ih, hdigit, Nat.pow_succ, Nat.mod_mul]
    ring

theorem ofBe_be (width n : Nat) (h : n < 256 ^ width) : ofBe (be width n) = n := by
  rw [ofBe, foldl_be, Nat.mod_eq_of_lt h]
  omega

theorem readBytes_append (t rest : List Byte) : (readBytes t.length).run (t ++ rest) = some (t, rest) := by
  simp [readBytes, StateT.run]

theorem readNat_be (width n : Nat) (h : n < 256 ^ width) (rest : List Byte) :
    (readNat width).run (be width n ++ rest) = some (n, rest) := by
  have hbytes := readBytes_append (be width n) rest
  rw [length_be] at hbytes
  simp [readNat, hbytes, ofBe_be width n h]

theorem readText_textField (width : Nat) (t : List Byte) (h : t.length < 256 ^ width) (rest : List Byte) :
    (readText width).run (textField width t ++ rest) = some (t, rest) := by
  simp [readText, textField, readNat_be width t.length h, readBytes_append]

theorem readStyle_styleField (y : Style) (h : y.carried) (rest : List Byte) :
    readStyle.run (styleField y ++ rest) = some (y, rest) := by
  obtain ⟨hface, hsize, hset, hleading, hmeasure, hindent⟩ := h
  simp [readStyle, styleField, readNat_be, hface, hsize, hset, hleading, hmeasure, hindent]

/-- A layout that reads a whole body and leaves nothing. -/
theorem readBody_eq_some {α : Type} {layout : Rd α} {body : List Byte} {a : α} (h : layout.run body = some (a, [])) :
    readBody layout body = some a := by rw [readBody, h]

/-! ## A request served at once (R201, R202) -/

section
variable {kind : Byte} {body : List Byte} {s t : State} {b : List Byte}
  {handler : List Byte → State → State × List Byte}

/-- A request with no reply under way is judged as its frame completes, and what its judgement leaves is replied and laid out. -/
theorem requestOutcome_of_judged (tag : Byte) (hreply : s.host.reply = none) (hlength : body.length ≤ 1024)
    (hk : catalogue kind.toNat = some handler) (hkind : kind ≠ 0x04) (h : handler body s.hunt = (t, b)) :
    requestOutcome kind tag body s = .next (t.reply (kind + 0x80) tag b (t.host.noticesDue != 0)).settle := by
  have htaken : s.requestIn ⟨kind, tag, body⟩ = s.hunt.serve ⟨kind, tag, body⟩ := by
    rw [State.requestIn, if_neg (by simpa [maxBody] using hlength), State.accept, if_pos (by simp [State.hunt, hreply])]
  rw [requestOutcome, htaken, State.serve]
  simp only [hk, h, noticeContends, if_neg hkind]

/-- A request whose judgement leaves the state as it was is answered, and nothing else (R202). -/
theorem requestOutcome_of_same (tag : Byte) (hreply : s.host.reply = none) (hlength : body.length ≤ 1024)
    (hk : catalogue kind.toNat = some handler) (hkind : kind ≠ 0x04) (h : handler body s.hunt = (s.hunt, b)) :
    requestOutcome kind tag body s = .next (s.answered (kind + 0x80) tag b).settle := by
  have hanswered : s.hunt.reply (kind + 0x80) tag b (s.hunt.host.noticesDue != 0) = s.answered (kind + 0x80) tag b := rfl
  rw [requestOutcome_of_judged tag hreply hlength hk hkind h, hanswered]

end

/-- The judgement of a request that names a story of the table. -/
theorem withStory_eq {s : State} {n : Nat} {x : Story} (hn : n < 512) (hx : s.story n = some x)
    (k : Story → State × List Byte) : withStory n s k = k x := by
  rw [withStory, if_neg (by omega), hx]

/-! ## STORY_READ and STORY_FIND (R15, R21, R38, R44) -/

theorem slugOf_eq_some {slug : List Byte} (hmin : 1 ≤ slug.length) (hmax : slug.length ≤ 12)
    (hcodes : (slug.map foldCase).all isSlugCode = true) : slugOf slug = some (slug.map foldCase) := by
  unfold slugOf
  exact if_pos ⟨by simpa using hmin, by simpa using hmax, hcodes⟩

/-- The slug map names the one story that has a slug (R21). -/
theorem State.findSlug_eq_some {s : State} {n : Nat} {x : Story} (hn : n < 512) (hx : s.story n = some x)
    (hunique : ∀ m < 512, ∀ u, s.story m = some u → u.slug = x.slug → m = n) : s.findSlug x.slug = some n := by
  refine List.find?_range_eq_some.2 ⟨by simp [hx], List.mem_range.2 hn, fun m hm => ?_⟩
  cases hu : s.story m with
  | none => rfl
  | some u =>
    have hother : u.slug ≠ x.slug := fun h => (Nat.ne_of_lt hm) (hunique m (by omega) u hu h)
    simpa using hother

theorem reqStoryRead_eq {s : State} {n x len : Nat} {t : Story} (hn : n < 512) (hx : x < 65536) (hlen : len ≤ 1000)
    (ht : s.story n = some t) :
    reqStoryRead (be 2 n ++ be 2 x ++ be 2 len) s =
      answer s .ok (be 2 (s.count n) ++ be 4 t.version.toNat ++ textField 2 (((s.text n).drop x).take len)) := by
  have hbody : readBody (do
      let n ← readNat 2
      let x ← readNat 2
      let len ← readNat 2
      return (n, x, len)) (be 2 n ++ be 2 x ++ be 2 len) = some (n, x, len) := by
    have hlast := readNat_be 2 len (by omega) []
    rw [List.append_nil] at hlast
    apply readBody_eq_some
    simp [readNat_be 2 n (by omega), readNat_be 2 x (by omega), hlast]
  rw [reqStoryRead, hbody]
  dsimp only
  rw [if_neg (by omega), withStory_eq hn ht]
  rfl

theorem reqStoryFind_eq {s : State} {n : Nat} {t : Story} {slug : List Byte} (hn : n < 512) (hmin : 1 ≤ slug.length)
    (hmax : slug.length ≤ 12) (hcodes : (slug.map foldCase).all isSlugCode = true) (ht : s.story n = some t)
    (hslug : t.slug = slug.map foldCase) (hunique : ∀ m < 512, ∀ u, s.story m = some u → u.slug = t.slug → m = n) :
    reqStoryFind (be 1 slug.length ++ slug) s = answer s .ok (be 2 n ++ be 1 t.state.code) := by
  have hbody : readBody (readText 1) (be 1 slug.length ++ slug) = some slug := by
    have hread := readText_textField 1 slug (by omega) []
    rw [List.append_nil] at hread
    exact readBody_eq_some hread
  have hfound : s.findSlug (slug.map foldCase) = some n := hslug ▸ State.findSlug_eq_some hn ht hunique
  simp only [reqStoryFind, hbody, slugOf_eq_some hmin hmax hcodes, hfound, ht, Option.map_some, Option.getD_some]

/-- Settles O17: the two judgements, and an answer that changes nothing else. -/
theorem readAndFindReportTheStory : Obligations.ReadAndFindReportTheStory := by
  constructor
  · intro tag n x len t s hreply hn hx hlen ht
    have hstory : s.hunt.story n = some t := ht
    exact requestOutcome_of_same tag hreply (by simp) rfl (by decide) (reqStoryRead_eq hn hx hlen hstory)
  · intro tag slug n t s hreply hn hmin hmax hcodes ht hslug hunique
    have hstory : s.hunt.story n = some t := ht
    exact requestOutcome_of_same tag hreply (by simp; omega) rfl (by decide)
      (reqStoryFind_eq hn hmin hmax hcodes hstory hslug hunique)

end Sys2Proof.Machine
end

section
/-! SUPPORT. What a layout, a change of a version and a report of the threshold leave of the screens, the records and the host line
(R17, R25, R80, R96). -/

namespace Sys2Proof.Machine

/-! ## Screens read from a table that was mapped -/

section
variable {s t : State}

/-- A screen beyond the table is the one of a full reset before and after. -/
theorem State.screen_of_mapIdx {f : Nat → Screen → Screen} (h : t.screens = s.screens.mapIdx f) (m : Nat) :
    t.screen m = if m < s.screens.length then f m (s.screen m) else s.screen m := by
  rw [State.screen, State.screen, h, List.getD_eq_getElem?_getD, List.getD_eq_getElem?_getD, List.getElem?_mapIdx]
  split
  · next hm => simp [hm]
  · next hm => simp [hm]

theorem State.screen_of_map {f : Screen → Screen} (h : t.screens = s.screens.map f) (m : Nat) :
    t.screen m = if m < s.screens.length then f (s.screen m) else s.screen m := by
  rw [State.screen, State.screen, h, List.getD_eq_getElem?_getD, List.getD_eq_getElem?_getD, List.getElem?_map]
  split
  · next hm => simp [hm]
  · next hm => simp [hm]

theorem State.screen_kept_of_map {f : Screen → Screen} (h : t.screens = s.screens.map f) (hf : ∀ c, (f c).kept = c.kept)
    (m : Nat) : (t.screen m).kept = (s.screen m).kept := by
  rw [State.screen_of_map h]
  split
  · exact hf _
  · rfl

theorem State.screen_kept_of_mapIdx {f : Nat → Screen → Screen} (h : t.screens = s.screens.mapIdx f)
    (hf : ∀ n c, (f n c).kept = c.kept) (m : Nat) : (t.screen m).kept = (s.screen m).kept := by
  rw [State.screen_of_mapIdx h]
  split
  · exact hf _ _
  · rfl

end

/-! ## The layout that ends a command (R96, R108, R109) -/

theorem settleBasket_kept (s : State) (c : Screen) : (settleBasket s c).kept = c.kept := by
  unfold settleBasket
  split <;> rfl

theorem layOut_kept (s : State) (c : Screen) : (layOut s c).kept = c.kept := by
  unfold layOut
  split
  · rfl
  · exact settleBasket_kept s c

theorem nextItem_kept (c : Screen) : (nextItem c).2.kept = c.kept := by
  unfold nextItem
  split
  · rfl
  · split
    · rfl
    · split
      · rfl
      · split
        · rfl
        · dsimp only
          split <;> rfl

theorem startItem_kept (l : Line) (c : Screen) : (startItem l c).1.kept = l.kept ∧ (startItem l c).2.kept = c.kept := by
  unfold startItem
  have hnext := nextItem_kept c
  split
  · split
    · next i d hd =>
      rw [hd] at hnext
      exact ⟨by rw [Line.takeItem_only]; rfl, hnext⟩
    · next d hd =>
      rw [hd] at hnext
      exact ⟨rfl, hnext⟩
  · exact ⟨rfl, rfl⟩

section
variable (s : State)

theorem State.screen_settle_kept (m : Nat) : (s.settle.screen m).kept = (s.screen m).kept :=
  (State.screen_kept_of_mapIdx (s := s.layOutAll) rfl (fun _ c => (startItem_kept _ c).2) m).trans
    (State.screen_kept_of_map rfl (layOut_kept s) m)

theorem State.lines_settle_kept : s.settle.lines.map Line.kept = s.lines.map Line.kept := by
  refine List.ext_getElem? fun n => ?_
  simp only [State.settle, State.startItems, State.layOutAll, List.getElem?_map, List.getElem?_mapIdx]
  cases s.lines[n]? with
  | none => rfl
  | some l => exact congrArg some (startItem_kept l _).1

@[simp] theorem State.story_settle (m : Nat) : s.settle.story m = s.story m := rfl

@[simp] theorem State.chain_settle (m : Nat) : s.settle.chain m = s.chain m := rfl

@[simp] theorem State.storeLow_settle : s.settle.storeLow = s.storeLow := rfl

@[simp] theorem State.cursor_settle (m : Nat) : (s.settle.screen m).cursor = (s.screen m).cursor := by
  simpa only [Screen.kept] using congrArg Screen.cursor (s.screen_settle_kept m)

@[simp] theorem State.mode_settle (m : Nat) : (s.settle.screen m).mode = (s.screen m).mode := by
  simpa only [Screen.kept] using congrArg Screen.mode (s.screen_settle_kept m)

@[simp] theorem State.screenStory_settle (m : Nat) : (s.settle.screen m).story = (s.screen m).story := by
  simpa only [Screen.kept] using congrArg Screen.story (s.screen_settle_kept m)

/-! ## A change of a version (R25, R80, R82) -/

theorem snapTop_only (c : Screen) : snapTop s c = { c with top := (snapTop s c).top } := by
  unfold snapTop
  split
  · split <;> rfl
  · rfl

/-- A drop to TYPE view changes no more than the view mode and the tops, and leaves TYPE view (R107). -/
theorem dropToType_only (c : Screen) :
    dropToType s c = { c with setView := false, setTop := (dropToType s c).setTop, top := (dropToType s c).top } := by
  by_cases h : c.setView
  · have hdrop : dropToType s c = snapTop s { c with setView := false, setTop := 0 } := if_pos h
    rw [hdrop, snapTop_only]
  · have hdrop : dropToType s c = c := if_neg h
    rw [hdrop, ← Bool.eq_false_iff.2 h]

theorem State.screen_dropSetViews (n m : Nat) :
    (s.dropSetViews n).screen m =
      if (s.screen m).showsStory n then dropToType s (s.screen m) else s.screen m := by
  rw [State.screen_of_map (s := s) rfl m]
  split
  · rfl
  · next hm =>
    have hreset : s.screen m = Screen.reset := List.getD_eq_default _ _ (Nat.le_of_not_lt hm)
    rw [hreset]
    rfl

theorem State.screen_touchDesk_kept (d m : Nat) : ((s.touchDesk d).screen m).kept = (s.screen m).kept :=
  State.screen_kept_of_map rfl (fun c => by split <;> rfl) m

theorem State.screen_touchStory_kept (n m : Nat) : ((s.touchStory n).screen m).kept = (s.screen m).kept := by
  have hshown : ∀ t : State, t.screens = (s.screens.map fun c =>
      if c.showsStory n then { c with layoutTime := s.clock.time } else c) → (t.screen m).kept = (s.screen m).kept :=
    fun t ht => State.screen_kept_of_map ht (fun c => by split <;> rfl) m
  unfold State.touchStory
  dsimp only
  split
  · exact (State.screen_touchDesk_kept _ _ m).trans (hshown _ rfl)
  · exact hshown _ rfl

/-- A change of a version takes the screens that show the story out of SET view, and changes nothing else that a screen keeps. -/
theorem State.screen_versionChange_kept (n m : Nat) :
    ((s.versionChange n).screen m).kept =
      (if (s.screen m).showsStory n then dropToType s (s.screen m) else s.screen m).kept :=
  (State.screen_touchStory_kept _ n m).trans (congrArg Screen.kept (State.screen_dropSetViews _ n m))

theorem State.touchStory_stories (n : Nat) : (s.touchStory n).stories = s.stories := by rw [State.touchStory_only]

theorem State.story_versionChange (n : Nat) : (s.versionChange n).story n = (s.story n).map Story.changed := by
  have h : (s.versionChange n).story n =
      ((s.updStory n fun x => { x with version := x.version + 1 }).updStory n Story.staleFit).story n :=
    congrArg (List.getD · n none) (State.touchStory_stories _ n)
  rw [h, State.story_updStory, State.story_updStory, Option.map_map]
  rfl

theorem State.story_versionChange_of_ne {n m : Nat} (h : m ≠ n) : (s.versionChange n).story m = s.story m := by
  have hstory : (s.versionChange n).story m =
      ((s.updStory n fun x => { x with version := x.version + 1 }).updStory n Story.staleFit).story m :=
    congrArg (List.getD · m none) (State.touchStory_stories _ n)
  rw [hstory, State.story_updStory_of_ne _ _ _ _ h, State.story_updStory_of_ne _ _ _ _ h]

theorem State.fit_versionChange (n : Nat) : (s.versionChange n).fit = (s.schedule n).fit := by
  unfold State.versionChange State.makeStale
  rw [State.touchStory_only]
  rfl

end

/-- A story that is scheduled has one entry, on the step after its quiet time, and nothing else of the fit engine changes (R82). -/
theorem rescheduled_of_fit {s t : State} {n : Nat} (h : t.fit = (s.schedule n).fit) : Rescheduled s t n := by
  have hfilter := placeRefit_filter ⟨n, s.clock.steps + s.fit.quiet + 1⟩ (s.fit.refit.filter fun e => e.story != n)
    (fun e he => by simpa using (List.mem_filter.1 he).2)
  refine ⟨?_, ?_, by rw [h]; rfl, by rw [h]; rfl, by rw [h]; rfl, by rw [h]; rfl⟩
  · rw [h]
    exact hfilter.1
  · rw [h]
    exact hfilter.2

/-! ## A chain put in place, and its report (R11, R17) -/

section
variable (s : State) (n : Nat) (c : Chain) (free : List Nat)

theorem State.storeLow_eq_of_store {s t : State} (h : t.store = s.store) : t.storeLow = s.storeLow := by
  rw [State.storeLow, State.freeCount, h]
  rfl

/-- STORE_LOW is reported where the free count falls below the threshold, and only there. -/
theorem State.host_putChain :
    (s.putChain n c free).host =
      if s.storeLow = false ∧ (s.putChain n c free).storeLow = true then (s.raise .storeLow).host else s.host := by
  have hlow : (s.putChain n c free).storeLow = State.storeLow { s with store := ⟨free, s.store.chains.set n c⟩ } :=
    State.storeLow_eq_of_store (State.putChain_store s n c free)
  have hraise : (State.raise { s with store := ⟨free, s.store.chains.set n c⟩ } .storeLow).host = (s.raise .storeLow).host := by
    apply State.raise_host_congr
    rfl
  rw [hlow]
  unfold State.putChain State.reportCrossing
  cases s.storeLow <;> cases State.storeLow { s with store := ⟨free, s.store.chains.set n c⟩ } <;> simp [hraise]

theorem State.screen_putChain_kept (m : Nat) : ((s.putChain n c free).screen m).kept = (s.screen m).kept := by
  obtain ⟨f, hf⟩ := State.putChain_screens s n c free
  exact State.screen_kept_of_map hf (fun _ => rfl) m

end

/-! ## Replies (R202) -/

/-- The receiver takes no part in a rise. -/
theorem HostLine.rise_receiver (h : HostLine) (f : Flag) (r : Receiver) :
    HostLine.rise { h with receiver := r } f = { h.rise f with receiver := r } := by
  unfold HostLine.rise HostLine.notify HostLine.raised
  dsimp only
  by_cases hraised : h.flags.getLsbD f.bit <;> by_cases hout : h.outstanding <;> simp [hraised, hout]

theorem State.host_hunt_raise (s : State) (f : Flag) : (s.hunt.raise f).host = (s.raise f).hunt.host := by
  have hrise : s.hunt.host.rise f = { s.host.rise f with receiver := .hunting } := HostLine.rise_receiver s.host f .hunting
  have henabled : s.hunt.host.enabled f = s.host.enabled f := rfl
  have hhunt : (s.raise f).hunt.host = { (s.raise f).host with receiver := .hunting } := rfl
  rw [State.raise_host_eq, hrise, henabled, hhunt, State.raise_host_eq]
  split <;> rfl

/-- The report of the threshold by a request's judgement, before or after the receiver goes to HUNTING (R17, R202). -/
theorem State.host_hunt_storeLow (s : State) (low : Bool) :
    (if s.hunt.storeLow = false ∧ low = true then (s.hunt.raise .storeLow).host else s.hunt.host) =
      (if s.storeLow = false ∧ low = true then s.raise .storeLow else s).hunt.host := by
  have hlow : s.hunt.storeLow = s.storeLow := rfl
  rw [hlow]
  split
  · exact State.host_hunt_raise s .storeLow
  · rfl

/-- The reply of a judged request is the answer of any state with its host line. -/
theorem State.host_reply {t u : State} (h : t.host = u.hunt.host) (kind tag : Byte) (b : List Byte) :
    (t.reply kind tag b (t.host.noticesDue != 0)).host = (u.answered kind tag b).host := by
  rw [State.reply, State.updHost_host, h]
  rfl

end Sys2Proof.Machine
end

section
/-! SUPPORT. A change of a text, by a key or by the host: what it does to the store, the record, the screens and the host line
(R11 to R17, R25, R82, R106). -/

namespace Sys2Proof.Machine

/-- A longer or shorter chain in place, the screens of its story moved with it, and the version changed: what an insert, a delete and
an append do once their checks pass (R25, R106). -/
def State.textChanged (s : State) (n : Nat) (r : Chain × List Nat) (by_ : Option Nat) (move ownTop : Nat → Nat) : State :=
  ((s.putChain n r.1 r.2).followText n by_ move ownTop).versionChange n

section
variable (s : State) (n : Nat) (r : Chain × List Nat) (by_ : Option Nat) (move ownTop : Nat → Nat)

theorem State.textChanged_only :
    s.textChanged n r by_ move ownTop = { s with
      store := ⟨r.2, s.store.chains.set n r.1⟩
      stories := (s.textChanged n r by_ move ownTop).stories
      screens := (s.textChanged n r by_ move ownTop).screens
      fit := (s.textChanged n r by_ move ownTop).fit
      host := (s.putChain n r.1 r.2).host } := by
  unfold State.textChanged
  rw [State.versionChange_only]
  unfold State.followText
  rw [State.putChain_only]

theorem State.store_textChanged : (s.textChanged n r by_ move ownTop).store = ⟨r.2, s.store.chains.set n r.1⟩ := by
  rw [State.textChanged_only]

theorem State.chain_textChanged (h : n < s.store.chains.length) (m : Nat) :
    (s.textChanged n r by_ move ownTop).chain m = if m = n then r.1 else s.chain m := by
  rw [← State.chain_putChain s n m r.1 r.2 h, State.chain, State.store_textChanged, State.chain, State.putChain_store]

theorem State.story_textChanged : (s.textChanged n r by_ move ownTop).story n = (s.story n).map Story.changed := by
  have hstory : ((s.putChain n r.1 r.2).followText n by_ move ownTop).story n = s.story n := State.story_putChain s n n r.1 r.2
  rw [State.textChanged, State.story_versionChange, hstory]

theorem State.othersKept_textChanged (h : n < s.store.chains.length) : OthersKept s (s.textChanged n r by_ move ownTop) n :=
  fun m hm => by
    have hstory : ((s.putChain n r.1 r.2).followText n by_ move ownTop).story m = s.story m :=
      State.story_putChain s n m r.1 r.2
    refine ⟨?_, ?_⟩
    · rw [State.textChanged, State.story_versionChange_of_ne _ hm, hstory]
    · rw [State.chain_textChanged s n r by_ move ownTop h, if_neg hm]

theorem State.rescheduled_textChanged : Rescheduled s (s.textChanged n r by_ move ownTop) n := by
  refine rescheduled_of_fit ?_
  rw [State.textChanged, State.fit_versionChange]
  unfold State.followText
  rw [State.putChain_only]
  rfl

theorem State.storeLow_textChanged :
    (s.textChanged n r by_ move ownTop).storeLow = (s.putChain n r.1 r.2).storeLow := by
  apply State.storeLow_eq_of_store
  rw [State.store_textChanged, State.putChain_store]

/-- The report of a text change: STORE_LOW where the free count falls below the threshold (R17). -/
theorem State.host_textChanged :
    (s.textChanged n r by_ move ownTop).host =
      if s.storeLow = false ∧ (s.textChanged n r by_ move ownTop).storeLow = true then (s.raise .storeLow).host
      else s.host := by
  rw [State.storeLow_textChanged, ← State.host_putChain, State.textChanged_only]

/-! ## The screens of the story (R106, R107) -/

theorem Screen.showsStory_of_kept {c d : Screen} (h : c.kept = d.kept) (n : Nat) : c.showsStory n = d.showsStory n := by
  have hstory : c.story = d.story := by simpa only [Screen.kept] using congrArg Screen.story h
  rw [Screen.showsStory, Screen.showsStory, Screen.storyNo, Screen.storyNo, hstory]

theorem State.screen_followText (m : Nat) :
    (s.followText n by_ move ownTop).screen m =
      if (s.screen m).showsStory n then snapTop s ((s.screen m).followText move ownTop (by_ == some m)) else s.screen m := by
  rw [State.screen_of_mapIdx (s := s) rfl m]
  split
  · rfl
  · next hm =>
    have hreset : s.screen m = Screen.reset := List.getD_eq_default _ _ (Nat.le_of_not_lt hm)
    rw [hreset]
    rfl

/-- A screen with its tops, its cursor and its view mode elsewhere. -/
def Screen.movedTo (top setTop cursor : Nat) (setView : Bool) (c : Screen) : Screen :=
  { c with top := top, setTop := setTop, cursor := cursor, setView := setView }

theorem Screen.movedTo_kept (top setTop cursor : Nat) (setView : Bool) (c : Screen) :
    (c.movedTo top setTop cursor setView).kept = c.kept.movedTo top setTop cursor setView := rfl

/-- A screen that follows a text change moves its top, and its cursor unless its own key made the change (R106). -/
theorem snapTop_followText (t : State) (own : Bool) (c : Screen) :
    ∃ top, snapTop t (c.followText move ownTop own) =
      c.movedTo top c.setTop (if own then c.cursor else move c.cursor) c.setView := by
  rw [snapTop_only]
  cases own <;> exact ⟨_, rfl⟩

theorem dropToType_eq_movedTo (t : State) (c : Screen) :
    ∃ top setTop, dropToType t c = c.movedTo top setTop c.cursor false := ⟨_, _, dropToType_only t c⟩

/-- Where the cursor of a screen stands after a text change: a screen that does not show the story, and the one whose key changed it,
keep it. -/
def Screen.movedCursor (n : Nat) (own : Bool) (move : Nat → Nat) (c : Screen) : Nat :=
  if c.showsStory n && !own then move c.cursor else c.cursor

theorem Screen.movedCursor_afterInsert (x len : Nat) (c : Screen) :
    c.movedCursor n false (afterInsert x len) = if c.storyNo = some n ∧ x ≤ c.cursor then c.cursor + len else c.cursor := by
  unfold Screen.movedCursor Screen.showsStory afterInsert
  by_cases h : c.storyNo = some n <;> simp [h]

/-- A text change leaves SET view on the screens of the story, and moves their cursors and tops; it changes nothing else that a screen
keeps. -/
theorem State.screen_textChanged_kept (m : Nat) :
    ∃ top setTop, ((s.textChanged n r by_ move ownTop).screen m).kept =
      (s.screen m).kept.movedTo top setTop ((s.screen m).movedCursor n (by_ == some m) move)
        ((s.screen m).setView && !(s.screen m).showsStory n) := by
  have hkept := s.screen_putChain_kept n r.1 r.2 m
  have hshows := Screen.showsStory_of_kept hkept n
  rw [State.textChanged, State.screen_versionChange_kept, State.screen_followText, hshows, Screen.movedCursor]
  generalize (s.putChain n r.1 r.2).screen m = c at hkept hshows ⊢
  by_cases h : (s.screen m).showsStory n
  · have hcursor : c.cursor = (s.screen m).cursor := by simpa only [Screen.kept] using congrArg Screen.cursor hkept
    obtain ⟨top, hfollowed⟩ := snapTop_followText move ownTop (s.putChain n r.1 r.2) (by_ == some m) c
    rw [if_pos h, hfollowed]
    have hshown : (c.movedTo top c.setTop (if by_ == some m then c.cursor else move c.cursor) c.setView).showsStory n = true :=
      hshows.trans h
    obtain ⟨top', setTop', hdropped⟩ := dropToType_eq_movedTo
      ((s.putChain n r.1 r.2).followText n by_ move ownTop)
      (c.movedTo top c.setTop (if by_ == some m then c.cursor else move c.cursor) c.setView)
    refine ⟨top', setTop', ?_⟩
    rw [if_pos hshown, hdropped, Screen.movedTo_kept, Screen.movedTo_kept, hkept, hcursor]
    cases by_ == some m <;> simp [h, Screen.movedTo]
  · rw [if_neg h, if_neg (by rw [hshows]; exact h), hkept]
    exact ⟨(s.screen m).top, (s.screen m).setTop, by simp [h, Screen.movedTo, Screen.kept]⟩

end

/-- State u is state s after a change of story n's text to the one given, with the screens' cursors moved as told, and nothing else
changed but what the change of the version and the report of the threshold bring. -/
structure TextChange (s u : State) (n : Nat) (by_ : Option Nat) (move : Nat → Nat) (text : List Byte) : Prop where
  only : u = { s with store := u.store, stories := u.stories, screens := u.screens, fit := u.fit, host := u.host }
  text_eq : u.text n = text
  story_eq : u.story n = (s.story n).map Story.changed
  others : OthersKept s u n
  rescheduled : Rescheduled s u n
  screen_kept : ∀ m, ∃ top setTop, (u.screen m).kept =
    (s.screen m).kept.movedTo top setTop ((s.screen m).movedCursor n (by_ == some m) move)
      ((s.screen m).setView && !(s.screen m).showsStory n)
  host_eq : u.host = if s.storeLow = false ∧ u.storeLow = true then (s.raise .storeLow).host else s.host

theorem State.textChange_textChanged (s : State) (n : Nat) (r : Chain × List Nat) (by_ : Option Nat) (move ownTop : Nat → Nat)
    (h : n < s.store.chains.length) :
    TextChange s (s.textChanged n r by_ move ownTop) n by_ move r.1.text where
  only := by rw [State.textChanged_only]
  text_eq := by rw [State.text, State.chain_textChanged s n r by_ move ownTop h, if_pos rfl]
  story_eq := s.story_textChanged n r by_ move ownTop
  others := s.othersKept_textChanged n r by_ move ownTop h
  rescheduled := s.rescheduled_textChanged n r by_ move ownTop
  screen_kept := s.screen_textChanged_kept n r by_ move ownTop
  host_eq := s.host_textChanged n r by_ move ownTop

section
variable {s u : State} {n : Nat} {by_ : Option Nat} {move : Nat → Nat} {text : List Byte}

theorem TextChange.cursor (h : TextChange s u n by_ move text) (m : Nat) :
    (u.screen m).cursor = (s.screen m).movedCursor n (by_ == some m) move := by
  obtain ⟨top, setTop, hm⟩ := h.screen_kept m
  simpa only [Screen.kept, Screen.movedTo] using congrArg Screen.cursor hm

theorem TextChange.desks (h : TextChange s u n by_ move text) : u.desks = s.desks := by rw [h.only]

theorem TextChange.baskets (h : TextChange s u n by_ move text) : u.baskets = s.baskets := by rw [h.only]

theorem TextChange.sameOutput (h : TextChange s u n by_ move text) : SameOutput s u := by
  rw [h.only]
  exact ⟨rfl, rfl, rfl, rfl, rfl⟩

theorem TextChange.sameLines (h : TextChange s u n by_ move text) : SameLines s u := by
  rw [h.only]
  exact ⟨rfl, rfl, rfl, rfl, rfl⟩

end

/-- A layout that ends a command leaves the lines as SameLines asks. -/
theorem SameLines.settle {s u : State} (h : SameLines s u) : SameLines s u.settle := by
  obtain ⟨hlines, hprofiles, hclock, hpins, hpending⟩ := h
  exact ⟨(State.lines_settle_kept u).trans hlines, hprofiles, hclock, hpins, hpending⟩

/-! ## STORY_APPEND (R14, R37) -/

/-- The blocks that an append needs are no more than those of its own characters. -/
theorem Chain.needed_le (c : Chain) (n : Nat) : c.needed n ≤ (n + 63) / 64 := by
  have hblock : Config.blockSize = 64 := rfl
  unfold Chain.needed
  rw [hblock]
  split <;> omega

theorem State.appendRun_eq {s : State} {n : Nat} {run : List Byte} (hcount : s.count n + run.length ≤ 30000)
    (hfree : (run.length + 63) / 64 ≤ s.store.free.length) :
    s.appendRun n run =
      .ok (s.putChain n ((s.chain n).append s.store.free run).1 ((s.chain n).append s.store.free run).2) := by
  have hneeded := (s.chain n).needed_le run.length
  have hlimit : ¬Config.maxStory < s.count n + run.length := Nat.not_lt.2 hcount
  have hblocks : ¬s.freeCount < (s.chain n).needed run.length := by
    rw [State.freeCount]
    omega
  rw [State.appendRun, if_neg hlimit, if_neg hblocks]

/-- An append that passes its checks is a change of the text to the longer one (R37). -/
theorem State.hostAppend_textChange {s : State} {n : Nat} {run : List Byte} (hin : n < s.store.chains.length)
    (hcount : s.count n + run.length ≤ 30000) (hfree : (run.length + 63) / 64 ≤ s.store.free.length) :
    ∃ u, s.hostAppend n run = .ok u ∧
      TextChange s u n none (afterInsert (s.count n) run.length) (s.text n ++ run) := by
  obtain ⟨htext, -⟩ := Chain.append_spec (s.chain n) s.store.free run ((Chain.needed_le _ _).trans hfree)
  refine ⟨s.textChanged n ((s.chain n).append s.store.free run) none (afterInsert (s.count n) run.length) id, ?_, ?_⟩
  · rw [State.hostAppend, State.appendRun_eq hcount hfree]
    rfl
  · have hchange := s.textChange_textChanged n ((s.chain n).append s.store.free run) none
      (afterInsert (s.count n) run.length) id hin
    rwa [htext] at hchange

section
variable {s : State} {n : Nat} {x : Story} {text : List Byte}

theorem readBody_storyAppend (hn : n < 512) (hlength : text.length ≤ 1000) :
    readBody (do let n ← readNat 2; let t ← readText 2; return (n, t)) (be 2 n ++ textField 2 text) = some (n, text) := by
  have hlast := readText_textField 2 text (by omega) []
  rw [List.append_nil] at hlast
  apply readBody_eq_some
  simp [readNat_be 2 n (by omega), hlast]

theorem reqStoryAppend_of_not_queued (hn : n < 512) (hx : s.story n = some x) (hlength : text.length ≤ 1000)
    (hstate : x.state ≠ .queued) : reqStoryAppend (be 2 n ++ textField 2 text) s = refuse s .badState := by
  rw [reqStoryAppend, readBody_storyAppend hn hlength]
  dsimp only
  rw [if_neg (by omega), withStory_eq hn hx, if_pos hstate]

theorem reqStoryAppend_of_error (hn : n < 512) (hx : s.story n = some x) (htext : text ≠ []) (hlength : text.length ≤ 1000)
    (hstate : x.state = .queued) {e : Status} (h : s.hostAppend n (text.map toCopyCode) = .error e) :
    reqStoryAppend (be 2 n ++ textField 2 text) s = refuse s e := by
  rw [reqStoryAppend, readBody_storyAppend hn hlength]
  dsimp only
  rw [if_neg (by omega), withStory_eq hn hx, if_neg (by simp [hstate]), if_neg htext, h]

theorem reqStoryAppend_of_ok (hn : n < 512) (hx : s.story n = some x) (htext : text ≠ []) (hlength : text.length ≤ 1000)
    (hstate : x.state = .queued) {u : State} (h : s.hostAppend n (text.map toCopyCode) = .ok u) :
    reqStoryAppend (be 2 n ++ textField 2 text) s =
      answer u .ok (be 2 (u.count n) ++ be 2 (text.countP fun c => !isCopyCode c)) := by
  rw [reqStoryAppend, readBody_storyAppend hn hlength]
  dsimp only
  rw [if_neg (by omega), withStory_eq hn hx, if_neg (by simp [hstate]), if_neg htext, h]
  rfl

end

/-- Settles O36: the append is one text change (`State.textChanged`), and the refusals leave the state as it was. -/
theorem appendedTextFollows : Obligations.AppendedTextFollows := by
  intro tag n x text s hreply hn hx htext hlength hw
  have hbody : (be 2 n ++ textField 2 text).length ≤ 1024 := by
    simp [textField]
    omega
  have hin : n < s.store.chains.length := by
    obtain ⟨-, hchains, -⟩ := hw
    omega
  have hmap : (text.map toCopyCode).length = text.length := List.length_map ..
  refine ⟨fun hstate hcount hfree => ?_, fun hstate hcount => ?_, fun hstate => ?_⟩
  · obtain ⟨u, happend, hchange⟩ := State.hostAppend_textChange (s := s.hunt) (n := n) (run := text.map toCopyCode) hin
      (hmap ▸ hcount) (hmap ▸ hfree)
    have hjudged := requestOutcome_of_judged (s := s) (kind := 0x41) tag hreply hbody rfl (by decide)
      (reqStoryAppend_of_ok (s := s.hunt) hn hx htext hlength hstate happend)
    have hcount' : u.count n = s.count n + text.length := by
      have := congrArg List.length hchange.text_eq
      rw [State.text, ← Chain.count_eq, List.length_append, hmap] at this
      rw [State.count, this, State.count, Chain.count_eq]
      rfl
    have hrecord : u.story n = some x.changed := by
      rw [hchange.story_eq]
      exact congrArg (Option.map Story.changed) hx
    have hhost : u.host =
        (if s.storeLow = false ∧ u.storeLow = true then s.raise .storeLow else s).hunt.host :=
      hchange.host_eq.trans (State.host_hunt_storeLow s _)
    rw [hcount'] at hjudged
    refine ⟨_, hjudged, hchange.text_eq, hrecord, hchange.others, hchange.rescheduled, fun m => ?_, hchange.desks,
      hchange.baskets, hchange.sameOutput, SameLines.settle (u := u.reply _ _ _ _) hchange.sameLines,
      State.host_reply hhost 0xC1 tag _⟩
    rw [State.cursor_settle]
    refine (hchange.cursor m).trans ?_
    rw [hmap]
    exact Screen.movedCursor_afterInsert n _ _ _
  · have hrefused : s.hunt.hostAppend n (text.map toCopyCode) = .error .limit := by
      have hlimit : Config.maxStory < s.hunt.count n + (text.map toCopyCode).length := hmap ▸ hcount
      rw [State.hostAppend, State.appendRun, if_pos hlimit]
    exact requestOutcome_of_same tag hreply hbody rfl (by decide)
      (reqStoryAppend_of_error (s := s.hunt) hn hx htext hlength hstate hrefused)
  · exact requestOutcome_of_same tag hreply hbody rfl (by decide)
      (reqStoryAppend_of_not_queued (s := s.hunt) hn hx hlength hstate)

end Sys2Proof.Machine
end

section
/-! SUPPORT. A key taken at once by a screen in EDIT, and the edit keys (R121, R131, R147). -/

namespace Sys2Proof.Machine

/-! ## A key taken at once (R121, R147) -/

section
variable {s : State} {n : Fin 32}

theorem State.nextLine_eq_none (h : s.noKeyWaits) : s.nextLine = none := by
  refine List.find?_eq_none.2 fun m _ => ?_
  have hqueue : (s.line m).queue = [] := by
    by_cases hm : m < s.lines.length
    · rw [State.line, List.getD_eq_getElem _ _ hm]
      exact h _ (List.getElem_mem hm)
    · rw [State.line, List.getD_eq_default _ _ (Nat.le_of_not_lt hm)]
      rfl
  simp [hqueue]

/-- The interpreter's turn has come to a line. -/
def State.turnedTo (s : State) (n : Nat) : State := { s with keyTurn := n }

/-- The state in which a key that no prompt takes and that is no supervisor code is judged by the rules of its screen's state. -/
def State.struckAt (s : State) (n : Nat) : State := ((s.turnedTo n).keySteps n).setEscape n 0

/-- A key that arrives at a signed-on screen with no prompt open, and is no supervisor code, is judged at once by the rules of the
screen's state (R121, R137, R147). -/
theorem State.keyTaken_of_atKeys {mode : Mode} (h : s.atKeys n mode .closed 0) (hdown : mode ≠ .down)
    (hoff : mode ≠ .signedOff) (k : Key) : s.keyTaken n ⟨false, k⟩ = (s.struckAt n).stateKey n k := by
  obtain ⟨hwaits, hup, hin, hmode, hblank, hprompt, hescape⟩ := h
  have hscreen : (s.turnedTo n).screen n = s.screen n := rfl
  have hin' : n.val < (s.turnedTo n).screens.length := hin
  have hstepped : (((s.turnedTo n).keySteps n).screen n).escape = 0 := by
    rw [State.keySteps, State.screen_updScreen _ _ _ hin']
    exact hescape
  rw [State.keyTaken, State.nextLine_eq_none hwaits]
  dsimp only
  rw [if_pos hup, ← State.turnedTo, State.takeKey]
  dsimp only
  rw [hscreen, hmode, hblank, hprompt, if_neg hdown, if_neg (by simp), if_neg (by simp), if_neg hoff, State.sequenceKey]
  dsimp only
  rw [hstepped, if_neg (by simp), if_neg (by simp)]
  rfl

theorem State.screen_struckAt (hin : n.val < s.screens.length) :
    (s.struckAt n).screen n =
      { s.screen n with
        idle := loadIdle (s.idleLimit n)
        partMessage := none
        newMark := if (s.screen n).mode = .desk then false else (s.screen n).newMark
        layoutTime := s.clock.time
        escape := 0 } := by
  have hin' : n.val < (s.turnedTo n).screens.length := hin
  have hstepped : n.val < ((s.turnedTo n).keySteps n).screens.length := by
    rw [State.keySteps, State.updScreen_screens, List.length_modify]
    exact hin
  rw [State.struckAt, State.setEscape, State.screen_updScreen _ _ _ hstepped, State.keySteps, State.screen_updScreen _ _ _ hin']
  rfl

theorem State.screen_struckAt_of_ne {m : Nat} (h : m ≠ n) : (s.struckAt n).screen m = s.screen m := by
  rw [State.struckAt, State.setEscape, State.screen_updScreen_of_ne _ _ _ _ h, State.keySteps,
    State.screen_updScreen_of_ne _ _ _ _ h]
  rfl

end

/-! ## Viewports that follow the cursor (R105) -/

theorem Screen.reveal_only (starts : List Nat) (c : Screen) : c.reveal starts = { c with top := (c.reveal starts).top } := by
  unfold Screen.reveal
  dsimp only
  split <;> rfl

theorem Screen.follow_only (starts : List Nat) (c : Screen) : c.follow starts = { c with top := (c.follow starts).top } := by
  unfold Screen.follow
  dsimp only
  split
  · rfl
  · split
    · rfl
    · split <;> rfl

/-! ## A screen in EDIT (R23, R131) -/

/-- The state in which an edit key changes the text: the screen in TYPE view with its viewport at the cursor. -/
def State.editReady (s : State) (n : Nat) : State := (s.struckAt n).readyToEdit n

section
variable {s : State} {n : Fin 32} {k : Nat} {x : Story}

theorem State.editing_screen_lt (h : s.editing n k x) : n.val < s.screens.length := by
  obtain ⟨⟨-, -, hin, -⟩, -⟩ := h
  exact hin

theorem State.keyTaken_of_editing (h : s.editing n k x) (key : Key) :
    s.keyTaken n ⟨false, key⟩ = (s.struckAt n).editKey n k key := by
  have hin := State.editing_screen_lt h
  obtain ⟨hkeys, hstory, -⟩ := h
  have ⟨_, _, _, hedit, _⟩ := hkeys
  have hmode : ((s.struckAt n).screen n).mode = .edit := by
    rw [State.screen_struckAt hin]
    exact hedit
  have howned : ((s.struckAt n).screen n).owned = some k := by
    rw [State.screen_struckAt hin, Screen.owned, hstory]
  rw [State.keyTaken_of_atKeys hkeys (by decide) (by decide), State.stateKey, hmode, State.onOwned, howned]

theorem State.editReady_only (n : Nat) :
    s.editReady n = { s with keyTurn := n, screens := (s.editReady n).screens } := rfl

theorem State.screen_editReady_of_ne {m : Nat} (h : m ≠ n) : (s.editReady n).screen m = s.screen m := by
  rw [State.editReady, State.readyToEdit, State.screen_updScreen_of_ne _ _ _ _ h, State.screen_struckAt_of_ne h]

theorem State.length_screens_struckAt (n : Nat) : (s.struckAt n).screens.length = s.screens.length := by
  rw [State.struckAt, State.setEscape, State.updScreen_screens, List.length_modify, State.keySteps, State.updScreen_screens,
    List.length_modify]
  rfl

/-- A screen made ready for an edit key keeps its state, its story and its cursor, and stands in TYPE view. -/
theorem State.screen_editReady (hin : n.val < s.screens.length) :
    ((s.editReady n).screen n).mode = (s.screen n).mode ∧ ((s.editReady n).screen n).story = (s.screen n).story ∧
      ((s.editReady n).screen n).cursor = (s.screen n).cursor ∧ ((s.editReady n).screen n).setView = false := by
  rw [State.editReady, State.readyToEdit, State.screen_updScreen _ _ _ (by rw [State.length_screens_struckAt]; exact hin),
    Screen.reveal_only, dropToType_only, State.screen_struckAt hin]
  exact ⟨rfl, rfl, rfl, rfl⟩

theorem State.owns_editReady (h : s.editing n k x) : (s.editReady n).owns n k = true := by
  obtain ⟨-, -, hstory, hopen, howner⟩ := h
  have hrecord : (s.editReady n).story k = some x := hstory
  simp [State.owns, hrecord, hopen, howner]

end

/-! ## What an edit key does (R12, R13, R106, R131) -/

/-- A screen that has a story is in the table. -/
theorem State.lt_of_screen_story {u : State} {n : Nat} (h : (u.screen n).story ≠ none) : n < u.screens.length := by
  by_contra hn
  exact h (congrArg Screen.story (List.getD_eq_default _ _ (Nat.le_of_not_lt hn)))

section
variable {s u : State} {n : Fin 32} {k : Nat} {x : Story} {text : List Byte} {move : Nat → Nat}

/-- A text change made by the key of the screen that owns the story, and the cursor put where the key leaves it. -/
theorem TextChange.textKeyed (h : s.editing n k x) (hchange : TextChange (s.editReady n) u k (some n) move text)
    (cursor : Nat) : TextKeyed s (u.editedTo n cursor).settle n k x text cursor move := by
  obtain ⟨⟨-, -, hin, hmode, -⟩, hstory, hrecord, -⟩ := h
  obtain ⟨hmode', hstory', -, hview⟩ := State.screen_editReady (s := s) hin
  obtain ⟨top, setTop, hkept⟩ := hchange.screen_kept n
  have hu : (u.screen n).mode = .edit ∧ (u.screen n).story = some (k, .owner) ∧ (u.screen n).setView = false := by
    have hfields := And.intro (congrArg Screen.mode hkept)
      (And.intro (congrArg Screen.story hkept) (congrArg Screen.setView hkept))
    simpa only [Screen.kept, Screen.movedTo, hmode', hstory', hview, hmode, hstory, Bool.false_and] using hfields
  obtain ⟨humode, hustory, huview⟩ := hu
  have hu_in : n.val < u.screens.length := State.lt_of_screen_story (by simp [hustory])
  have hscreen : (u.editedTo n cursor).screen n =
      ({ u.screen n with cursor := cursor } : Screen).follow (u.startsOf { u.screen n with cursor := cursor }) :=
    State.screen_updScreen _ _ _ hu_in
  rw [Screen.follow_only] at hscreen
  have hsetView : ((u.editedTo n cursor).settle.screen n).setView = false := by
    have hsettled := congrArg Screen.setView (State.screen_settle_kept (u.editedTo n cursor) n)
    rw [hscreen] at hsettled
    simpa only [Screen.kept, huview] using hsettled
  have hhost := hchange.host_eq
  have hraise : ((s.editReady n).raise .storeLow).host = (s.raise .storeLow).host := by
    apply State.raise_host_congr
    rfl
  rw [hraise] at hhost
  refine ⟨hchange.text_eq, ?_, hchange.others, hchange.rescheduled, ?_, hsetView, ?_, ?_, fun m hm => ?_, hchange.desks,
    hchange.baskets, hchange.sameOutput, SameLines.settle (u := u.editedTo n cursor) hchange.sameLines, hhost⟩
  · rw [State.story_settle]
    exact hchange.story_eq.trans (congrArg (Option.map Story.changed) hrecord)
  · rw [State.cursor_settle, hscreen]
  · rw [State.mode_settle, hscreen]
    exact humode
  · rw [State.screenStory_settle, hscreen]
    exact hustory
  · have hother : (u.editedTo n cursor).screen m = u.screen m := State.screen_updScreen_of_ne _ _ _ _ hm
    have hown : ((some n.val : Option Nat) == some m) = false := by simp [Ne.symm hm]
    rw [State.cursor_settle, hother, hchange.cursor m, State.screen_editReady_of_ne hm, hown, Screen.movedCursor]
    by_cases hshows : (s.screen m).storyNo = some k <;> simp [Screen.showsStory, hshows]

/-- A chain takes an insert where a block is free (R12). -/
theorem Chain.insert_ne_none (c : Byte) {free : List Nat} (hfree : free ≠ []) (ch : Chain) :
    ∀ x : Nat, ch.insert c free x ≠ none := by
  obtain ⟨m, free, rfl⟩ := List.exists_cons_of_ne_nil hfree
  induction ch with
  | nil => exact fun _ => by simp [Chain.insert]
  | cons b rest ih =>
    intro x
    unfold Chain.insert
    split
    · unfold insertAt
      dsimp only
      split_ifs <;> simp
    · simpa using ih _

theorem State.keyInsert_textChange (screen : Nat) (c : Byte) {at_ : Nat} (hin : k < s.store.chains.length)
    (hfree : s.store.free ≠ []) (hcount : s.count k < 30000) :
    ∃ u, s.keyInsert screen k at_ c = .ok u ∧
      TextChange s u k (some screen) (afterInsert at_ 1) ((s.text k).take at_ ++ c :: (s.text k).drop at_) := by
  obtain ⟨r, hr⟩ := Option.ne_none_iff_exists'.1 (Chain.insert_ne_none c hfree (s.chain k) at_)
  obtain ⟨htext, -⟩ := Chain.insert_spec c s.store.free (s.chain k) at_ r hr
  refine ⟨s.textChanged k r (some screen) (afterInsert at_ 1) (topAfterInsert at_), ?_, ?_⟩
  · have hlimit : ¬Config.maxStory ≤ s.count k := Nat.not_le.2 hcount
    rw [State.keyInsert, State.insertChar, if_neg hlimit, hr]
    rfl
  · have hchange := s.textChange_textChanged k r (some screen) (afterInsert at_ 1) (topAfterInsert at_) hin
    rwa [htext] at hchange

theorem State.keyDelete_textChange (screen : Nat) {at_ : Nat} (hin : k < s.store.chains.length) (hat : at_ < s.count k) :
    ∃ u, s.keyDelete screen k at_ = some u ∧
      TextChange s u k (some screen) (afterDelete at_) ((s.text k).eraseIdx at_) := by
  obtain ⟨htext, -⟩ := Chain.delete_spec s.store.free (s.chain k) at_ hat
  refine ⟨s.textChanged k ((s.chain k).delete s.store.free at_) (some screen) (afterDelete at_) (afterDelete at_), ?_, ?_⟩
  · rw [State.keyDelete, State.deleteChar, if_pos hat]
    rfl
  · have hchange := s.textChange_textChanged k ((s.chain k).delete s.store.free at_) (some screen) (afterDelete at_)
      (afterDelete at_) hin
    rwa [htext] at hchange

theorem StoreWhole.editing_lt (hw : StoreWhole s) (h : s.editing n k x) : k < s.store.chains.length := by
  obtain ⟨-, -, hrecord, -⟩ := h
  have hk := hw.lt_of_story (n := k) (by simp [hrecord])
  obtain ⟨-, hchains, -⟩ := hw
  omega

/-- An insert key at a story below its limit puts its code at the cursor, which goes past it (R12, R131). -/
theorem State.insertKey_textKeyed (h : s.editing n k x) (hw : StoreWhole s) (hfree : s.store.free ≠ [])
    (hcount : s.count k < 30000) (c : Byte) :
    TextKeyed s ((s.struckAt n).insertKey n k c).settle n k x
      ((s.text k).take (s.screen n).cursor ++ c :: (s.text k).drop (s.screen n).cursor) ((s.screen n).cursor + 1)
      (afterInsert (s.screen n).cursor 1) := by
  have howns := State.owns_editReady h
  obtain ⟨-, -, hcursor, -⟩ := State.screen_editReady (s := s) (State.editing_screen_lt h)
  obtain ⟨u, hu, hchange⟩ := State.keyInsert_textChange (s := s.editReady n) n c (at_ := (s.screen n).cursor)
    (hw.editing_lt h) hfree hcount
  have hkey : (s.struckAt n).insertKey n k c = u.editedTo n ((s.screen n).cursor + 1) := by
    unfold State.insertKey
    rw [← State.editReady]
    dsimp only
    rw [howns, hcursor, hu]
    rfl
  rw [hkey]
  exact TextChange.textKeyed h hchange _

/-- A delete key at a code of the text takes it out, and leaves the cursor there (R13, R131). -/
theorem State.deleteKeyAt_textKeyed (h : s.editing n k x) (hw : StoreWhole s) {at_ : Nat} (hat : at_ < s.count k) :
    TextKeyed s ((s.editReady n).deleteKeyAt n k at_).settle n k x ((s.text k).eraseIdx at_) at_ (afterDelete at_) := by
  obtain ⟨u, hu, hchange⟩ := State.keyDelete_textChange (s := s.editReady n) n (hw.editing_lt h) hat
  have hkey : (s.editReady n).deleteKeyAt n k at_ = u.editedTo n at_ := by
    rw [State.deleteKeyAt, State.owns_editReady h, hu]
    rfl
  rw [hkey]
  exact TextChange.textKeyed h hchange _

/-- RUBOUT past the start deletes before the cursor, and at the start only rings (R131). -/
theorem State.ruboutKey_eq (h : s.editing n k x) :
    (s.struckAt n).ruboutKey n k =
      if (s.screen n).cursor = 0 then (s.editReady n).bell n
      else (s.editReady n).deleteKeyAt n k ((s.screen n).cursor - 1) := by
  obtain ⟨-, -, hcursor, -⟩ := State.screen_editReady (s := s) (State.editing_screen_lt h)
  rw [← hcursor]
  rfl

theorem State.deleteKey_eq (h : s.editing n k x) :
    (s.struckAt n).deleteKey n k = (s.editReady n).deleteKeyAt n k (s.screen n).cursor := by
  obtain ⟨-, -, hcursor, -⟩ := State.screen_editReady (s := s) (State.editing_screen_lt h)
  rw [← hcursor]
  rfl

/-- A delete key past the text only rings (R13). -/
theorem State.deleteKeyAt_of_count_le (h : s.editing n k x) {at_ : Nat} (hat : s.count k ≤ at_) :
    (s.editReady n).deleteKeyAt n k at_ = (s.editReady n).bell n := by
  have hnone : (s.editReady n).keyDelete n k at_ = none := by
    have hpast : ¬at_ < (s.editReady n).count k := Nat.not_lt.2 hat
    rw [State.keyDelete, State.deleteChar, if_neg hpast, Option.map_none]
  rw [State.deleteKeyAt, State.owns_editReady h, hnone]
  rfl

/-- An insert key at a story at its limit is refused with a message (R12, R122). -/
theorem State.insertKey_of_limit (h : s.editing n k x) (hcount : 30000 ≤ s.count k) (c : Byte) :
    (s.struckAt n).insertKey n k c = (s.editReady n).deny n (str "STORY LIMIT") := by
  have hrefused : (s.editReady n).keyInsert n k ((s.editReady n).screen n).cursor c = .error .limit := by
    have hlimit : Config.maxStory ≤ (s.editReady n).count k := hcount
    rw [State.keyInsert, State.insertChar, if_pos hlimit]
  unfold State.insertKey
  rw [← State.editReady]
  dsimp only
  rw [State.owns_editReady h, hrefused]
  rfl

theorem State.length_screens_editReady (n : Nat) : (s.editReady n).screens.length = s.screens.length := by
  rw [State.editReady, State.readyToEdit, State.updScreen_screens, List.length_modify, State.length_screens_struckAt]

theorem State.cursor_bell_editReady (h : s.editing n k x) :
    (((s.editReady n).bell n).settle.screen n).cursor = (s.screen n).cursor := by
  obtain ⟨⟨-, -, hin, -⟩, -⟩ := h
  obtain ⟨-, -, hcursor, -⟩ := State.screen_editReady (s := s) hin
  rw [State.cursor_settle, State.bell, State.screen_updScreen _ _ _ (by rw [State.length_screens_editReady]; exact hin),
    ← hcursor]
  unfold Screen.bell
  split <;> rfl

/-- A change of the screens and of the key turn leaves the rest of the device, and so does the layout after it. -/
theorem State.settle_screens_leaves (turn : Nat) (screens : List Screen) :
    SameCopy s { s with keyTurn := turn, screens := screens }.settle ∧
      SameOutput s { s with keyTurn := turn, screens := screens }.settle ∧
      SameLines s { s with keyTurn := turn, screens := screens }.settle ∧
      { s with keyTurn := turn, screens := screens }.settle.host = s.host :=
  ⟨⟨rfl, rfl, rfl, rfl, rfl⟩, ⟨rfl, rfl, rfl, rfl, rfl⟩,
    SameLines.settle (u := { s with keyTurn := turn, screens := screens }) ⟨rfl, rfl, rfl, rfl, rfl⟩, rfl⟩

/-- A refused key, with a message or with the bell alone, changes no more than the screens and the key turn. -/
theorem State.deny_editReady_only (n : Nat) (msg : List Byte) :
    (s.editReady n).deny n msg = { s with keyTurn := n, screens := ((s.editReady n).deny n msg).screens } := by
  rw [State.deny_only, State.editReady_only n]

theorem State.bell_editReady_only (n : Nat) :
    (s.editReady n).bell n = { s with keyTurn := n, screens := ((s.editReady n).bell n).screens } := by
  rw [State.bell, State.updScreen, State.editReady_only n]

theorem State.bell_editReady_leaves (n : Nat) :
    SameCopy s ((s.editReady n).bell n).settle ∧ ((s.editReady n).bell n).settle.host = s.host := by
  rw [State.bell_editReady_only n]
  obtain ⟨hcopy, -, -, hhost⟩ := State.settle_screens_leaves (s := s) n ((s.editReady n).bell n).screens
  exact ⟨hcopy, hhost⟩

/-- A refused key shows its message on the screen, and leaves the cursor where it was (R122). -/
theorem State.screen_deny_editReady (h : s.editing n k x) (msg : List Byte) :
    (((s.editReady n).deny n msg).settle.screen n).partMessage = some msg ∧
      (((s.editReady n).deny n msg).settle.screen n).cursor = (s.screen n).cursor := by
  obtain ⟨⟨-, -, hin, -⟩, -⟩ := h
  obtain ⟨-, -, hcursor, -⟩ := State.screen_editReady (s := s) hin
  have hready : n.val < (s.editReady n).screens.length := by
    rw [State.length_screens_editReady]
    exact hin
  have hscreen : ((s.editReady n).deny n msg).screen n =
      Screen.bell { (s.editReady n).screen n with partMessage := some msg, layoutTime := s.clock.time } := by
    have htold : n.val < ((s.editReady n).tell n msg).screens.length := by
      rw [State.tell, State.updScreen_screens, List.length_modify]
      exact hready
    rw [State.deny, State.bell, State.screen_updScreen _ _ _ htold, State.tell, State.screen_updScreen _ _ _ hready]
    rfl
  have hkept := State.screen_settle_kept ((s.editReady n).deny n msg) n
  have hfields := And.intro (congrArg Screen.partMessage hkept) (congrArg Screen.cursor hkept)
  rw [hscreen, Screen.bell] at hfields
  split at hfields <;> simpa only [Screen.kept, hcursor] using hfields

end

/-! ## The obligation -/

/-- The outcome of a function key of a screen in EDIT. -/
theorem keyOutcome_of_editing {s : State} {n : Fin 32} {k : Nat} {x : Story} (h : s.editing n k x) (key : Key) :
    keyOutcome n ⟨false, key⟩ s = .next ((s.struckAt n).editKey n k key).settle := by
  rw [keyOutcome, State.keyTaken_of_editing h]

theorem execKeyPrintable_of_editing {s : State} {n : Fin 32} {k : Nat} {x : Story} (h : s.editing n k x) {code : Byte}
    (hprintable : printable code = true) (hsuper : code ≠ (s.screen n).profile.superCode) :
    execKeyPrintable n code s = .next ((s.struckAt n).insertKey n k code).settle := by
  have hstruck : (s.screen n).profile.struck (.code code) = ⟨false, .char code⟩ := by
    simp [Profile.struck, Profile.keyOf, hprintable, hsuper]
  rw [execKeyPrintable, if_pos hprintable, hstruck, keyOutcome_of_editing h]
  rfl

/-- Settles O51: the inserts and the deletes are text changes made by the screen's key (`TextChange.textKeyed`), and the rest only ring
or show a message. -/
theorem editKeysChangeTheText : Obligations.EditKeysChangeTheText := by
  rintro n k x s at_ h hw rfl
  refine ⟨fun hfree hcount => ⟨fun code hprintable hsuper => ?_, ?_, ?_⟩, fun hpos hle => ?_, fun hat => ?_, fun hlimit => ?_,
    fun hzero => ?_, fun hpast => ?_⟩
  · exact ⟨_, execKeyPrintable_of_editing h hprintable hsuper, State.insertKey_textKeyed h hw hfree hcount code⟩
  · exact ⟨_, keyOutcome_of_editing h (.fn .insertEp), State.insertKey_textKeyed h hw hfree hcount codeEp⟩
  · have hnote : (s.struckAt n).editKey n k (.fn .note) = (s.struckAt n).insertKey n k
        (if insideNote (s.text k) (s.screen n).cursor then 0x0F else 0x0E) := by
      have hcursor : ((s.struckAt n).screen n).cursor = (s.screen n).cursor := by
        rw [State.screen_struckAt (State.editing_screen_lt h)]
      rw [← hcursor]
      rfl
    exact ⟨_, keyOutcome_of_editing h (.fn .note), hnote ▸ State.insertKey_textKeyed h hw hfree hcount _⟩
  · have hrubout : (s.struckAt n).editKey n k (.fn .rubout) = (s.editReady n).deleteKeyAt n k ((s.screen n).cursor - 1) :=
      (State.ruboutKey_eq h).trans (if_neg (by omega))
    exact ⟨_, keyOutcome_of_editing h (.fn .rubout), hrubout ▸ State.deleteKeyAt_textKeyed h hw (by omega)⟩
  · have hdelete : (s.struckAt n).editKey n k (.fn .delete) = (s.editReady n).deleteKeyAt n k (s.screen n).cursor :=
      State.deleteKey_eq h
    exact ⟨_, keyOutcome_of_editing h (.fn .delete), hdelete ▸ State.deleteKeyAt_textKeyed h hw hat⟩
  · have hrefused : (s.struckAt n).editKey n k (.fn .insertEp) = (s.editReady n).deny n (str "STORY LIMIT") :=
      State.insertKey_of_limit h hlimit codeEp
    obtain ⟨hmessage, hcursor⟩ := State.screen_deny_editReady h (str "STORY LIMIT")
    have hrun := keyOutcome_of_editing h (.fn .insertEp)
    rw [hrefused] at hrun
    have hleaves := State.settle_screens_leaves (s := s) n ((s.editReady n).deny n (str "STORY LIMIT")).screens
    rw [← State.deny_editReady_only n] at hleaves
    exact ⟨_, hrun, hmessage, hcursor, hleaves⟩
  · have hrung : (s.struckAt n).editKey n k (.fn .rubout) = (s.editReady n).bell n :=
      (State.ruboutKey_eq h).trans (if_pos hzero)
    have hrun := keyOutcome_of_editing h (.fn .rubout)
    rw [hrung] at hrun
    exact ⟨_, hrun, (State.cursor_bell_editReady h).trans hzero, State.bell_editReady_leaves n⟩
  · have hrung : (s.struckAt n).editKey n k (.fn .delete) = (s.editReady n).bell n :=
      (State.deleteKey_eq h).trans (State.deleteKeyAt_of_count_le h hpast)
    have hrun := keyOutcome_of_editing h (.fn .delete)
    rw [hrung] at hrun
    exact ⟨_, hrun, State.cursor_bell_editReady h, State.bell_editReady_leaves n⟩

end Sys2Proof.Machine
end

section
/-! SUPPORT. What a purge does to the store, the screens that viewed the story, its page and the fit engine (R16, R42, R87). -/

namespace Sys2Proof.Machine

/-- A reply leaves the screens. -/
theorem State.screen_reply (s : State) (kind tag : Byte) (b : List Byte) (due : Bool) (m : Nat) :
    (s.reply kind tag b due).screen m = s.screen m := rfl

/-! ## Screens sent to DESK (R42, R92, R125) -/

/-- A screen of desk e that an event has sent to DESK with a message. -/
def Screen.atDeskTold (c : Screen) (e : Nat) (msg : List Byte) : Prop :=
  c.mode = .desk ∧ c.desk = some e ∧ c.story = none ∧ c.partMessage = some msg

section
variable {s : State} {n m e : Nat} {msg : List Byte}

theorem State.sendToDesk_only (n : Nat) (msg : List Byte) :
    s.sendToDesk n msg = { s with screens := (s.sendToDesk n msg).screens } := by
  unfold State.sendToDesk State.tell State.updScreen
  rw [State.backToDesk_only]

theorem State.sendToDesk_of_desk (hd : (s.screen n).desk = some e) :
    s.sendToDesk n msg = ((s.enterDesk n e).updScreen n Screen.breakOff).tell n msg := by
  rw [State.sendToDesk, State.backToDesk, hd]

theorem State.screen_sendToDesk (hn : n < s.screens.length) (hd : (s.screen n).desk = some e) :
    ((s.sendToDesk n msg).screen n).atDeskTold e msg := by
  have hentered : n < (s.enterDesk n e).screens.length := by
    rw [State.enterDesk, State.updScreen_screens, List.length_modify]
    exact hn
  have hbroken : n < ((s.enterDesk n e).updScreen n Screen.breakOff).screens.length := by
    rw [State.updScreen_screens, List.length_modify]
    exact hentered
  rw [State.sendToDesk_of_desk hd, State.tell, State.screen_updScreen _ _ _ hbroken, State.screen_updScreen _ _ _ hentered,
    State.enterDesk, State.screen_updScreen _ _ _ hn]
  exact ⟨rfl, rfl, rfl, rfl⟩

theorem State.screen_sendToDesk_of_ne (h : m ≠ n) : (s.sendToDesk n msg).screen m = s.screen m := by
  rw [State.sendToDesk, State.tell, State.screen_updScreen_of_ne _ _ _ _ h, State.screen_updScreen_of_ne _ _ _ _ h]
  unfold State.backToDesk
  split
  · exact State.screen_updScreen_of_ne _ _ _ _ h
  · rfl

theorem State.length_screens_sendToDesk (n : Nat) (msg : List Byte) :
    (s.sendToDesk n msg).screens.length = s.screens.length := by
  unfold State.sendToDesk State.tell State.backToDesk State.enterDesk
  split <;> simp

/-- Screens sent to DESK one after another, with one message. -/
def State.sendAllToDesk (s : State) (vs : List Nat) (msg : List Byte) : State := vs.foldl (fun u v => u.sendToDesk v msg) s

theorem State.sendAllToDesk_only (vs : List Nat) (msg : List Byte) :
    s.sendAllToDesk vs msg = { s with screens := (s.sendAllToDesk vs msg).screens } :=
  foldl_screens_only _ (fun _ v => State.sendToDesk_only v msg) vs s

/-- Each of the screens that are signed on at a desk ends there, whatever the order and the others. -/
theorem State.screen_sendAllToDesk {v : Nat} (vs : List Nat) (hv : v < s.screens.length) (hd : (s.screen v).desk = some e)
    (hsent : v ∈ vs ∨ (s.screen v).atDeskTold e msg) : ((s.sendAllToDesk vs msg).screen v).atDeskTold e msg := by
  induction vs generalizing s with
  | nil => exact hsent.resolve_left nofun
  | cons w vs ih =>
    have hv' : v < (s.sendToDesk w msg).screens.length := by
      rw [State.length_screens_sendToDesk]
      exact hv
    by_cases hvw : v = w
    · subst hvw
      have htold := State.screen_sendToDesk (msg := msg) hv hd
      exact ih hv' htold.2.1 (.inr htold)
    · have hkept : (s.sendToDesk w msg).screen v = s.screen v := State.screen_sendToDesk_of_ne hvw
      refine ih hv' (hkept ▸ hd) ?_
      rw [hkept]
      exact hsent.imp_left fun h => (List.mem_cons.1 h).resolve_left hvw

end

/-! ## A placement cleared (R42) -/

/-- A page with slot k emptied. -/
def Page.emptied (k : Nat) (g : Page) : Page :=
  { g with slots := g.slots.map fun z => if z.num = k then { z with story := none } else z }

section
variable {s : State} {n : Nat} {x : Story}

theorem State.unplace_of_placed {p k : Nat} (hx : s.story n = some x) (hp : x.placement = some (p, k)) :
    s.unplace n = (s.updPage p (Page.emptied k)).updStory n fun t => { t with placement := none } := by
  rw [State.unplace, hx, Option.bind_some, hp]
  rfl

theorem State.unplace_of_not_placed (hx : s.story n = some x) (hp : x.placement = none) : s.unplace n = s := by
  rw [State.unplace, hx, Option.bind_some, hp]

theorem State.unplace_only (n : Nat) :
    s.unplace n = { s with pages := (s.unplace n).pages, stories := (s.unplace n).stories } := by
  unfold State.unplace
  split <;> rfl

theorem State.story_unplace_of_ne {m : Nat} (h : m ≠ n) : (s.unplace n).story m = s.story m := by
  unfold State.unplace
  split
  · rfl
  · exact State.story_updStory_of_ne _ _ _ _ h

end

/-! ## A chain released (R16, R17) -/

section
variable (s : State) (n : Nat)

theorem State.store_releaseChain :
    (s.releaseChain n).store = ⟨(s.chain n).nums.reverse ++ s.store.free, s.store.chains.set n []⟩ := State.putChain_store ..

theorem State.releaseChain_only :
    s.releaseChain n = { s with
      store := (s.releaseChain n).store, screens := (s.releaseChain n).screens, host := (s.releaseChain n).host } := by
  rw [State.releaseChain, State.putChain_only]

theorem State.storeLow_iff : s.storeLow = true ↔ s.store.free.length < Config.storeLow := decide_eq_true_iff

/-- Blocks that come back to the free stack never report STORE_LOW (R17). -/
theorem State.host_releaseChain : (s.releaseChain n).host = s.host := by
  refine (State.host_putChain ..).trans (if_neg ?_)
  rintro ⟨hhigh, hlow⟩
  have hfewer : (s.releaseChain n).store.free.length < Config.storeLow := (State.storeLow_iff _).1 hlow
  rw [State.store_releaseChain, List.length_append] at hfewer
  have hwasLow : s.storeLow = true := (State.storeLow_iff s).2 (by omega)
  exact absurd hwasLow (by simp [hhigh])

end

/-! ## A story forgotten by the fit engine (R42, R87) -/

/-- The fit engine holds nothing of a story but perhaps a place in its refit list. -/
def State.unfitted (s : State) (n : Nat) : Prop := n ∉ s.fit.queue ∧ ∀ p ∈ s.fit.pass, p.story ≠ n

section
variable {s : State} {n : Nat}

theorem State.mem_queue_of_pickFit {k : Nat} (h : s.pickFit = some k) : k ∈ s.fit.queue := by
  unfold State.pickFit at h
  split at h
  · next hfind => exact Option.some.inj h ▸ List.mem_of_find?_eq_some hfind
  · exact List.mem_of_mem_head? h

/-- An engine that takes what it holds takes no story that it does not hold. -/
theorem State.unfitted_engineTakeFor (fuel : Nat) : ∀ s : State, s.unfitted n → (s.engineTakeFor fuel).unfitted n := by
  induction fuel with
  | zero => exact fun _ h => h
  | succ fuel ih =>
    intro s h
    have hleft : ∀ k, (s.leaveFitQueue k).unfitted n := fun k => ⟨fun hmem => h.1 (List.mem_of_mem_filter hmem), h.2⟩
    unfold State.engineTakeFor
    split
    · exact h
    · split
      · exact h
      · next k hpick =>
        have hne : k ≠ n := fun hk => h.1 (hk ▸ State.mem_queue_of_pickFit hpick)
        dsimp only
        split
        · exact ih _ (hleft k)
        · split
          · exact ⟨(hleft k).1, fun p hp => Option.some.inj hp ▸ hne⟩
          · exact ih _ (hleft k)

theorem State.unfitted_forgetFit (s : State) (n : Nat) : (s.forgetFit n).unfitted n := by
  have hqueue : n ∉ ((s.leaveRefit n).leaveFitQueue n).fit.queue := by simp [State.leaveFitQueue]
  unfold State.forgetFit
  dsimp only
  refine State.unfitted_engineTakeFor _ _ ?_
  split
  · exact ⟨hqueue, nofun⟩
  · next hpass => exact ⟨hqueue, fun p hp hn => hpass ((Option.any_eq_true _ _).2 ⟨p, hp, by simpa using hn⟩)⟩

theorem State.forgetFit_only (s : State) (n : Nat) :
    s.forgetFit n = { s with fit := { s.fit with
      refit := s.fit.refit.filter fun e => e.story != n
      queue := (s.forgetFit n).fit.queue
      pass := (s.forgetFit n).fit.pass } } := by
  unfold State.forgetFit
  dsimp only
  rw [State.engineTake_only]
  split <;> rfl

end

/-! ## The purge (R42) -/

section
variable {s : State} {n : Nat} {x : Story}

/-- The state of a purge whose chain is about to be released: the viewers sent to DESK and the slot emptied. -/
def State.cleared (s : State) (n : Nat) (x : Story) : State := (s.sendAllToDesk x.viewers (str "PURGED")).unplace n

theorem State.purge_eq (hx : s.story n = some x) :
    s.purge n = (((s.cleared n x).releaseChain n).setStory n none).forgetFit n := by
  rw [State.purge, hx]
  rfl

theorem State.cleared_only (n : Nat) (x : Story) :
    s.cleared n x = { s with
      screens := (s.sendAllToDesk x.viewers (str "PURGED")).screens
      pages := (s.cleared n x).pages, stories := (s.cleared n x).stories } := by
  unfold State.cleared
  rw [State.unplace_only, State.sendAllToDesk_only]

/-- What a purge changes, and what of it the state before tells. -/
theorem State.purge_only (hx : s.story n = some x) :
    s.purge n = { s with
      store := ⟨(s.chain n).nums.reverse ++ s.store.free, s.store.chains.set n []⟩
      stories := (s.cleared n x).stories.set n none
      screens := ((s.cleared n x).releaseChain n).screens
      pages := (s.cleared n x).pages
      fit := { s.fit with
        refit := s.fit.refit.filter fun e => e.story != n, queue := (s.purge n).fit.queue, pass := (s.purge n).fit.pass } } := by
  have hstore : (s.cleared n x).store = s.store := by rw [State.cleared_only]
  have hchain : (s.cleared n x).chain n = s.chain n := by rw [State.chain, hstore, State.chain]
  rw [State.purge_eq hx, State.forgetFit_only, State.setStory, State.releaseChain_only, State.store_releaseChain,
    State.host_releaseChain, hstore, hchain, State.cleared_only]

theorem State.onReleasedPage_eq_false (h : OffPress s x) : s.onReleasedPage x = false := by
  refine Bool.eq_false_iff.2 fun hreleased => ?_
  obtain ⟨at_, hat, hpage⟩ := (Option.any_eq_true _ _).1 hreleased
  obtain ⟨g, hg, hstate⟩ := (Option.any_eq_true _ _).1 hpage
  obtain ⟨hwaiting, hsetting⟩ := h at_ hat g hg
  simp [hwaiting, hsetting] at hstate

theorem readBody_storyNumber (hn : n < 512) : readBody (readNat 2) (be 2 n) = some n := by
  have hread := readNat_be 2 n (by omega) []
  rw [List.append_nil] at hread
  exact readBody_eq_some hread

theorem reqStoryPurge_of_purgeable (hn : n < 512) (hx : s.story n = some x)
    (h : x.state = .spiked ∨ (x.state = .set_ ∧ OffPress s x)) : reqStoryPurge (be 2 n) s = answer (s.purge n) .ok [] := by
  have hpurgeable : x.state = .spiked ∨ (x.state = .set_ ∧ !s.onReleasedPage x) :=
    h.imp_right fun ⟨hset, hoff⟩ => ⟨hset, by rw [State.onReleasedPage_eq_false hoff]; rfl⟩
  rw [reqStoryPurge, readBody_storyNumber hn]
  dsimp only
  rw [withStory_eq hn hx, if_pos hpurgeable]

theorem reqStoryPurge_of_other_state (hn : n < 512) (hx : s.story n = some x)
    (h : x.state = .queued ∨ x.state = .open_ ∨ x.state = .setting) : reqStoryPurge (be 2 n) s = refuse s .badState := by
  rw [reqStoryPurge, readBody_storyNumber hn]
  dsimp only
  rw [withStory_eq hn hx, if_neg (by rcases h with h | h | h <;> simp [h])]

/-! ### What the purge leaves (R16, R42) -/

theorem State.purge_leaves (hx : s.story n = some x) :
    (s.purge n).store.free = (s.chain n).nums.reverse ++ s.store.free ∧
      (s.purge n).fit.refit = s.fit.refit.filter (fun e => e.story != n) ∧ (s.purge n).host = s.host ∧
      (s.purge n).desks = s.desks ∧ (s.purge n).baskets = s.baskets ∧ (s.purge n).settingQueue = s.settingQueue ∧
      (s.purge n).link = s.link ∧ SameLines s (s.purge n) := by
  rw [State.purge_only hx]
  exact ⟨rfl, rfl, rfl, rfl, rfl, rfl, rfl, rfl, rfl, rfl, rfl, rfl⟩

theorem State.story_purge (hx : s.story n = some x) : (s.purge n).story n = none := by
  rw [State.story, State.purge_only hx, List.getD_eq_getElem?_getD, List.getElem?_set]
  split
  · split <;> rfl
  · contradiction

theorem State.chain_purge (hx : s.story n = some x) (hin : n < s.store.chains.length) : (s.purge n).chain n = [] := by
  rw [State.chain, State.purge_only hx]
  simp [hin]

theorem State.othersKept_purge (hx : s.story n = some x) : OthersKept s (s.purge n) n := fun m hm => by
  constructor
  · have hcleared : (s.cleared n x).story m = s.story m := by
      rw [State.cleared, State.story_unplace_of_ne hm, State.story, State.sendAllToDesk_only, State.story]
    rw [State.story, State.purge_only hx, ← hcleared, List.getD_eq_getElem?_getD, List.getElem?_set_ne (Ne.symm hm),
      ← List.getD_eq_getElem?_getD, State.story]
  · rw [State.chain, State.purge_only hx, List.getD_eq_getElem?_getD, List.getElem?_set_ne (Ne.symm hm),
      ← List.getD_eq_getElem?_getD, State.chain]

theorem State.pages_purge (hx : s.story n = some x) : (s.purge n).pages = (s.unplace n).pages := by
  have hpages : (s.cleared n x).pages = (s.unplace n).pages := by
    unfold State.cleared
    rw [State.sendAllToDesk_only]
    unfold State.unplace State.story
    dsimp only
    split <;> rfl
  rw [State.purge_only hx, hpages]

theorem State.page_purge_of_placed {p k : Nat} {g : Page} (hx : s.story n = some x) (hp : x.placement = some (p, k))
    (hg : s.page p = some g) : (s.purge n).page p = some (g.emptied k) := by
  have hpage := State.page_updPage s p (Page.emptied k)
  rw [hg, Option.map_some] at hpage
  rw [State.page, State.pages_purge hx, State.unplace_of_placed hx hp]
  exact hpage

/-- A viewer of a purged story ends in DESK with the message (R42). -/
theorem State.screen_purge_viewer {v e : Nat} (hx : s.story n = some x) (hin : v < s.screens.length) (hv : v ∈ x.viewers)
    (hd : (s.screen v).desk = some e) : ((s.purge n).screen v).kept.atDeskTold e (str "PURGED") := by
  have htold := State.screen_sendAllToDesk (msg := str "PURGED") x.viewers hin hd (.inl hv)
  have hscreen : (s.purge n).screen v = ((s.cleared n x).releaseChain n).screen v := by
    rw [State.screen, State.purge_only hx, State.screen]
  have hcleared : (s.cleared n x).screen v = (s.sendAllToDesk x.viewers (str "PURGED")).screen v := by
    rw [State.screen, State.cleared_only, State.screen]
  have hkept : ((s.purge n).screen v).kept = ((s.sendAllToDesk x.viewers (str "PURGED")).screen v).kept := by
    rw [hscreen, ← hcleared]
    exact State.screen_putChain_kept _ n _ _ v
  rw [hkept]
  exact htold

end

/-- Settles O40: the judgement is the purge (`State.purge_only`), which the reply and the layout leave as it is. -/
theorem purgedStoriesAreForgotten : Obligations.PurgedStoriesAreForgotten := by
  intro tag n x s hreply hn hx hscreens hchains
  have hx' : s.hunt.story n = some x := hx
  have hin : n < s.hunt.store.chains.length := hn.trans_eq hchains.symm
  constructor
  · intro hstate
    have hserved := requestOutcome_of_judged (kind := 0x48) tag hreply (by simp) rfl (by decide)
      (reqStoryPurge_of_purgeable (s := s.hunt) hn hx' hstate)
    have hunfitted : (s.hunt.purge n).unfitted n := by
      rw [State.purge_eq hx']
      exact State.unfitted_forgetFit _ n
    obtain ⟨hfree, hrefit, hhost, hrest⟩ := State.purge_leaves hx'
    obtain ⟨hdesks, hbaskets, hqueue, hlink, hlines⟩ := hrest
    refine ⟨_, hserved, State.story_purge hx', State.chain_purge hx' hin, hfree, State.othersKept_purge (s := s.hunt) hx',
      fun p k g hp hg => State.page_purge_of_placed hx' hp hg, fun hp => ?_, hrefit, hunfitted.1, hunfitted.2,
      fun v e hv hd => ?_, hdesks, hbaskets, hqueue, hlink,
      SameLines.settle (u := (s.hunt.purge n).reply _ _ _ _) hlines, State.host_reply hhost 0xC8 tag _⟩
    · have hpages := State.pages_purge hx'
      rwa [State.unplace_of_not_placed hx' hp] at hpages
    · have hviewer : v.val < s.hunt.screens.length := v.isLt.trans_eq hscreens.symm
      have hkept := State.screen_settle_kept ((s.hunt.purge n).reply (0x48 + 0x80) tag [0x00]
        ((s.hunt.purge n).host.noticesDue != 0)) v
      have htold : ((s.hunt.purge n).screen v).kept.atDeskTold e (str "PURGED") :=
        State.screen_purge_viewer hx' hviewer hv hd
      rw [State.screen_reply] at hkept
      rw [← hkept] at htold
      exact htold
  · exact fun hstate => requestOutcome_of_same tag hreply (by simp) rfl (by decide)
      (reqStoryPurge_of_other_state (s := s.hunt) hn hx' hstate)

end Sys2Proof.Machine
end

section
/-! SUPPORT. What a load does: the record filled, the screens of its desk alerted, and the basket joined (R36, R53, R63). -/

namespace Sys2Proof.Machine

/-! ## Screens alerted (R63) -/

/-- A screen at work on what another is: in its state, at its desk, with its story, prompt and cursor. -/
def Screen.sameWork (c o : Screen) : Prop :=
  c.mode = o.mode ∧ c.desk = o.desk ∧ c.story = o.story ∧ c.prompt = o.prompt ∧ c.cursor = o.cursor

/-- What an arrival of a priority leaves on a screen that it alerts, less the bells. -/
def Screen.alerted (c : Screen) (n : Nat) (p : Priority) : Prop :=
  (p = .flash → n ∈ c.ring ∧ c.blanked = false) ∧ (p = .urgent ∨ p = .routine → c.newMark = true)

theorem Screen.sameWork.refl (c : Screen) : c.sameWork c := ⟨rfl, rfl, rfl, rfl, rfl⟩

theorem Screen.sameWork.trans {a b c : Screen} (hab : a.sameWork b) (hbc : b.sameWork c) : a.sameWork c := by
  obtain ⟨hmode, hdesk, hstory, hprompt, hcursor⟩ := hab
  obtain ⟨hmode', hdesk', hstory', hprompt', hcursor'⟩ := hbc
  exact ⟨hmode.trans hmode', hdesk.trans hdesk', hstory.trans hstory', hprompt.trans hprompt', hcursor.trans hcursor'⟩

theorem Screen.sameWork_kept {c o : Screen} : c.kept.sameWork o ↔ c.sameWork o := Iff.rfl

theorem Screen.alerted_kept {c : Screen} {n : Nat} {p : Priority} : c.kept.alerted n p ↔ c.alerted n p := Iff.rfl

theorem Screen.sameWork.signedOnAt {a b : Screen} (h : a.sameWork b) (d : Nat) : a.signedOnAt d = b.signedOnAt d := by
  obtain ⟨hmode, hdesk, -⟩ := h
  rw [Screen.signedOnAt, Screen.signedOnAt, Screen.signedOn, Screen.signedOn, hmode, hdesk]

section
variable {s : State} {m k d n : Nat} {p : Priority}

theorem State.length_screens_alertScreen (k n : Nat) (p : Priority) :
    (s.alertScreen k n p).screens.length = s.screens.length := by
  cases p <;> simp [State.alertScreen, State.joinRing, State.wake, State.bell]

theorem State.screen_joinRing (h : m < s.screens.length) :
    ((s.joinRing m n).screen m).sameWork (s.screen m) ∧ n ∈ ((s.joinRing m n).screen m).ring := by
  rw [State.joinRing, State.screen_updScreen _ _ _ h]
  split
  · next hin => exact ⟨.refl _, by simpa using hin⟩
  · split
    · exact ⟨.refl _, by simp⟩
    · exact ⟨.refl _, by simp⟩

theorem State.screen_wake (h : m < s.screens.length) :
    ((s.wake m).screen m).sameWork (s.screen m) ∧ ((s.wake m).screen m).ring = (s.screen m).ring ∧
      ((s.wake m).screen m).blanked = false := by
  rw [State.wake, State.screen_updScreen _ _ _ h]
  split
  · rw [snapTop_only]
    exact ⟨⟨rfl, rfl, rfl, rfl, rfl⟩, rfl, rfl⟩
  · next hawake => exact ⟨.refl _, rfl, Bool.eq_false_iff.2 hawake⟩

/-- The alert of one screen leaves its work, and does what its priority asks (R63). -/
theorem State.screen_alertScreen (h : m < s.screens.length) :
    ((s.alertScreen m n p).screen m).sameWork (s.screen m) ∧ ((s.alertScreen m n p).screen m).alerted n p := by
  have hmarked : ((s.updScreen m fun c => { c with newMark := true }).screen m).sameWork (s.screen m) ∧
      ((s.updScreen m fun c => { c with newMark := true }).screen m).newMark = true := by
    rw [State.screen_updScreen _ _ _ h]
    exact ⟨.refl _, rfl⟩
  cases p with
  | flash =>
    have hjoined : m < (s.joinRing m n).screens.length := by simpa [State.joinRing] using h
    obtain ⟨hwork, hring⟩ := State.screen_joinRing (n := n) h
    obtain ⟨hwoken, hkept, hawake⟩ := State.screen_wake hjoined
    exact ⟨hwoken.trans hwork, fun _ => ⟨hkept ▸ hring, hawake⟩, by simp⟩
  | bulletin =>
    refine ⟨?_, by simp, by simp⟩
    rw [State.alertScreen, State.bell, State.screen_updScreen _ _ _ h, Screen.bell]
    split <;> exact .refl _
  | urgent => exact ⟨hmarked.1, by simp, fun _ => hmarked.2⟩
  | routine => exact ⟨hmarked.1, by simp, fun _ => hmarked.2⟩

theorem State.screen_alertScreen_of_ne (h : m ≠ k) : (s.alertScreen k n p).screen m = s.screen m := by
  cases p with
  | flash =>
    rw [State.alertScreen, State.wake, State.screen_updScreen_of_ne _ _ _ _ h, State.joinRing,
      State.screen_updScreen_of_ne _ _ _ _ h]
  | bulletin => exact State.screen_updScreen_of_ne _ _ _ _ h
  | urgent => exact State.screen_updScreen_of_ne _ _ _ _ h
  | routine => exact State.screen_updScreen_of_ne _ _ _ _ h

/-- One screen alerted where it is signed on at the desk. -/
def State.alertAt (s : State) (d n : Nat) (p : Priority) (k : Nat) : State :=
  if (s.screen k).signedOnAt d then s.alertScreen k n p else s

theorem State.length_screens_alertAt (k : Nat) : (s.alertAt d n p k).screens.length = s.screens.length := by
  unfold State.alertAt
  split
  · exact State.length_screens_alertScreen k n p
  · rfl

theorem State.alert_eq_foldl (s : State) (d n : Nat) (p : Priority) :
    s.alert d n p none = (List.range 32).foldl (fun t k => t.alertAt d n p k) s := by
  have hstep : ∀ (t : State) (k : Nat),
      (if (t.screen k).signedOnAt d && (none : Option Nat) != some k then t.alertScreen k n p else t) = t.alertAt d n p k :=
    fun t k => by simp [State.alertAt]
  rw [State.alert, State.overScreens]
  simp only [hstep]
  rfl

/-- A screen goes on with its work through an alert, and is alerted once its turn has come, if it is signed on at the desk. -/
theorem State.screen_foldl_alertAt (l : List Nat) (h : m < s.screens.length) :
    ((l.foldl (fun t k => t.alertAt d n p k) s).screen m).sameWork (s.screen m) ∧
      ((s.screen m).signedOnAt d = true → (m ∈ l ∨ (s.screen m).alerted n p) →
        ((l.foldl (fun t k => t.alertAt d n p k) s).screen m).alerted n p) := by
  induction l generalizing s with
  | nil => exact ⟨.refl _, fun _ halerted => halerted.resolve_left nofun⟩
  | cons k l ih =>
    have hin : m < (s.alertAt d n p k).screens.length := by
      rw [State.length_screens_alertAt]
      exact h
    obtain ⟨hwork, halert⟩ := ih hin
    have hstep : ((s.alertAt d n p k).screen m).sameWork (s.screen m) ∧
        ((s.screen m).signedOnAt d = true → (m = k ∨ (s.screen m).alerted n p) →
          ((s.alertAt d n p k).screen m).alerted n p) := by
      unfold State.alertAt
      by_cases hmk : m = k
      · subst hmk
        split
        · obtain ⟨hkept, halerted⟩ := State.screen_alertScreen (n := n) (p := p) h
          exact ⟨hkept, fun _ _ => halerted⟩
        · next hoff => exact ⟨.refl _, fun hon => absurd hon hoff⟩
      · have hkept : (if (s.screen k).signedOnAt d then s.alertScreen k n p else s).screen m = s.screen m := by
          split
          · exact State.screen_alertScreen_of_ne hmk
          · rfl
        rw [hkept]
        exact ⟨.refl _, fun _ halerted => halerted.resolve_left hmk⟩
    refine ⟨hwork.trans hstep.1, fun hon hturn => halert (hstep.1.signedOnAt d ▸ hon) ?_⟩
    rcases hturn with hturn | halerted
    · rcases List.mem_cons.1 hturn with hmk | hml
      · exact .inr (hstep.2 hon (.inl hmk))
      · exact .inl hml
    · exact .inr (hstep.2 hon (.inr halerted))

/-- An arrival at a desk leaves every screen its work and alerts those signed on at the desk (R63). -/
theorem State.screen_alert (hlength : s.screens.length = 32) (hm : m < 32) :
    ((s.alert d n p none).screen m).sameWork (s.screen m) ∧
      ((s.screen m).signedOnAt d = true → ((s.alert d n p none).screen m).alerted n p) := by
  obtain ⟨hwork, halert⟩ := State.screen_foldl_alertAt (d := d) (n := n) (p := p) (List.range 32)
    (hlength ▸ hm : m < s.screens.length)
  rw [State.alert_eq_foldl]
  exact ⟨hwork, fun hon => halert hon (.inl (List.mem_range.2 hm))⟩

theorem State.screen_reportDesk_kept (d m : Nat) : ((s.reportDesk d).screen m).kept = (s.screen m).kept := by
  refine State.screen_kept_of_map rfl (fun c => ?_) m
  split
  · exact settleBasket_kept s _
  · rfl

end

/-! ## A basket joined (R53) -/

section
variable {s : State} {n d m : Nat} {x : Story}

theorem State.enterBasket_eq (hx : s.story n = some x) :
    s.enterBasket n none =
      (((s.updBasket x.desk (placeEntry s.rank ⟨n, s.clock.time, false⟩)).alert x.desk n x.priority none)).reportDesk x.desk := by
  rw [State.enterBasket, hx]

theorem State.screen_enterBasket (hx : s.story n = some x) (hlength : s.screens.length = 32) (hm : m < 32) :
    ((s.enterBasket n none).screen m).kept.sameWork (s.screen m) ∧
      ((s.screen m).signedOnAt x.desk = true → ((s.enterBasket n none).screen m).kept.alerted n x.priority) := by
  obtain ⟨hwork, halert⟩ := State.screen_alert (s := s.updBasket x.desk (placeEntry s.rank ⟨n, s.clock.time, false⟩))
    (d := x.desk) (n := n) (p := x.priority) hlength hm
  rw [State.enterBasket_eq hx, State.screen_reportDesk_kept, Screen.sameWork_kept, Screen.alerted_kept]
  exact ⟨hwork, halert⟩

theorem State.basket_enterBasket (hx : s.story n = some x) (hd : x.desk < s.baskets.length) :
    JoinsClass (s.enterBasket n none) (s.basket x.desk) ((s.enterBasket n none).basket x.desk) ⟨n, s.clock.time, false⟩
      x.priority.code := by
  have hbasket : (s.enterBasket n none).basket x.desk = placeEntry s.rank ⟨n, s.clock.time, false⟩ (s.basket x.desk) := by
    rw [State.basket, State.enterBasket_only s n none x hx]
    exact State.basket_updBasket s _ _ hd
  have hranks : (s.enterBasket n none).rank = s.rank := by
    rw [State.enterBasket_only s n none x hx]
    rfl
  have hrank : s.rank ⟨n, s.clock.time, false⟩ = x.priority.code := by simp only [State.rank, hx]
  obtain ⟨l, r, hbefore, hafter, hl, hr⟩ := placeEntry_eq s.rank ⟨n, s.clock.time, false⟩ (s.basket x.desk)
  rw [hrank] at hl hr
  exact ⟨l, r, hbefore, hbasket.trans hafter, hranks ▸ hl, hranks ▸ hr⟩

theorem State.basket_enterBasket_of_ne (hx : s.story n = some x) (hd : d ≠ x.desk) :
    (s.enterBasket n none).basket d = s.basket d := by
  rw [State.basket, State.enterBasket_only s n none x hx]
  exact State.basket_updBasket_of_ne s _ _ _ hd

end

end Sys2Proof.Machine
end

section
/-! SUPPORT. STORY_LOAD: its body, its judgement, and what the load leaves (R36, R210). -/

namespace Sys2Proof.Machine

/-! ## The load (R36) -/

section
variable {s : State} {n : Nat} {x : Story} {run : List Byte}

/-- A record filled and its text put in its chain (R36 steps 1 to 4). -/
def State.recorded (s : State) (n : Nat) (x : Story) (run : List Byte) : State :=
  (s.setStory n (some x)).putChain n ((s.chain n).append s.store.free run).1 ((s.chain n).append s.store.free run).2

/-- A story loaded: recorded, put in its desk's basket and scheduled (R36). -/
def State.loaded (s : State) (n : Nat) (x : Story) (run : List Byte) : State :=
  ((s.recorded n x run).enterBasket n none).schedule n

theorem State.recorded_only (n : Nat) (x : Story) (run : List Byte) :
    s.recorded n x run = { s with
      store := ⟨((s.chain n).append s.store.free run).2, s.store.chains.set n ((s.chain n).append s.store.free run).1⟩
      stories := s.stories.set n (some x)
      screens := (s.recorded n x run).screens
      host := (s.recorded n x run).host } := by
  unfold State.recorded
  rw [State.putChain_only]
  rfl

theorem State.story_recorded (hn : n < s.stories.length) (m : Nat) :
    (s.recorded n x run).story m = if m = n then some x else s.story m := by
  rw [State.recorded, State.story_putChain, State.story_setStory s n m (some x) hn]

theorem State.chain_recorded (hin : n < s.store.chains.length) (m : Nat) :
    (s.recorded n x run).chain m = if m = n then ((s.chain n).append s.store.free run).1 else s.chain m :=
  State.chain_putChain (s.setStory n (some x)) n m _ _ hin

theorem State.screen_recorded_kept (m : Nat) : ((s.recorded n x run).screen m).kept = (s.screen m).kept :=
  State.screen_putChain_kept (s.setStory n (some x)) n _ _ m

theorem State.host_recorded :
    (s.recorded n x run).host =
      if s.storeLow = false ∧ (s.recorded n x run).storeLow = true then (s.raise .storeLow).host else s.host := by
  have hraise : ((s.setStory n (some x)).raise .storeLow).host = (s.raise .storeLow).host := by
    apply State.raise_host_congr
    rfl
  have hlow : (s.setStory n (some x)).storeLow = s.storeLow := rfl
  have hhost : (s.setStory n (some x)).host = s.host := rfl
  rw [State.recorded, State.host_putChain, hraise, hlow, hhost]

/-- What a load changes, and what of it the state before tells. -/
theorem State.loaded_only (hn : n < s.stories.length) :
    s.loaded n x run = { s with
      store := (s.recorded n x run).store
      stories := (s.recorded n x run).stories
      baskets := ((s.recorded n x run).enterBasket n none).baskets
      screens := ((s.recorded n x run).enterBasket n none).screens
      fit := (s.schedule n).fit
      host := (s.recorded n x run).host } := by
  have hx : (s.recorded n x run).story n = some x := by rw [State.story_recorded hn, if_pos rfl]
  unfold State.loaded State.schedule
  rw [State.enterBasket_only _ n none x hx, State.recorded_only]

/-- A load whose text the store takes and whose basket has room is judged as the load. -/
theorem State.finishLoad_recorded {d : Nat} (hroom : (s.basket d).length < 64) :
    (s.recorded n x run).finishLoad n d = .ok (s.loaded n x run) := by
  have hbasket : (s.recorded n x run).basket d = s.basket d := by
    rw [State.recorded_only]
    rfl
  have hroomAt : (s.recorded n x run).roomAt d = true := by
    rw [State.roomAt, hbasket]
    exact decide_eq_true hroom
  rw [State.finishLoad, if_pos hroomAt]
  rfl

/-! ## What the load leaves -/

theorem State.story_loaded (hn : n < s.stories.length) (m : Nat) :
    (s.loaded n x run).story m = if m = n then some x else s.story m := by
  rw [← State.story_recorded hn (run := run), State.story, State.loaded_only hn]
  rfl

theorem State.chain_loaded (hn : n < s.stories.length) (hin : n < s.store.chains.length) (m : Nat) :
    (s.loaded n x run).chain m = if m = n then ((s.chain n).append s.store.free run).1 else s.chain m := by
  rw [← State.chain_recorded hin (x := x), State.chain, State.loaded_only hn]
  rfl

theorem State.othersKept_loaded (hn : n < s.stories.length) (hin : n < s.store.chains.length) :
    OthersKept s (s.loaded n x run) n := fun m hm => by
  rw [State.story_loaded hn, State.chain_loaded hn hin, if_neg hm, if_neg hm]
  exact ⟨rfl, rfl⟩

theorem State.text_loaded (hn : n < s.stories.length) (hin : n < s.store.chains.length) (hempty : s.chain n = [])
    (hfree : (run.length + 63) / 64 ≤ s.store.free.length) : (s.loaded n x run).text n = run := by
  obtain ⟨htext, -⟩ := Chain.append_spec (s.chain n) s.store.free run ((Chain.needed_le _ _).trans hfree)
  rw [State.text, State.chain_loaded hn hin, if_pos rfl, htext, hempty]
  rfl

theorem State.rescheduled_loaded (hn : n < s.stories.length) : Rescheduled s (s.loaded n x run) n :=
  rescheduled_of_fit (by rw [State.loaded_only hn])

theorem State.host_loaded (hn : n < s.stories.length) :
    (s.loaded n x run).host =
      if s.storeLow = false ∧ (s.loaded n x run).storeLow = true then (s.raise .storeLow).host else s.host := by
  have hstore : (s.loaded n x run).store = (s.recorded n x run).store := by rw [State.loaded_only hn]
  rw [State.storeLow_eq_of_store hstore, ← State.host_recorded, State.loaded_only hn]

theorem State.joinsClass_loaded (hn : n < s.stories.length) (hd : x.desk < s.baskets.length) :
    JoinsClass (s.loaded n x run) (s.basket x.desk) ((s.loaded n x run).basket x.desk) ⟨n, s.clock.time, false⟩
      x.priority.code := by
  have hx : (s.recorded n x run).story n = some x := by rw [State.story_recorded hn, if_pos rfl]
  have hbaskets : (s.recorded n x run).baskets = s.baskets := by rw [State.recorded_only]
  have hclock : (s.recorded n x run).clock = s.clock := by rw [State.recorded_only]
  have hjoined := State.basket_enterBasket hx (hbaskets ▸ hd)
  rw [hclock, State.basket, hbaskets] at hjoined
  exact hjoined

theorem State.basket_loaded_of_ne (hn : n < s.stories.length) {e : Nat} (he : e ≠ x.desk) :
    (s.loaded n x run).basket e = s.basket e := by
  have hx : (s.recorded n x run).story n = some x := by rw [State.story_recorded hn, if_pos rfl]
  have hbaskets : (s.recorded n x run).baskets = s.baskets := by rw [State.recorded_only]
  have hkept := State.basket_enterBasket_of_ne hx he
  rw [State.basket, State.basket, hbaskets] at hkept
  exact hkept

/-- The screens go on with their work, and those of the story's desk are alerted (R63). -/
theorem State.screen_loaded (hn : n < s.stories.length) (hlength : s.screens.length = 32) {m : Nat} (hm : m < 32) :
    ((s.loaded n x run).screen m).kept.sameWork (s.screen m) ∧
      ((s.screen m).signedOnAt x.desk = true → ((s.loaded n x run).screen m).kept.alerted n x.priority) := by
  have hx : (s.recorded n x run).story n = some x := by rw [State.story_recorded hn, if_pos rfl]
  have hlength' : (s.recorded n x run).screens.length = 32 := by
    obtain ⟨f, hf⟩ := State.putChain_screens (s.setStory n (some x)) n ((s.chain n).append s.store.free run).1
      ((s.chain n).append s.store.free run).2
    rw [State.recorded, hf, List.length_map]
    exact hlength
  have hwork : ((s.recorded n x run).screen m).sameWork (s.screen m) := by
    rw [← Screen.sameWork_kept, State.screen_recorded_kept]
    exact .refl _
  obtain ⟨hentered, halert⟩ := State.screen_enterBasket hx hlength' hm
  exact ⟨hentered.trans hwork, fun hon => halert (hwork.signedOnAt x.desk ▸ hon)⟩

end

/-- State u is state s after story n is loaded with a record and a text, and nothing else changed but what the arrival in its
basket and the report of the threshold bring (R36, R53, R63). -/
structure StoryLoad (s u : State) (n : Nat) (x : Story) (run : List Byte) : Prop where
  story_eq : u.story n = some x
  text_eq : u.text n = run
  joins : JoinsClass u (s.basket x.desk) (u.basket x.desk) ⟨n, s.clock.time, false⟩ x.priority.code
  elsewhere : ∀ e, e ≠ x.desk → u.basket e = s.basket e
  others : OthersKept s u n
  rescheduled : Rescheduled s u n
  screen : ∀ m < 32, (u.screen m).kept.sameWork (s.screen m) ∧
    ((s.screen m).signedOnAt x.desk = true → (u.screen m).kept.alerted n x.priority)
  desks : u.desks = s.desks
  sameOutput : SameOutput s u
  sameLines : SameLines s u
  host_eq : u.host = if s.storeLow = false ∧ u.storeLow = true then (s.raise .storeLow).host else s.host

theorem State.storyLoad_loaded {s : State} {n : Nat} {x : Story} {run : List Byte} (hn : n < s.stories.length)
    (hin : n < s.store.chains.length) (hempty : s.chain n = []) (hfree : (run.length + 63) / 64 ≤ s.store.free.length)
    (hd : x.desk < s.baskets.length) (hlength : s.screens.length = 32) : StoryLoad s (s.loaded n x run) n x run where
  story_eq := by rw [State.story_loaded hn, if_pos rfl]
  text_eq := State.text_loaded hn hin hempty hfree
  joins := State.joinsClass_loaded hn hd
  elsewhere _ he := State.basket_loaded_of_ne hn he
  others := State.othersKept_loaded hn hin
  rescheduled := State.rescheduled_loaded hn
  screen _ hm := State.screen_loaded hn hlength hm
  desks := by rw [State.loaded_only hn]
  sameOutput := by
    rw [State.loaded_only hn]
    exact ⟨rfl, rfl, rfl, rfl, rfl⟩
  sameLines := by
    rw [State.loaded_only hn]
    exact ⟨rfl, rfl, rfl, rfl, rfl⟩
  host_eq := State.host_loaded hn

/-- The reply and the layout leave a screen its work and its alert. -/
theorem State.arrival_replied {u : State} {c : Screen} {m d n : Nat} {p : Priority} (hwork : (u.screen m).kept.sameWork c)
    (halert : c.signedOnAt d = true → (u.screen m).kept.alerted n p) (kind tag : Byte) (b : List Byte) (due : Bool) :
    (((u.reply kind tag b due).settle.screen m).mode = c.mode ∧ ((u.reply kind tag b due).settle.screen m).story = c.story ∧
      ((u.reply kind tag b due).settle.screen m).prompt = c.prompt ∧
      ((u.reply kind tag b due).settle.screen m).cursor = c.cursor ∧
      (c.signedOnAt d = true → ((u.reply kind tag b due).settle.screen m).alerted n p)) := by
  have hkept := State.screen_settle_kept (u.reply kind tag b due) m
  rw [State.screen_reply] at hkept
  rw [← hkept, Screen.sameWork_kept] at hwork
  rw [← hkept, Screen.alerted_kept] at halert
  obtain ⟨hmode, -, hstory, hprompt, hcursor⟩ := hwork
  exact ⟨hmode, hstory, hprompt, hcursor, halert⟩

/-! ## The judgement (R36, R210) -/

/-- The layout of STORY_LOAD read back. -/
theorem readBody_load {slug text : List Byte} {d p mask : Nat} {y : Style} (hslug : slug.length < 256) (hd : d < 256)
    (hp : p < 256) (hmask : mask < 65536) (hy : y.carried) (htext : text.length < 65536) :
    readBody readLoad (textField 1 slug ++ be 1 d ++ be 1 p ++ be 2 mask ++ styleField y ++ textField 2 text) =
      some ⟨slug, d, p, mask, y, text⟩ := by
  have hlast := readText_textField 2 text htext []
  rw [List.append_nil] at hlast
  apply readBody_eq_some
  simp [readLoad, readText_textField 1 slug hslug, readNat_be 1 d hd, readNat_be 1 p hp, readNat_be 2 mask hmask,
    readStyle_styleField y hy, hlast]

theorem length_loadBody {slug text : List Byte} (d p mask : Nat) (y : Style) (hslug : slug.length ≤ 12)
    (htext : text.length ≤ 960) :
    (textField 1 slug ++ be 1 d ++ be 1 p ++ be 2 mask ++ styleField y ++ textField 2 text).length ≤ 1024 := by
  simp [textField, styleField]
  omega

/-- A field laid over an old one shows a clamp exactly where the mask names it and the clamp changed it. -/
theorem overlay_eq_iff (b : Bool) (old carried clamped : Nat) :
    (if b then carried else clamped) = clamped ↔ (if b then clamped else old) = (if b then carried else old) := by
  cases b <;> simp [eq_comm]

theorem overlayStyle_eq_iff (mask : Nat) (old carried clamped : Style) :
    overlayStyle mask clamped carried = clamped ↔ overlayStyle mask old clamped = overlayStyle mask old carried := by
  obtain ⟨face, size, set, leading, measure, indent⟩ := clamped
  simp only [overlayStyle, Style.mk.injEq]
  exact and_congr (overlay_eq_iff ..) (and_congr (overlay_eq_iff ..) (and_congr (overlay_eq_iff ..)
    (and_congr (overlay_eq_iff ..) (and_congr (overlay_eq_iff ..) (overlay_eq_iff ..)))))

/-- The status of a style: ADJUSTED where a field that the mask names was clamped (R210). -/
theorem code_okOr_styleClamped (mask : Nat) (old y : Style) :
    (okOr (styleClamped mask y)).code =
      if overlayStyle mask old (clampStyle y) = overlayStyle mask old y then 0x00 else 0x01 := by
  have hiff := overlayStyle_eq_iff mask old y (clampStyle y)
  by_cases h : overlayStyle mask (clampStyle y) y = clampStyle y
  · rw [if_pos (hiff.1 h), styleClamped]
    simp only [h, ne_eq, not_true_eq_false, decide_false]
    rfl
  · rw [if_neg fun h' => h (hiff.2 h'), styleClamped]
    simp only [h, ne_eq, not_false_eq_true, decide_true]
    rfl

section
variable {s : State} {n : Nat}

/-- The lowest EMPTY record is the one that a creation takes (R20). -/
theorem State.emptyRecord_of_lowest (hn : n < 512) (hempty : s.story n = none) (hlower : ∀ m < n, (s.story m).isSome = true) :
    s.emptyRecord = some n :=
  List.find?_range_eq_some.2 ⟨by simp [hempty], List.mem_range.2 hn, fun m hm => by simp [hlower m hm]⟩

theorem State.findSlug_eq_none {slug : List Byte} (h : ∀ m x, s.story m = some x → x.slug ≠ slug) : s.findSlug slug = none := by
  refine List.find?_eq_none.2 fun m _ hm => ?_
  obtain ⟨x, hx, hslug⟩ := (Option.any_eq_true _ _).1 hm
  exact h m x hx (by simpa using hslug)

theorem Priority.lt_of_ofCode {p : Nat} {pr : Priority} (h : Priority.ofCode p = some pr) : p < 4 := by
  unfold Priority.ofCode at h
  split at h
  case h_5 => cases h
  all_goals omega

/-- A load that passes every check of R36. -/
theorem reqStoryLoad_eq {slug text : List Byte} {d p mask : Nat} {y : Style} {k : Desk} {pr : Priority} {x : Story}
    (hmin : 1 ≤ slug.length) (hmax : slug.length ≤ 12) (hcodes : (slug.map foldCase).all isSlugCode = true) (hd : d < 16)
    (hk : s.desk d = some k) (hp : Priority.ofCode p = some pr) (hmask : mask < 64) (hy : y.carried)
    (htext : text.length ≤ 960) (hnew : ∀ m x, s.story m = some x → x.slug ≠ slug.map foldCase)
    (hempty : s.emptyRecord = some n) (hcount : s.count n + text.length ≤ 30000)
    (hfree : (text.length + 63) / 64 ≤ s.store.free.length) (hroom : (s.basket d).length < 64)
    (hx : x = newStory (slug.map foldCase) .queued pr d none (overlayStyle mask k.style (clampStyle y)) s.clock.time) :
    reqStoryLoad (textField 1 slug ++ be 1 d ++ be 1 p ++ be 2 mask ++ styleField y ++ textField 2 text) s =
      answer (s.loaded n x (text.map toCopyCode)) (okOr (styleClamped mask y))
        (be 2 n ++ be 2 ((s.loaded n x (text.map toCopyCode)).count n) ++ be 2 (text.countP fun c => !isCopyCode c)
          ++ styleField x.style) := by
  have hmap : (text.map toCopyCode).length = text.length := List.length_map ..
  have hp' := Priority.lt_of_ofCode hp
  have happend : (s.setStory n (some x)).appendRun n (text.map toCopyCode) = .ok (s.recorded n x (text.map toCopyCode)) :=
    State.appendRun_eq (s := s.setStory n (some x)) (n := n) (hmap ▸ hcount) (hmap ▸ hfree)
  subst hx
  rw [reqStoryLoad, readBody_load (by omega) (by omega) (by omega) (by omega) hy (by omega)]
  dsimp only
  rw [if_neg (by omega), slugOf_eq_some hmin hmax hcodes, hp]
  dsimp only
  rw [if_neg (by omega), hk]
  dsimp only
  rw [State.findSlug_eq_none hnew, if_neg (by simp), hempty]
  dsimp only
  rw [happend]
  dsimp only
  rw [State.finishLoad_recorded hroom]
  rfl

end

/-- Settles O35: the judgement is the load (`State.loaded_only`), which the reply and the layout leave as it is. -/
theorem loadedStoriesFillARecord : Obligations.LoadedStoriesFillARecord := by
  intro tag slug d p mask y text n k pr s hreply hmin hmax hcodes hd hk hp hmask hy htext hnew hn hempty hlower hw hlimits
    hfree hroom
  obtain ⟨x, hx⟩ : ∃ x, x = newStory (slug.map foldCase) .queued pr d none (overlayStyle mask k.style (clampStyle y))
    s.clock.time := ⟨_, rfl⟩
  have hdesk : x.desk = d := by rw [hx, newStory]
  have hpriority : x.priority = pr := by rw [hx, newStory]
  have hstyle : x.style = overlayStyle mask k.style (clampStyle y) := by rw [hx, newStory]
  obtain ⟨hstories, hchains, -, -, hnil⟩ := hw
  obtain ⟨-, hbaskets, -, -, hscreens, -⟩ := hlimits
  have hempty' : s.hunt.chain n = [] := hnil n hempty
  have hmap : (text.map toCopyCode).length = text.length := List.length_map ..
  have hcount : s.hunt.count n + text.length ≤ 30000 := by
    rw [State.count, hempty', Chain.count_eq]
    exact (Nat.zero_add _).trans_le (htext.trans (by decide))
  have hserved := requestOutcome_of_judged (kind := 0x40) tag hreply (length_loadBody d p mask y hmax htext) rfl (by decide)
    (reqStoryLoad_eq (s := s.hunt) (x := x) hmin hmax hcodes hd hk hp hmask hy htext hnew
      (State.emptyRecord_of_lowest hn hempty hlower) hcount hfree hroom hx)
  have hload := State.storyLoad_loaded (s := s.hunt) (x := x) (run := text.map toCopyCode) (hn.trans_eq hstories.symm)
    (hn.trans_eq hchains.symm) hempty' (hmap ▸ hfree) (hdesk ▸ hd.trans_eq hbaskets.symm) hscreens
  have hloadedCount : (s.hunt.loaded n x (text.map toCopyCode)).count n = text.length := by
    rw [State.count, Chain.count_eq, ← State.text, hload.text_eq, hmap]
  rw [hloadedCount, code_okOr_styleClamped mask k.style y, hstyle] at hserved
  generalize s.hunt.loaded n x (text.map toCopyCode) = u at hserved hload
  have hhost := hload.host_eq.trans (State.host_hunt_storeLow s _)
  subst hdesk hpriority
  refine ⟨_, hserved, hload.story_eq.trans (congrArg some hx), hload.text_eq, hload.joins, hload.elsewhere, hload.others,
    hload.rescheduled, fun m => ?_, hload.desks, hload.sameOutput,
    SameLines.settle (u := u.reply _ _ _ _) hload.sameLines, State.host_reply hhost 0xC0 tag _⟩
  obtain ⟨hwork, halert⟩ := hload.screen m m.isLt
  exact State.arrival_replied hwork halert _ _ _ _

end Sys2Proof.Machine
end

section
/-! SUPPORT. A story that leaves or joins a basket: the baskets and the records after it, and what it leaves of each screen (R31, R53,
R54, R63). -/

namespace Sys2Proof.Machine

/-! ## What an operation on stories and screens leaves -/

/-- Nothing changed but the story table, the baskets, the screens, the turn of the keys and the host line. -/
structure Aside (s u : State) : Prop where
  store : u.store = s.store
  desks : u.desks = s.desks
  fit : u.fit = s.fit
  profiles : u.profiles = s.profiles
  lines : u.lines = s.lines
  pages : u.pages = s.pages
  settingQueue : u.settingQueue = s.settingQueue
  edition : u.edition = s.edition
  link : u.link = s.link
  proof : u.proof = s.proof
  clock : u.clock = s.clock
  strapPins : u.strapPins = s.strapPins
  pending : u.pending = s.pending

theorem Aside.refl (s : State) : Aside s s := ⟨rfl, rfl, rfl, rfl, rfl, rfl, rfl, rfl, rfl, rfl, rfl, rfl, rfl⟩

theorem Aside.trans {s t u : State} (h : Aside s t) (k : Aside t u) : Aside s u :=
  ⟨k.store.trans h.store, k.desks.trans h.desks, k.fit.trans h.fit, k.profiles.trans h.profiles, k.lines.trans h.lines,
    k.pages.trans h.pages, k.settingQueue.trans h.settingQueue, k.edition.trans h.edition, k.link.trans h.link,
    k.proof.trans h.proof, k.clock.trans h.clock, k.strapPins.trans h.strapPins, k.pending.trans h.pending⟩

/-- The tables that an operation on stories and screens may change, changed. -/
theorem Aside.tables (s : State) (stories : List (Option Story)) (baskets : List (List Entry)) (screens : List Screen)
    (host : HostLine) : Aside s { s with stories := stories, baskets := baskets, screens := screens, host := host } :=
  ⟨rfl, rfl, rfl, rfl, rfl, rfl, rfl, rfl, rfl, rfl, rfl, rfl, rfl⟩

theorem Aside.sameOutput {s u : State} (h : Aside s u) : SameOutput s u :=
  ⟨h.pages, h.settingQueue, h.edition, h.link, h.proof⟩

theorem Aside.sameLines {s u : State} (h : Aside s u) : SameLines s u :=
  ⟨by rw [h.lines], h.profiles, h.clock, h.strapPins, h.pending⟩

/-! ## One screen changed -/

section
variable (s : State)

theorem State.screen_updScreen_eq (n m : Nat) (f : Screen → Screen) :
    (s.updScreen n f).screen m = if m = n ∧ n < s.screens.length then f (s.screen m) else s.screen m := by
  by_cases hm : m = n
  · subst hm
    by_cases hin : m < s.screens.length
    · rw [State.screen_updScreen s m f hin, if_pos ⟨rfl, hin⟩]
    · rw [if_neg (by simp [hin])]
      simp [State.screen, State.updScreen, List.getD_eq_getElem?_getD, hin]
  · rw [State.screen_updScreen_of_ne s n m f hm, if_neg (by simp [hm])]

/-- Two changes of a table that agree on the entry as it stands are one change. -/
theorem modify_congr_getD {α : Type} {l : List α} {n : Nat} {d : α} {f g : α → α} (h : f (l.getD n d) = g (l.getD n d)) :
    l.modify n f = l.modify n g := by
  refine List.ext_getElem? fun i => ?_
  rw [List.getElem?_modify, List.getElem?_modify]
  rcases eq_or_ne n i with rfl | hi
  · rw [List.getD_eq_getElem?_getD] at h
    cases hc : l[n]? with
    | none => rfl
    | some c => simpa [hc] using h
  · simp [hi]

theorem State.updScreen_congr {n : Nat} {f g : Screen → Screen} (h : f (s.screen n) = g (s.screen n)) :
    s.updScreen n f = s.updScreen n g := congrArg (fun l => { s with screens := l }) (modify_congr_getD h)

theorem State.updLine_congr {n : Nat} {f g : Line → Line} (h : f (s.line n) = g (s.line n)) :
    s.updLine n f = s.updLine n g := congrArg (fun l => { s with lines := l }) (modify_congr_getD h)

/-- A change that leaves a screen as it stands changes nothing. -/
theorem State.updScreen_self {n : Nat} {f : Screen → Screen} (h : f (s.screen n) = s.screen n) : s.updScreen n f = s := by
  have hid : s.updScreen n id = s := by simp [State.updScreen]
  exact (s.updScreen_congr (g := id) h).trans hid

end

/-! ## The task of a screen (R63 to R65) -/

/-- A screen less what a layout, an alert, a ring list or a report of its desk may change: its state, its story and cursor, its prompt,
its messages and its grace. -/
def Screen.task (c : Screen) : Screen :=
  { c.kept with
    profileNo := 0, profile := .basic, blanked := false, top := 0, ring := [], newMark := false, idle := none
    ringTimer := none }

theorem Screen.task_eq_of_kept {c d : Screen} (h : c.kept = d.kept) : c.task = d.task := by
  rw [Screen.task, h]
  rfl

theorem Screen.task_leaveRing (n : Nat) (c : Screen) : (c.leaveRing n).task = c.task := by
  unfold Screen.leaveRing
  split
  · dsimp only
    split <;> rfl
  · rfl

theorem Screen.not_mem_ring_leaveRing (n : Nat) (c : Screen) : n ∉ (c.leaveRing n).ring := by
  unfold Screen.leaveRing
  split
  · dsimp only
    split <;> simp [Screen.stopRinging]
  · simpa using ‹¬c.ring.contains n = true›

theorem snapTop_task (s : State) (c : Screen) : (snapTop s c).task = c.task := by
  rw [snapTop_only]
  rfl

section
variable (s : State)

theorem State.task_updScreen {n : Nat} {f : Screen → Screen} (hf : ∀ c, (f c).task = c.task) (m : Nat) :
    ((s.updScreen n f).screen m).task = (s.screen m).task := by
  rw [State.screen_updScreen_eq]
  split
  · exact hf _
  · rfl

theorem State.task_joinRing (n story m : Nat) : ((s.joinRing n story).screen m).task = (s.screen m).task :=
  s.task_updScreen (fun c => by
    split
    · rfl
    · split <;> rfl) m

theorem State.task_wake (n m : Nat) : ((s.wake n).screen m).task = (s.screen m).task :=
  s.task_updScreen (fun c => by
    split
    · rw [snapTop_task]
      rfl
    · rfl) m

theorem State.task_alertScreen (n story : Nat) (p : Priority) (m : Nat) :
    ((s.alertScreen n story p).screen m).task = (s.screen m).task := by
  cases p with
  | flash => exact ((s.joinRing n story).task_wake n m).trans (s.task_joinRing n story m)
  | bulletin =>
    exact s.task_updScreen (fun c => by
      unfold Screen.bell
      split <;> rfl) m
  | urgent | routine => exact s.task_updScreen (f := fun c => { c with newMark := true }) (fun _ => rfl) m

theorem State.screen_alertScreen_ne {n m : Nat} (h : m ≠ n) (story : Nat) (p : Priority) :
    (s.alertScreen n story p).screen m = s.screen m := by
  cases p with
  | flash => exact (State.screen_updScreen_of_ne _ _ _ _ h).trans (State.screen_updScreen_of_ne _ _ _ _ h)
  | bulletin | urgent | routine => exact State.screen_updScreen_of_ne _ _ _ _ h

/-- What holds of every state a fold goes through, since each of its steps keeps it. -/
theorem State.foldl_keeps {α : Type} (P : State → Prop) (f : State → α → State) (hf : ∀ t a, P t → P (f t a)) (l : List α)
    (h : P s) : P (l.foldl f s) := by
  induction l generalizing s with
  | nil => exact h
  | cons a l ih => exact ih _ (hf s a h)

/-- An arrival leaves every screen its task. -/
theorem State.task_alert (d story : Nat) (p : Priority) (cause : Option Nat) (m : Nat) :
    ((s.alert d story p cause).screen m).task = (s.screen m).task := by
  refine s.foldl_keeps (fun t => (t.screen m).task = (s.screen m).task) _ (fun t k ht => ?_) _ rfl
  split
  · exact (t.task_alertScreen k story p m).trans ht
  · exact ht

/-- An arrival that a key of a screen caused leaves that screen as it was. -/
theorem State.screen_alert_cause (d story : Nat) (p : Priority) (m : Nat) :
    (s.alert d story p (some m)).screen m = s.screen m := by
  refine s.foldl_keeps (fun t => t.screen m = s.screen m) _ (fun t k ht => ?_) _ rfl
  split
  · next h =>
    refine (t.screen_alertScreen_ne ?_ story p).trans ht
    rintro rfl
    simp at h
  · exact ht

theorem State.task_reportDesk (d m : Nat) : ((s.reportDesk d).screen m).task = (s.screen m).task :=
  Screen.task_eq_of_kept (s.screen_reportDesk_kept d m)

theorem State.task_touchStory (n m : Nat) : ((s.touchStory n).screen m).task = (s.screen m).task :=
  Screen.task_eq_of_kept (s.screen_touchStory_kept n m)

theorem State.screen_leaveRings (n m : Nat) :
    (s.leaveRings n).screen m = if m < s.screens.length then (s.screen m).leaveRing n else s.screen m :=
  State.screen_of_map rfl m

theorem State.task_leaveRings (n m : Nat) : ((s.leaveRings n).screen m).task = (s.screen m).task := by
  rw [State.screen_leaveRings]
  split
  · exact Screen.task_leaveRing n _
  · rfl

theorem State.not_mem_ring_leaveRings (n m : Nat) : n ∉ ((s.leaveRings n).screen m).ring := by
  rw [State.screen_leaveRings]
  split
  · exact Screen.not_mem_ring_leaveRing n _
  · next h =>
    have hreset : s.screen m = Screen.reset := by simp [State.screen, List.getD_eq_getElem?_getD, h]
    simp [hreset, Screen.reset]

end

/-! ## A class joined (R53) -/

/-- A class is joined alike under the priorities of any state with the same story table. -/
theorem JoinsClass.of_priority {s t : State} (h : ∀ m, (t.story m).map Story.priority = (s.story m).map Story.priority)
    {before after : List Entry} {e : Entry} {r : Nat} (hj : JoinsClass s before after e r) :
    JoinsClass t before after e r := by
  have hrank : t.rank = s.rank := by
    funext e
    have he := h e.story
    unfold State.rank
    cases hs : s.story e.story <;> cases ht : t.story e.story <;> simp_all
  obtain ⟨a, b, hbefore, hafter, ha, hb⟩ := hj
  exact ⟨a, b, hbefore, hafter, hrank ▸ ha, hrank ▸ hb⟩

theorem JoinsClass.settle {u : State} {before after : List Entry} {e : Entry} {r : Nat} (h : JoinsClass u before after e r) :
    JoinsClass u.settle before after e r := h.of_priority fun _ => rfl

theorem JoinsClass.reply {u : State} {before after : List Entry} {e : Entry} {r : Nat} (h : JoinsClass u before after e r)
    (kind tag : Byte) (b : List Byte) (due : Bool) : JoinsClass (u.reply kind tag b due) before after e r :=
  h.of_priority fun _ => rfl

section
variable {s : State} {n d : Nat} {x : Story} {cause : Option Nat}

theorem State.enterBasket_eq_of_cause (hx : s.story n = some x) :
    s.enterBasket n cause =
      (((s.updBasket x.desk (placeEntry s.rank ⟨n, s.clock.time, false⟩)).alert x.desk n x.priority cause)).reportDesk x.desk := by
  rw [State.enterBasket, hx]

/-- What the arrival of story n in the basket of the desk of its record x leaves: the basket with a fresh entry in its class, and the
task of each screen. -/
structure Arrives (s u : State) (n : Nat) (x : Story) (cause : Option Nat) : Prop where
  aside : Aside s u
  host_eq : u.host = s.host
  joins : x.desk < s.baskets.length →
    JoinsClass u (s.basket x.desk) (u.basket x.desk) ⟨n, s.clock.time, false⟩ x.priority.code
  elsewhere : ∀ d, d ≠ x.desk → u.basket d = s.basket d
  task : ∀ m, (u.screen m).task = (s.screen m).task
  caused : ∀ m, cause = some m → (u.screen m).kept = (s.screen m).kept

theorem State.arrives_enterBasket (hx : s.story n = some x) : Arrives s (s.enterBasket n cause) n x cause where
  aside := by
    rw [State.enterBasket_only s n cause x hx]
    exact .tables ..
  host_eq := by rw [State.enterBasket_only s n cause x hx]
  joins hd := by
    have hbasket : (s.enterBasket n cause).basket x.desk = placeEntry s.rank ⟨n, s.clock.time, false⟩ (s.basket x.desk) := by
      rw [State.basket, State.enterBasket_only s n cause x hx]
      exact State.basket_updBasket s _ _ hd
    have hrank : s.rank ⟨n, s.clock.time, false⟩ = x.priority.code := by simp only [State.rank, hx]
    obtain ⟨l, r, hbefore, hafter, hl, hr⟩ := placeEntry_eq s.rank ⟨n, s.clock.time, false⟩ (s.basket x.desk)
    rw [hrank] at hl hr
    refine JoinsClass.of_priority (s := s) (fun m => ?_) ⟨l, r, hbefore, hbasket.trans hafter, hl, hr⟩
    rw [State.enterBasket_only s n cause x hx]
    rfl
  elsewhere d hd := by
    rw [State.basket, State.enterBasket_only s n cause x hx]
    exact State.basket_updBasket_of_ne s _ _ _ hd
  task m := by
    rw [State.enterBasket_eq_of_cause hx, State.task_reportDesk, State.task_alert]
    rfl
  caused m hm := by
    subst hm
    rw [State.enterBasket_eq_of_cause hx, State.screen_reportDesk_kept, State.screen_alert_cause]
    rfl

theorem State.stories_enterBasket (hx : s.story n = some x) : (s.enterBasket n cause).stories = s.stories := by
  rw [State.enterBasket_only s n cause x hx]

/-- A layout of the screens that show a story leaves its arrival as it was. -/
theorem Arrives.touchStory {u : State} (h : Arrives s u n x cause) (k : Nat) : Arrives s (u.touchStory k) n x cause where
  aside := by
    rw [State.touchStory_only]
    exact h.aside.trans (.tables ..)
  host_eq := by
    rw [State.touchStory_only]
    exact h.host_eq
  joins hd := by
    have hbasket : (u.touchStory k).basket x.desk = u.basket x.desk := by rw [State.touchStory_only]; rfl
    rw [hbasket]
    exact (h.joins hd).of_priority fun m => by rw [State.story, State.touchStory_stories]; rfl
  elsewhere d hd := by
    have hbaskets : (u.touchStory k).baskets = u.baskets := by rw [State.touchStory_only]
    rw [State.basket, hbaskets]
    exact h.elsewhere d hd
  task m := (u.task_touchStory k m).trans (h.task m)
  caused m hm := (u.screen_touchStory_kept k m).trans (h.caused m hm)

/-- A record changed before the arrival, but for its screens and baskets, is the arrival's own change. -/
theorem Arrives.of_updStory {u : State} {f : Story → Story} (h : Arrives (s.updStory n f) u n x cause) : Arrives s u n x cause where
  aside := Aside.trans (.tables ..) h.aside
  host_eq := h.host_eq
  joins := h.joins
  elsewhere := h.elsewhere
  task := h.task
  caused := h.caused

/-! ## A story made QUEUED (R22, R28) -/

/-- A record that is QUEUED, without an owner. -/
def Story.asQueued (x : Story) : Story := { x with state := .queued, owner := none }

theorem State.story_toQueued (hx : s.story n = some x) : (s.toQueued n cause).story n = some x.asQueued := by
  have hstories := congrArg State.stories (s.toQueued_only n cause)
  rw [State.story, hstories]
  exact (s.story_updStory n _).trans (congrArg _ hx)

theorem State.story_toQueued_of_ne {m : Nat} (h : m ≠ n) : (s.toQueued n cause).story m = s.story m := by
  have hstories := congrArg State.stories (s.toQueued_only n cause)
  rw [State.story, hstories]
  exact s.story_updStory_of_ne n m _ h

theorem State.arrives_toQueued (hx : s.story n = some x) : Arrives s (s.toQueued n cause) n x cause := by
  have hx' : (s.updStory n fun t => { t with state := .queued, owner := none }).story n = some x.asQueued := by
    rw [State.story_updStory, hx]
    rfl
  have h := Arrives.of_updStory ((State.arrives_enterBasket (cause := cause) hx').touchStory n)
  exact ⟨h.aside, h.host_eq, h.joins, h.elsewhere, h.task, h.caused⟩

/-! ## A story that leaves its basket (R54) -/

theorem State.baskets_leaveBasket (hx : s.story n = some x) :
    (s.leaveBasket n).baskets = s.baskets.modify x.desk (List.filter fun e => e.story != n) := by
  rw [State.leaveBasket, hx]
  rfl

/-- The basket of the story's desk loses its entry, and a desk out of range has none. -/
theorem State.basket_leaveBasket (hx : s.story n = some x) :
    (s.leaveBasket n).basket x.desk = (s.basket x.desk).filter fun e => e.story != n := by
  rw [State.basket, State.baskets_leaveBasket hx, State.basket]
  by_cases hd : x.desk < s.baskets.length
  · exact getD_modify_eq _ _ _ _ hd
  · simp [List.getD_eq_getElem?_getD, hd]

theorem State.basket_leaveBasket_of_ne (hx : s.story n = some x) (hd : d ≠ x.desk) :
    (s.leaveBasket n).basket d = s.basket d := by
  rw [State.basket, State.baskets_leaveBasket hx]
  exact getD_modify_ne _ _ _ _ _ hd

theorem State.stories_leaveBasket (n : Nat) : (s.leaveBasket n).stories = s.stories := by rw [State.leaveBasket_only]

theorem State.story_leaveBasket (n m : Nat) : (s.leaveBasket n).story m = s.story m := by
  rw [State.story, State.stories_leaveBasket]
  rfl

theorem State.task_leaveBasket (n m : Nat) : ((s.leaveBasket n).screen m).task = (s.screen m).task := by
  unfold State.leaveBasket
  split
  · rfl
  · rw [State.task_reportDesk, State.task_leaveRings]
    rfl

theorem State.not_mem_ring_leaveBasket (hx : s.story n = some x) (m : Nat) : n ∉ ((s.leaveBasket n).screen m).ring := by
  have hleft : s.leaveBasket n = ((s.updBasket x.desk fun l => l.filter fun e => e.story != n).leaveRings n).reportDesk x.desk := by
    rw [State.leaveBasket, hx]
  have hring : ((s.leaveBasket n).screen m).ring =
      (((s.updBasket x.desk fun l => l.filter fun e => e.story != n).leaveRings n).screen m).ring := by
    rw [hleft]
    exact (congrArg Screen.ring (State.screen_reportDesk_kept x.desk m) :)
  rw [hring]
  exact State.not_mem_ring_leaveRings _ n m

theorem State.aside_leaveBasket (n : Nat) : Aside s (s.leaveBasket n) := by
  rw [State.leaveBasket_only]
  exact .tables ..

theorem State.host_leaveBasket (n : Nat) : (s.leaveBasket n).host = s.host := by rw [State.leaveBasket_only]

/-! ## A story that loses its owner (R31) -/

theorem State.roomAt_eq_true : s.roomAt d = true ↔ (s.basket d).length < 64 := decide_eq_true_iff

theorem State.autoFile_of_room (hx : s.story n = some x) (hroom : (s.basket x.desk).length < 64) :
    s.autoFile n = s.toQueued n none := by
  rw [State.autoFile, hx]
  exact if_pos (State.roomAt_eq_true.2 hroom)

theorem State.autoFile_of_full (hx : s.story n = some x) (hfull : 64 ≤ (s.basket x.desk).length) :
    s.autoFile n = (((s.updStory n fun x => { x with owner := none }).raise .storyOrphaned).reportDesk x.desk).touchStory n := by
  rw [State.autoFile, hx]
  exact if_neg (mt State.roomAt_eq_true.1 (not_lt.2 hfull))

theorem State.task_autoFile (n m : Nat) : ((s.autoFile n).screen m).task = (s.screen m).task := by
  cases hx : s.story n with
  | none => rw [State.autoFile, hx]
  | some x =>
    rcases lt_or_ge (s.basket x.desk).length 64 with hroom | hfull
    · rw [State.autoFile_of_room hx hroom]
      exact (State.arrives_toQueued hx).task m
    · rw [State.autoFile_of_full hx hfull, State.task_touchStory, State.task_reportDesk, State.raise_only]
      rfl

/-- A story filed or orphaned, with what its filing leaves (R31). -/
structure AutoFiles (s u : State) (n : Nat) (x : Story) : Prop where
  aside : Aside s u
  filed : (s.basket x.desk).length < 64 → u.story n = some x.asQueued ∧
    (x.desk < s.baskets.length →
      JoinsClass u (s.basket x.desk) (u.basket x.desk) ⟨n, s.clock.time, false⟩ x.priority.code) ∧ u.host = s.host
  orphaned : 64 ≤ (s.basket x.desk).length → u.story n = some { x with owner := none } ∧ u.baskets = s.baskets ∧
    u.host = (s.raise .storyOrphaned).host
  elsewhere : ∀ d, d ≠ x.desk → u.basket d = s.basket d
  others : ∀ m, m ≠ n → u.story m = s.story m
  task : ∀ m, (u.screen m).task = (s.screen m).task

theorem State.autoFiles_autoFile (hx : s.story n = some x) : AutoFiles s (s.autoFile n) n x := by
  have task := fun m => State.task_autoFile (s := s) n m
  rcases lt_or_ge (s.basket x.desk).length 64 with hroom | hfull
  · have h := State.arrives_toQueued (cause := none) hx
    rw [State.autoFile_of_room hx hroom] at task ⊢
    exact ⟨h.aside, fun _ => ⟨State.story_toQueued hx, h.joins, h.host_eq⟩, fun hfull => absurd hroom (not_lt.2 hfull),
      h.elsewhere, fun m hm => State.story_toQueued_of_ne hm, task⟩
  · have haside : Aside s (s.autoFile n) := by
      rw [State.autoFile_only]
      exact .tables ..
    have heq := State.autoFile_of_full hx hfull
    have hstory : ∀ m, (s.autoFile n).story m = (s.updStory n fun x => { x with owner := none }).story m := fun m => by
      rw [heq, State.story, State.touchStory_stories, State.raise_only]
      rfl
    have hbaskets : (s.autoFile n).baskets = s.baskets := by
      rw [heq, State.touchStory_only, State.raise_only]
      rfl
    have hhost : (s.autoFile n).host = (s.raise .storyOrphaned).host := by
      rw [heq, State.touchStory_only]
      exact State.raise_host_congr (s := s.updStory n fun x => { x with owner := none }) (t := s) rfl _
    refine ⟨haside, fun hroom => ?_, fun _ => ⟨?_, hbaskets, hhost⟩, fun d _ => by rw [State.basket, hbaskets]; rfl,
      fun m hm => ?_, task⟩
    · omega
    · rw [hstory, State.story_updStory, hx]
      rfl
    · rw [hstory, State.story_updStory_of_ne s n m _ hm]

/-- A flag that was raised stays raised, or rises where it is enabled. -/
theorem AutoFiles.filedOrOrphaned {u : State} (h : AutoFiles s u n x) (hd : x.desk < s.baskets.length) :
    FiledOrOrphaned s u n x := by
  refine ⟨fun hroom => ?_, fun hfull => ?_, h.elsewhere, h.others⟩
  · obtain ⟨hstory, hjoins, -⟩ := h.filed hroom
    exact ⟨hstory, hjoins hd⟩
  · obtain ⟨hstory, hbaskets, hhost⟩ := h.orphaned hfull
    exact ⟨hstory, hbaskets, fun henabled => hhost ▸ s.raised_raise .storyOrphaned henabled⟩

end

end Sys2Proof.Machine
end

section
/-! SUPPORT. STORY_MOVE, STORY_SPIKE and STORY_REVISE (R33, R41, R43). -/

namespace Sys2Proof.Machine

/-! ## A story moved (R41, R58) -/

section
variable {s : State} {n d : Nat} {x : Story} {cause : Option Nat}

/-- A QUEUED story taken from its basket to another desk's. -/
def State.moved (s : State) (n d : Nat) (cause : Option Nat) : State :=
  (((s.leaveBasket n).updStory n fun x => { x with desk := d }).enterBasket n cause).touchStory n

theorem State.moveStory_of_room (hx : s.story n = some x) (hstate : x.state = .queued) (hd : x.desk ≠ d)
    (hroom : (s.basket d).length < 64) : s.moveStory n d cause = .ok (s.moved n d cause) := by
  rw [State.moveStory, hx]
  dsimp only
  rw [if_neg (by simp [hstate]), if_neg hd.symm, if_neg (by simp [State.roomAt_eq_true.2 hroom]), State.moved]

theorem State.moveStory_of_full (hx : s.story n = some x) (hstate : x.state = .queued) (hd : x.desk ≠ d)
    (hfull : 64 ≤ (s.basket d).length) : s.moveStory n d cause = .error .full := by
  rw [State.moveStory, hx]
  dsimp only
  rw [if_neg (by simp [hstate]), if_neg hd.symm,
    if_pos (by simpa using mt State.roomAt_eq_true.1 (not_lt.2 hfull))]

theorem State.moveStory_of_same (hx : s.story n = some x) (hstate : x.state = .queued) (hd : x.desk = d) :
    s.moveStory n d cause = .ok s := by
  rw [State.moveStory, hx]
  dsimp only
  rw [if_neg (by simp [hstate]), if_pos hd.symm]

theorem State.moveStory_of_not_queued (hx : s.story n = some x) (hstate : x.state ≠ .queued) :
    s.moveStory n d cause = .error .badState := by
  rw [State.moveStory, hx]
  exact if_pos hstate

/-- What a move leaves: the story at the other desk, out of the one basket and in its class of the other. -/
structure Moves (s u : State) (n d : Nat) (x : Story) (cause : Option Nat) : Prop where
  aside : Aside s u
  host_eq : u.host = s.host
  story_eq : u.story n = some { x with desk := d }
  others : ∀ m, m ≠ n → u.story m = s.story m
  left : u.basket x.desk = (s.basket x.desk).filter fun e => e.story != n
  joins : d < s.baskets.length → JoinsClass u (s.basket d) (u.basket d) ⟨n, s.clock.time, false⟩ x.priority.code
  elsewhere : ∀ e, e ≠ d → e ≠ x.desk → u.basket e = s.basket e
  task : ∀ m, (u.screen m).task = (s.screen m).task

theorem State.moves_moved (hx : s.story n = some x) (hd : x.desk ≠ d) : Moves s (s.moved n d cause) n d x cause := by
  have hx' : ((s.leaveBasket n).updStory n fun x => { x with desk := d }).story n = some { x with desk := d } := by
    rw [State.story_updStory, State.story_leaveBasket, hx]
    rfl
  have h := (State.arrives_enterBasket (cause := cause) hx').touchStory n
  have hstory : ∀ m, (s.moved n d cause).story m = ((s.leaveBasket n).updStory n fun x => { x with desk := d }).story m :=
    fun m => by
      rw [State.moved, State.story, State.touchStory_stories, State.stories_enterBasket hx']
      rfl
  have hlength : (s.leaveBasket n).baskets.length = s.baskets.length := by
    rw [State.baskets_leaveBasket hx, List.length_modify]
  refine ⟨((s.aside_leaveBasket n).trans (.tables ..)).trans h.aside, h.host_eq.trans (s.host_leaveBasket n),
    (hstory n).trans hx', fun m hm => ?_, ?_, fun hin => ?_, fun e he hxe => ?_, fun m => ?_⟩
  · rw [hstory, State.story_updStory_of_ne _ n m _ hm, State.story_leaveBasket]
  · exact (h.elsewhere x.desk hd).trans (State.basket_leaveBasket hx)
  · have hjoins := h.joins (hin.trans_eq hlength.symm)
    have hbasket : ((s.leaveBasket n).updStory n fun x => { x with desk := d }).basket d = s.basket d :=
      State.basket_leaveBasket_of_ne hx hd.symm
    have hclock : ((s.leaveBasket n).updStory n fun x => { x with desk := d }).clock = s.clock :=
      (s.aside_leaveBasket n).clock
    rw [hclock] at hjoins
    exact hbasket ▸ hjoins
  · exact (h.elsewhere e he).trans (State.basket_leaveBasket_of_ne hx hxe)
  · exact (h.task m).trans (State.task_leaveBasket n m)

theorem readBody_storyMove (hn : n < 512) (hd : d < 16) :
    readBody (do let n ← readNat 2; let d ← readNat 1; return (n, d)) (be 2 n ++ be 1 d) = some (n, d) := by
  have hlast := readNat_be 1 d (by omega) []
  rw [List.append_nil] at hlast
  apply readBody_eq_some
  simp [readNat_be 2 n (by omega), hlast]

/-- STORY_MOVE of a story that stands, to a desk that is defined, is the move. -/
theorem reqStoryMove_of_ok (hn : n < 512) (hd : d < 16) (hx : s.story n = some x) (hk : (s.desk d).isSome = true) {u : State}
    (h : s.moveStory n d none = .ok u) : reqStoryMove (be 2 n ++ be 1 d) s = answer u .ok [] := by
  rw [reqStoryMove, readBody_storyMove hn hd]
  dsimp only
  rw [if_neg (by omega), withStory_eq hn hx, if_neg (by simp [Option.isSome_iff_ne_none.1 hk]), h]

theorem reqStoryMove_of_error (hn : n < 512) (hd : d < 16) (hx : s.story n = some x) (hk : (s.desk d).isSome = true) {e : Status}
    (h : s.moveStory n d none = .error e) : reqStoryMove (be 2 n ++ be 1 d) s = refuse s e := by
  rw [reqStoryMove, readBody_storyMove hn hd]
  dsimp only
  rw [if_neg (by omega), withStory_eq hn hx, if_neg (by simp [Option.isSome_iff_ne_none.1 hk]), h]

end

/-- Settles O38: a move leaves one basket and joins the other (`State.moves_moved`), or the state as it was. -/
theorem movedStoriesChangeBaskets : Obligations.MovedStoriesChangeBaskets := by
  intro tag n d x s hreply hn hd hx hk hstate hbaskets
  refine ⟨fun hne hroom => ?_, fun hsame => ?_, fun hne hfull => ?_⟩
  · have heq := reqStoryMove_of_ok (s := s.hunt) hn hd hx hk (State.moveStory_of_room hx hstate hne hroom)
    have hserved := requestOutcome_of_judged (kind := 0x46) tag hreply (by simp) rfl (by decide) heq
    have hmove := State.moves_moved (s := s.hunt) (cause := none) hx hne
    generalize s.hunt.moved n d none = u at hserved hmove
    have hjoins := ((hmove.joins (hd.trans_eq hbaskets.symm)).reply 0xC6 tag [0x00] (u.host.noticesDue != 0)).settle
    exact ⟨_, hserved, hmove.story_eq, hmove.left, hjoins, hmove.elsewhere, hmove.others,
      hmove.aside.store, hmove.aside.desks, hmove.aside.fit, hmove.aside.sameOutput,
      SameLines.settle (u := u.reply _ _ _ _) hmove.aside.sameLines,
      State.host_reply hmove.host_eq 0xC6 tag _⟩
  · exact requestOutcome_of_same tag hreply (by simp) rfl (by decide)
      (reqStoryMove_of_ok (s := s.hunt) hn hd hx hk (State.moveStory_of_same hx hstate hsame))
  · exact requestOutcome_of_same tag hreply (by simp) rfl (by decide)
      (reqStoryMove_of_error (s := s.hunt) hn hd hx hk (State.moveStory_of_full hx hstate hne hfull))

/-! ## A story spiked (R33) -/

section
variable {s : State} {n m : Nat} {x : Story}

/-- A record that is SPIKED, without an owner. -/
def Story.asSpiked (x : Story) : Story := { x with state := .spiked, owner := none }

/-- What withdraws a story from its basket before its record changes. -/
def State.withdrawn (s : State) (n : Nat) (x : Story) : State := if x.state = .queued then s.leaveBasket n else s

theorem State.aside_withdrawn (n : Nat) (x : Story) : Aside s (s.withdrawn n x) := by
  unfold State.withdrawn
  split
  · exact s.aside_leaveBasket n
  · exact .refl s

theorem State.host_withdrawn : (s.withdrawn n x).host = s.host := by
  unfold State.withdrawn
  split
  · exact s.host_leaveBasket n
  · rfl

theorem State.story_withdrawn (m : Nat) : (s.withdrawn n x).story m = s.story m := by
  unfold State.withdrawn
  split
  · exact State.story_leaveBasket n m
  · rfl

theorem State.task_withdrawn : ((s.withdrawn n x).screen m).task = (s.screen m).task := by
  unfold State.withdrawn
  split
  · exact State.task_leaveBasket n m
  · rfl

/-- What a story's withdrawal with a change of its record leaves, whatever becomes of its owner's screen. -/
structure Withdraws (s u : State) (n : Nat) (x y : Story) : Prop where
  aside : Aside s u
  host_eq : u.host = s.host
  story_eq : u.story n = some y
  others : ∀ m, m ≠ n → u.story m = s.story m
  left : u.basket x.desk = if x.state = .queued then (s.basket x.desk).filter fun e => e.story != n else s.basket x.desk
  elsewhere : ∀ d, d ≠ x.desk → u.basket d = s.basket d
  kept : x.state ≠ .queued → u.baskets = s.baskets

/-- A change of screens alone leaves a withdrawal as it was. -/
theorem Withdraws.of_screens {u v : State} {y : Story} (h : Withdraws s u n x y) (hv : v = { u with screens := v.screens }) :
    Withdraws s v n x y := by
  rw [hv]
  exact ⟨h.aside.trans (.tables ..), h.host_eq, h.story_eq, h.others, h.left, h.elsewhere, h.kept⟩

theorem State.withdraws_withdrawn (hx : s.story n = some x) (f : Story → Story) :
    Withdraws s ((s.withdrawn n x).updStory n f) n x (f x) := by
  refine ⟨(State.aside_withdrawn n x).trans (.tables ..), State.host_withdrawn, ?_, fun m hm => ?_, ?_, fun d hd => ?_,
    fun hq => ?_⟩
  · rw [State.story_updStory, State.story_withdrawn, hx]
    rfl
  · rw [State.story_updStory_of_ne _ n m _ hm, State.story_withdrawn]
  · change (s.withdrawn n x).basket x.desk = _
    unfold State.withdrawn
    split
    · exact State.basket_leaveBasket hx
    · rfl
  · change (s.withdrawn n x).basket d = _
    unfold State.withdrawn
    split
    · exact State.basket_leaveBasket_of_ne hx hd
    · rfl
  · change (s.withdrawn n x).baskets = _
    rw [State.withdrawn, if_neg hq]

theorem State.toSpiked_eq (hx : s.story n = some x) :
    s.toSpiked n = (((s.withdrawn n x).updStory n Story.asSpiked).reportDesk x.desk).touchStory n := by
  rw [State.toSpiked, hx]
  rfl

theorem State.withdraws_toSpiked (hx : s.story n = some x) : Withdraws s (s.toSpiked n) n x x.asSpiked := by
  rw [State.toSpiked_eq hx]
  exact ((State.withdraws_withdrawn hx Story.asSpiked).of_screens (v := State.reportDesk _ _) rfl).of_screens
    (State.touchStory_only _ n)

theorem State.task_toSpiked (hx : s.story n = some x) (m : Nat) : ((s.toSpiked n).screen m).task = (s.screen m).task := by
  rw [State.toSpiked_eq hx, State.task_touchStory, State.task_reportDesk]
  exact State.task_withdrawn

theorem State.ownerSpiked_only (n : Nat) : s.ownerSpiked n = { s with screens := (s.ownerSpiked n).screens } := by
  unfold State.ownerSpiked
  split
  · rfl
  · exact State.sendToDesk_only n _

/-- A spike of a story by the host, with what becomes of its owner's screen. -/
def State.spiked (s : State) (n : Nat) (x : Story) : State :=
  match x.owner with
  | some p => (s.toSpiked n).ownerSpiked p
  | none => s.toSpiked n

theorem State.withdraws_spiked (hx : s.story n = some x) : Withdraws s (s.spiked n x) n x x.asSpiked := by
  unfold State.spiked
  split
  · exact (State.withdraws_toSpiked hx).of_screens (State.ownerSpiked_only _)
  · exact State.withdraws_toSpiked hx

theorem State.prompt_sendToDesk {e : Nat} {msg : List Byte} (hn : n < s.screens.length) (hd : (s.screen n).desk = some e) :
    ((s.sendToDesk n msg).screen n).prompt = .closed := by
  have hlength : n < (s.enterDesk n e).screens.length := by simpa [State.enterDesk] using hn
  have hlength' : n < ((s.enterDesk n e).updScreen n Screen.breakOff).screens.length := by simpa using hlength
  rw [State.sendToDesk_of_desk hd, State.tell, State.screen_updScreen _ _ _ hlength', State.screen_updScreen _ _ _ hlength]
  rfl

/-- A screen that stands apart from a fresh one is in the table. -/
theorem State.lt_of_screen_ne {n : Nat} (h : s.screen n ≠ .reset) : n < s.screens.length := by
  by_contra hn
  exact h (by simp [State.screen, List.getD_eq_getElem?_getD, hn])

theorem State.lt_of_desk {n e : Nat} (h : (s.screen n).desk = some e) : n < s.screens.length :=
  State.lt_of_screen_ne fun hreset => by simp [hreset, Screen.reset] at h

theorem State.lt_of_grace {n : Nat} (h : (s.screen n).grace.isSome = true) : n < s.screens.length :=
  State.lt_of_screen_ne fun hreset => by simp [hreset, Screen.reset] at h

/-- The owner's screen after a spike by the host, where it holds no grace: in DESK, with its prompt closed (R33, R125). -/
theorem State.screen_spiked_of_no_grace {p e : Nat} (hx : s.story n = some x) (hp : x.owner = some p)
    (hgrace : (s.screen p).grace = none) (hd : (s.screen p).desk = some e) :
    ((s.spiked n x).screen p).atDeskTold e (str "SPIKED") ∧ ((s.spiked n x).screen p).prompt = .closed := by
  have htask := State.task_toSpiked hx p
  have hgrace' : ((s.toSpiked n).screen p).grace = none := (congrArg Screen.grace htask :).trans hgrace
  have hd' : ((s.toSpiked n).screen p).desk = some e := (congrArg Screen.desk htask :).trans hd
  have heq : s.spiked n x = (s.toSpiked n).sendToDesk p (str "SPIKED") := by
    simp [State.spiked, hp, State.ownerSpiked, hgrace']
  rw [heq]
  exact ⟨State.screen_sendToDesk (State.lt_of_desk hd') hd', State.prompt_sendToDesk (State.lt_of_desk hd') hd'⟩

/-- The owner's screen after a spike by the host, where it holds a grace, which it drops with the story and the desk (R33, R153). -/
theorem State.screen_spiked_of_grace {p : Nat} (hx : s.story n = some x) (hp : x.owner = some p)
    (hgrace : (s.screen p).grace.isSome = true) :
    ((s.spiked n x).screen p).grace = none ∧ ((s.spiked n x).screen p).story = none ∧
      ((s.spiked n x).screen p).desk = none := by
  have hgrace' : ((s.toSpiked n).screen p).grace.isSome = true := by
    have h : ((s.toSpiked n).screen p).grace = (s.screen p).grace := (congrArg Screen.grace (State.task_toSpiked hx p) :)
    rwa [h]
  have heq : s.spiked n x = (s.toSpiked n).updScreen p Screen.dropGrace := by
    simp [State.spiked, hp, State.ownerSpiked, hgrace']
  rw [heq, State.screen_updScreen _ _ _ (State.lt_of_grace hgrace')]
  exact ⟨rfl, rfl, rfl⟩

/-- STORY_SPIKE of a story that may be spiked. -/
theorem reqStorySpike_eq (hn : n < 512) (hx : s.story n = some x) (hstate : x.state = .queued ∨ x.state = .open_)
    (hoff : OffPress s x) : reqStorySpike (be 2 n) s = answer (s.spiked n x) .ok [] := by
  have hspikable : s.spikable x = true := by
    rcases hstate with h | h <;> simp [State.spikable, h, State.onReleasedPage_eq_false hoff]
  rw [reqStorySpike, readBody_storyNumber hn]
  dsimp only
  rw [withStory_eq hn hx, if_neg (by simp [hspikable])]
  rfl

/-! ## A SET story revised (R43) -/

/-- What a revision leaves: the story QUEUED in its class, with a version change and its fit scheduled. -/
structure Revises (s u : State) (n : Nat) (x : Story) : Prop where
  store : u.store = s.store
  desks : u.desks = s.desks
  host_eq : u.host = s.host
  sameOutput : SameOutput s u
  sameLines : SameLines s u
  story_eq : u.story n = some x.asQueued.changed
  others : OthersKept s u n
  joins : JoinsClass u (s.basket x.desk) (u.basket x.desk) ⟨n, s.clock.time, false⟩ x.priority.code
  elsewhere : ∀ d, d ≠ x.desk → u.basket d = s.basket d
  rescheduled : Rescheduled s u n

theorem State.revises_revise (hx : s.story n = some x) (hd : x.desk < s.baskets.length) : Revises s (s.revise n) n x := by
  have h := State.arrives_toQueued (cause := none) hx
  have honly : s.revise n = _ := (s.toQueued n none).versionChange_only n
  have hbaskets : (s.revise n).baskets = (s.toQueued n none).baskets := by rw [honly]
  have hstory : ∀ m, m ≠ n → (s.revise n).story m = s.story m := fun m hm =>
    (State.story_versionChange_of_ne _ hm).trans (State.story_toQueued_of_ne hm)
  have hpriority : ∀ m, ((s.revise n).story m).map Story.priority = ((s.toQueued n none).story m).map Story.priority := by
    intro m
    rcases eq_or_ne m n with rfl | hm
    · rw [State.revise, State.story_versionChange, Option.map_map]
      rfl
    · rw [State.revise, State.story_versionChange_of_ne _ hm]
  refine ⟨?_, ?_, ?_, ?_, ?_, ?_, fun m hm => ⟨hstory m hm, ?_⟩, ?_, fun d hd => ?_, ?_⟩
  · exact (congrArg State.store honly).trans h.aside.store
  · exact (congrArg State.desks honly).trans h.aside.desks
  · exact (congrArg State.host honly).trans h.host_eq
  · rw [honly]
    exact h.aside.sameOutput
  · rw [honly]
    exact h.aside.sameLines
  · rw [State.revise, State.story_versionChange, State.story_toQueued hx]
    rfl
  · rw [State.chain, (congrArg State.store honly).trans h.aside.store]
    rfl
  · have hbasket : (s.revise n).basket x.desk = (s.toQueued n none).basket x.desk := by rw [State.basket, hbaskets]; rfl
    rw [hbasket]
    exact (h.joins hd).of_priority hpriority
  · rw [State.basket, hbaskets]
    exact h.elsewhere d hd
  · refine rescheduled_of_fit ((State.fit_versionChange _ n).trans ?_)
    rw [State.schedule, State.schedule, h.aside.fit, h.aside.clock]

theorem reqStoryRevise_of_set (hn : n < 512) (hx : s.story n = some x) (hstate : x.state = .set_) (hoff : OffPress s x)
    (hopen : s.edition.closed = false) (hroom : (s.basket x.desk).length < 64) :
    reqStoryRevise (be 2 n) s = answer (s.revise n) .ok [] := by
  rw [reqStoryRevise, readBody_storyNumber hn]
  dsimp only
  rw [withStory_eq hn hx, if_neg (by simp [hstate]), if_neg (by simp [hopen]),
    if_neg (by simp [State.onReleasedPage_eq_false hoff]), if_neg (by simp [State.roomAt_eq_true.2 hroom])]

theorem reqStoryRevise_of_closed (hn : n < 512) (hx : s.story n = some x) (hstate : x.state = .set_)
    (hclosed : s.edition.closed = true) : reqStoryRevise (be 2 n) s = refuse s .editionClosed := by
  rw [reqStoryRevise, readBody_storyNumber hn]
  dsimp only
  rw [withStory_eq hn hx, if_neg (by simp [hstate]), if_pos hclosed]

theorem reqStoryRevise_of_not_set (hn : n < 512) (hx : s.story n = some x) (hstate : x.state ≠ .set_) :
    reqStoryRevise (be 2 n) s = refuse s .badState := by
  rw [reqStoryRevise, readBody_storyNumber hn]
  dsimp only
  rw [withStory_eq hn hx, if_pos hstate]

end

/-- Settles O39: a spike is a withdrawal with its owner's screen (`State.withdraws_spiked`), a revision an arrival with a version
change (`State.revises_revise`). -/
theorem storiesAreSpikedAndRevised : Obligations.StoriesAreSpikedAndRevised := by
  intro tag n x s hreply hn hx hscreens hbaskets
  refine ⟨fun hstate hoff => ?_, fun hstate hoff hopen hd hroom => ?_, fun hstate hclosed => ?_, fun hstate => ?_⟩
  · have hserved := requestOutcome_of_judged (kind := 0x47) tag hreply (by simp) rfl (by decide)
      (reqStorySpike_eq (s := s.hunt) hn hx hstate hoff)
    have h := State.withdraws_spiked (s := s.hunt) hx
    have hkept := State.screen_settle_kept ((s.hunt.spiked n x).reply (0x47 + 0x80) tag [0x00]
      ((s.hunt.spiked n x).host.noticesDue != 0))
    refine ⟨_, hserved, h.story_eq, h.left, h.elsewhere, h.others, fun p e hp hgrace hdesk => ?_, fun p hp hgrace => ?_,
      h.aside.store, h.aside.desks, h.aside.fit, h.aside.sameOutput,
      SameLines.settle (u := (s.hunt.spiked n x).reply _ _ _ _) h.aside.sameLines, State.host_reply h.host_eq 0xC7 tag _⟩
    · obtain ⟨⟨hmode, hd, hstory, hmessage⟩, hprompt⟩ := State.screen_spiked_of_no_grace (s := s.hunt) hx hp hgrace hdesk
      exact ⟨(congrArg Screen.mode (hkept p) :).trans hmode, (congrArg Screen.desk (hkept p) :).trans hd,
        (congrArg Screen.story (hkept p) :).trans hstory, (congrArg Screen.prompt (hkept p) :).trans hprompt,
        (congrArg Screen.partMessage (hkept p) :).trans hmessage⟩
    · obtain ⟨hg, hstory, hd⟩ := State.screen_spiked_of_grace (s := s.hunt) hx hp (Option.isSome_iff_ne_none.2 hgrace)
      exact ⟨(congrArg Screen.grace (hkept p) :).trans hg, (congrArg Screen.story (hkept p) :).trans hstory,
        (congrArg Screen.desk (hkept p) :).trans hd⟩
  · have hserved := requestOutcome_of_judged (kind := 0x49) tag hreply (by simp) rfl (by decide)
      (reqStoryRevise_of_set (s := s.hunt) hn hx hstate hoff hopen hroom)
    have h := State.revises_revise (s := s.hunt) hx (hd.trans_eq hbaskets.symm)
    generalize s.hunt.revise n = u at hserved h
    have hjoins := (h.joins.reply 0xC9 tag [0x00] (u.host.noticesDue != 0)).settle
    exact ⟨_, hserved, h.story_eq, hjoins, h.elsewhere, h.others, h.rescheduled, h.store, h.desks, h.sameOutput,
      SameLines.settle (u := u.reply _ _ _ _) h.sameLines, State.host_reply h.host_eq 0xC9 tag _⟩
  · exact requestOutcome_of_same tag hreply (by simp) rfl (by decide) (reqStoryRevise_of_closed (s := s.hunt) hn hx hstate hclosed)
  · exact requestOutcome_of_same tag hreply (by simp) rfl (by decide) (reqStoryRevise_of_not_set (s := s.hunt) hn hx hstate)

end Sys2Proof.Machine
end

section
/-! SUPPORT. The idle, ring and grace timers of a screen (R31, R113, R115, R153). -/

namespace Sys2Proof.Machine

section
variable {s : State} {n : Nat} {k : Nat} {x : Story}

/-- The end of a grace files or orphans the story and takes it, the cursor and the desk from the screen (R31, R153). -/
theorem State.autoFiles_graceExpires (hstory : (s.screen n).story = some (k, .owner)) (hx : s.story k = some x) :
    AutoFiles s (s.autoFile k) k x ∧ s.graceExpires n = (s.autoFile k).updScreen n Screen.dropGrace := by
  refine ⟨State.autoFiles_autoFile hx, ?_⟩
  have howned : (s.screen n).owned = some k := by rw [Screen.owned, hstory]
  rw [State.graceExpires, howned]
  rfl

/-- A screen after the end of its grace. -/
theorem State.screen_graceExpires (hstory : (s.screen n).story = some (k, .owner))
    (hx : s.story k = some x) : ((s.graceExpires n).screen n).task = (s.screen n).task.dropGrace := by
  obtain ⟨h, heq⟩ := State.autoFiles_graceExpires hstory hx
  have htask := h.task n
  rw [heq, State.screen_updScreen_eq]
  split
  · next hc =>
    rw [← htask]
    rfl
  · next hout =>
    have hout' : ¬ n < (s.autoFile k).screens.length := fun hlt => hout ⟨rfl, hlt⟩
    have hreset : (s.autoFile k).screen n = .reset := by simp [State.screen, List.getD_eq_getElem?_getD, hout']
    rw [hreset] at htask
    have : (s.screen n).story = none := (congrArg Screen.story htask :).symm
    simp [hstory] at this

end

theorem next_updScreen_congr {s : State} {n : Nat} {f g : Screen → Screen} (h : f (s.screen n) = g (s.screen n)) :
    (.next (s.updScreen n f).settle : Host.Outcome State Fault Refusal) = .next (s.updScreen n g).settle := by
  rw [s.updScreen_congr h]

theorem next_updScreen_self {s : State} {n : Nat} {f : Screen → Screen} (h : f (s.screen n) = s.screen n) :
    (.next (s.updScreen n f).settle : Host.Outcome State Fault Refusal) = .next s.settle := by
  rw [s.updScreen_self h]

/-- Settles O48: each expiry changes one screen, by `State.updScreen_congr`, and the end of a grace files its story besides. -/
theorem screenTimersExpire : Obligations.ScreenTimersExpire := by
  intro n s hin
  refine ⟨fun hidle hmode hblanked => ?_, fun hidle => ?_, fun hring hne => ?_, fun hring hnil => ?_, fun hring => ?_,
    fun k x hgrace hstory hx hd => ?_, fun hgrace => ?_⟩
  · have hlaid : (s.screen n).laidOut = true := by simp [Screen.laidOut, hmode, hblanked]
    exact next_updScreen_congr (by
      simp only [hidle, hlaid]
      rfl)
  · exact next_updScreen_self (by simp [hidle])
  · exact next_updScreen_congr (by rw [if_neg (by simp [Option.isSome_iff_ne_none.1 hring]), if_neg hne])
  · exact next_updScreen_congr (by
      rw [if_neg (by simp [Option.isSome_iff_ne_none.1 hring]), if_pos hnil]
      rfl)
  · exact next_updScreen_self (by simp [hring])
  · obtain ⟨h, heq⟩ := State.autoFiles_graceExpires hstory hx
    have hscreen : ((s.graceExpires n).settle.screen n).task = (s.screen n).task.dropGrace :=
      (Screen.task_eq_of_kept (State.screen_settle_kept _ n)).trans (State.screen_graceExpires hstory hx)
    refine ⟨(s.graceExpires n).settle, by rw [exec, execGraceExpiry, if_pos hgrace], (congrArg Screen.grace hscreen :),
      (congrArg Screen.story hscreen :), (congrArg Screen.desk hscreen :), (congrArg Screen.cursor hscreen :),
      (congrArg Screen.mode hscreen :), ?_⟩
    rw [heq]
    generalize s.autoFile k = u at h
    refine ⟨fun hroom => ?_, fun hfull => h.orphaned hfull, h.elsewhere, h.others, h.aside.store, h.aside.desks, h.aside.fit,
      h.aside.sameOutput, SameLines.settle (u := u.updScreen n Screen.dropGrace) h.aside.sameLines⟩
    obtain ⟨hstory, hjoins, hhost⟩ := h.filed hroom
    exact ⟨hstory, (hjoins hd).of_priority fun _ => rfl, hhost⟩
  · rw [exec, execGraceExpiry, if_neg (by simp [hgrace])]

end Sys2Proof.Machine
end

section
/-! SUPPORT. STORY_STYLE and STORY_HEAD (R25, R39, R40, R71). -/

namespace Sys2Proof.Machine

/-! ## A record changed, with its version (R25) -/

section
variable {s : State} {n : Nat} {x y : Story}

/-- What a change of one record with its version leaves. -/
structure Restyles (s u : State) (n : Nat) (y : Story) : Prop where
  story_eq : u.story n = some y.changed
  others : OthersKept s u n
  rescheduled : Rescheduled s u n
  store : u.store = s.store
  desks : u.desks = s.desks
  baskets : u.baskets = s.baskets
  sameOutput : SameOutput s u
  sameLines : SameLines s u
  host_eq : u.host = s.host

theorem State.restyles_versionChange (hx : s.story n = some x) (f : Story → Story) :
    Restyles s ((s.updStory n f).versionChange n) n (f x) := by
  have honly := (s.updStory n f).versionChange_only n
  refine ⟨?_, fun m hm => ⟨?_, ?_⟩, ?_, ?_, ?_, ?_, ?_, ?_, ?_⟩
  · rw [State.story_versionChange, State.story_updStory, hx]
    rfl
  · rw [State.story_versionChange_of_ne _ hm, State.story_updStory_of_ne s n m f hm]
  · rw [State.chain, (congrArg State.store honly :)]
    rfl
  · exact rescheduled_of_fit (State.fit_versionChange (s.updStory n f) n)
  · exact (congrArg State.store honly :)
  · exact (congrArg State.desks honly :)
  · exact (congrArg State.baskets honly :)
  · rw [honly]
    exact ⟨rfl, rfl, rfl, rfl, rfl⟩
  · rw [honly]
    exact ⟨rfl, rfl, rfl, rfl, rfl⟩
  · exact (congrArg State.host honly :)

/-- A story that is not on press may have its style and headline changed (R39, R40). -/
theorem State.styleFixed_eq_false (hstate : x.state ≠ .setting) (hoff : x.state = .set_ → OffPress s x) :
    s.styleFixed x = false := by
  by_cases hset : x.state = .set_
  · simp [State.styleFixed, hset, State.onReleasedPage_eq_false (hoff hset)]
  · simp [State.styleFixed, hset, hstate]

theorem State.styleFixed_of_setting (hstate : x.state = .setting) : s.styleFixed x = true := by
  simp [State.styleFixed, hstate]

/-! ## STORY_STYLE (R39) -/

theorem readBody_storyStyle {mask : Nat} {y : Style} (hn : n < 512) (hmask : mask < 64) (hy : y.carried) :
    readBody (do
      let n ← readNat 2
      let mask ← readNat 2
      let style ← readStyle
      return (n, mask, style)) (be 2 n ++ be 2 mask ++ styleField y) = some (n, mask, y) := by
  have hlast := readStyle_styleField y hy []
  rw [List.append_nil] at hlast
  apply readBody_eq_some
  simp [readNat_be 2 n (by omega), readNat_be 2 mask (by omega), hlast]

/-- The state after a STORY_STYLE that is taken. -/
def State.styled (s : State) (n : Nat) (x : Story) (y : Style) : State :=
  if y = x.style then s else (s.updStory n fun x => { x with style := y }).versionChange n

theorem reqStoryStyle_eq {mask : Nat} {y : Style} (hn : n < 512) (hx : s.story n = some x) (hmask : mask < 64) (hy : y.carried)
    (hfree : s.styleFixed x = false) :
    reqStoryStyle (be 2 n ++ be 2 mask ++ styleField y) s =
      answer (s.styled n x (overlayStyle mask x.style (clampStyle y))) (okOr (styleClamped mask y))
        (styleField (overlayStyle mask x.style (clampStyle y))) := by
  rw [reqStoryStyle, readBody_storyStyle hn hmask hy]
  dsimp only
  rw [if_neg (by omega), withStory_eq hn hx, if_neg (by simp [hfree])]
  rfl

theorem reqStoryStyle_of_fixed {mask : Nat} {y : Style} (hn : n < 512) (hx : s.story n = some x) (hmask : mask < 64)
    (hy : y.carried) (hfixed : s.styleFixed x = true) :
    reqStoryStyle (be 2 n ++ be 2 mask ++ styleField y) s = refuse s .badState := by
  rw [reqStoryStyle, readBody_storyStyle hn hmask hy]
  dsimp only
  rw [if_neg (by omega), withStory_eq hn hx, if_pos hfixed]

theorem length_styleBody (n mask : Nat) (y : Style) : (be 2 n ++ be 2 mask ++ styleField y).length ≤ 1024 := by
  simp [styleField]

/-! ## STORY_HEAD (R40) -/

/-- The body of a STORY_HEAD. -/
def headBody (n remove mask : Nat) (y : Style) (most : Nat) (text : List Byte) : List Byte :=
  be 2 n ++ be 1 remove ++ be 2 mask ++ headStyleField y ++ be 1 most ++ textField 1 text

/-- A style without its indent, as a headline's is carried. -/
def Style.flush (y : Style) : Style := { y with indent := 0 }

theorem readHeadStyle_headStyleField (y : Style) (h : y.carried) (rest : List Byte) :
    readHeadStyle.run (headStyleField y ++ rest) = some (y.flush, rest) := by
  obtain ⟨hface, hsize, hset, hleading, hmeasure, -⟩ := h
  simp [readHeadStyle, headStyleField, readNat_be 1 y.face (by omega), readNat_be 1 y.size (by omega),
    readNat_be 1 y.set (by omega), readNat_be 2 y.leading (by omega), readNat_be 2 y.measure (by omega), Style.flush]

theorem readBody_head {remove mask most : Nat} {y : Style} {text : List Byte} (hn : n < 512) (hremove : remove < 2)
    (hmask : mask < 64) (hy : y.carried) (hmost : most < 256) (htext : text.length ≤ 120) :
    readBody readHead (headBody n remove mask y most text) = some ⟨n, remove, mask, y.flush, most, text⟩ := by
  have hlast := readText_textField 1 text (by omega) []
  rw [List.append_nil] at hlast
  apply readBody_eq_some
  simp [readHead, headBody, readNat_be 2 n (by omega), readNat_be 1 remove (by omega), readNat_be 2 mask (by omega),
    readNat_be 1 most (by omega), readHeadStyle_headStyleField y hy, hlast]

theorem length_headBody {remove mask most : Nat} {y : Style} {text : List Byte} (htext : text.length ≤ 120) :
    (headBody n remove mask y most text).length ≤ 1024 := by
  simp [headBody, headStyleField, textField]
  omega

/-- The state after a STORY_HEAD that is taken. -/
def State.headed (s : State) (n : Nat) (x : Story) (h : Option Headline) : State :=
  if h = x.head then s else (s.updStory n fun x => { x with head := h }).versionChange n

theorem reqStoryHead_eq {mask most : Nat} {y : Style} {text : List Byte} (hn : n < 512) (hx : s.story n = some x)
    (hmask : mask < 64) (hy : y.carried) (hmost : most < 256) (htext : text.length ≤ 120) (hfree : s.styleFixed x = false) :
    reqStoryHead (headBody n 0 mask y most text) s =
      answer (s.headed n x (some (headAfter x ⟨n, 0, mask, y.flush, most, text⟩)))
        (okOr (headClamped ⟨n, 0, mask, y.flush, most, text⟩))
        (headReply (replacements text) (some (headAfter x ⟨n, 0, mask, y.flush, most, text⟩))) := by
  rw [reqStoryHead, readBody_head hn (by omega) hmask hy hmost htext]
  dsimp only
  rw [if_neg (by omega), if_neg (by omega), withStory_eq hn hx, if_neg (by simp [hfree])]
  rfl

theorem reqStoryHead_of_remove {mask most : Nat} {y : Style} {text : List Byte} (hn : n < 512) (hx : s.story n = some x)
    (hmask : mask < 64) (hy : y.carried) (hmost : most < 256) (htext : text.length ≤ 120) (hfree : s.styleFixed x = false) :
    reqStoryHead (headBody n 1 mask y most text) s = answer (s.headed n x none) .ok (headReply 0 none) := by
  rw [reqStoryHead, readBody_head hn (by omega) hmask hy hmost htext]
  dsimp only
  rw [if_neg (by omega), if_neg (by omega), withStory_eq hn hx, if_neg (by simp [hfree])]
  rfl

theorem reqStoryHead_of_fixed {remove mask most : Nat} {y : Style} {text : List Byte} (hn : n < 512) (hremove : remove < 2)
    (hx : s.story n = some x) (hmask : mask < 64) (hy : y.carried) (hmost : most < 256) (htext : text.length ≤ 120)
    (hfixed : s.styleFixed x = true) : reqStoryHead (headBody n remove mask y most text) s = refuse s .badState := by
  rw [reqStoryHead, readBody_head hn hremove hmask hy hmost htext]
  dsimp only
  rw [if_neg (by omega), if_neg (by omega), withStory_eq hn hx, if_pos hfixed]

/-- A headline carries no indent, so that its own does not enter what is stored (R40). -/
theorem headAfter_eq {mask most : Nat} {y : Style} {text : List Byte} {old : Headline}
    (hold : old = x.head.getD ⟨[], { x.style with indent := 0 }, 1⟩) :
    headAfter x ⟨n, 0, mask, y.flush, most, text⟩ =
      ⟨text.map toCopyCode, { overlayStyle (mask % 32) old.style (clampStyle y) with indent := 0 },
        if mask.testBit 5 then max 1 (min most 4) else old.maxLines⟩ := by
  subst hold
  rfl

theorem testBit_mod_32 (mask : Nat) : (mask % 32).testBit 5 = false := by
  rw [show 32 = 2 ^ 5 from rfl, Nat.testBit_mod_two_pow]
  simp

/-- A STORY_HEAD is ADJUSTED exactly where a value that its mask names was clamped. -/
theorem code_okOr_headClamped (mask most : Nat) (old y : Style) (text : List Byte) :
    (okOr (headClamped ⟨n, 0, mask, y.flush, most, text⟩)).code =
      if overlayStyle (mask % 32) old (clampStyle y) = overlayStyle (mask % 32) old y ∧
        (mask.testBit 5 = true → 1 ≤ most ∧ most ≤ 4) then 0x00 else 0x01 := by
  have hflush : overlayStyle (mask % 32) old (clampStyle y.flush) = overlayStyle (mask % 32) old y.flush ↔
      overlayStyle (mask % 32) old (clampStyle y) = overlayStyle (mask % 32) old y := by
    simp [overlayStyle, clampStyle, Style.flush, testBit_mod_32]
  have hstyle : styleClamped (mask % 32) y.flush = false ↔
      overlayStyle (mask % 32) old (clampStyle y) = overlayStyle (mask % 32) old y := by
    rw [← hflush, ← overlayStyle_eq_iff]
    simp [styleClamped]
  have hlines : (mask.testBit 5 && clampTo 1 4 most != most) = false ↔ (mask.testBit 5 = true → 1 ≤ most ∧ most ≤ 4) := by
    have : clampTo 1 4 most = most ↔ 1 ≤ most ∧ most ≤ 4 := by
      unfold clampTo
      omega
    cases mask.testBit 5 <;> simp [this]
  have hclamped : headClamped ⟨n, 0, mask, y.flush, most, text⟩ = false ↔
      overlayStyle (mask % 32) old (clampStyle y) = overlayStyle (mask % 32) old y ∧
        (mask.testBit 5 = true → 1 ≤ most ∧ most ≤ 4) := by
    rw [headClamped, Bool.or_eq_false_iff, hstyle, hlines]
  split
  · next h => rw [hclamped.2 h]; rfl
  · next h =>
    rw [Bool.eq_true_of_not_eq_false (mt hclamped.1 h)]
    rfl

end

/-- A judgement that changed a record with its version, served: what the obligation says of the next state. -/
theorem Restyles.served {s u : State} {n : Nat} {y : Story} (h : Restyles s.hunt u n y) (kind tag : Byte) (b : List Byte) :
    let t := (u.reply kind tag b (u.host.noticesDue != 0)).settle
    t.story n = some y.changed ∧ OthersKept s t n ∧ Rescheduled s t n ∧ t.store = s.store ∧ t.desks = s.desks ∧
      t.baskets = s.baskets ∧ SameOutput s t ∧ SameLines s t ∧ Replied s t kind tag b :=
  ⟨h.story_eq, h.others, h.rescheduled, h.store, h.desks, h.baskets, h.sameOutput,
    SameLines.settle (u := u.reply _ _ _ _) h.sameLines, State.host_reply h.host_eq kind tag b⟩

/-- Settles O37: a change of the style or of the headline is a change of the record with its version
(`State.restyles_versionChange`). -/
theorem stylesAndHeadlinesAreStored : Obligations.StylesAndHeadlinesAreStored := by
  intro tag n x y s hreply hn hx hy
  refine ⟨fun mask hmask hstate hoff => ?_, fun text mask most old h status fields htext hmask hmost hstate hoff hold hh hstatus
    hfields => ?_, fun hstate hoff => ?_, fun hstate => ⟨?_, ?_⟩⟩
  · have heq := reqStoryStyle_eq (s := s.hunt) hn hx hmask hy (State.styleFixed_eq_false hstate hoff)
    rw [answer, code_okOr_styleClamped mask x.style y] at heq
    refine ⟨fun hsame => ?_, fun hnew => ?_⟩
    · have hfields : styleField (overlayStyle mask x.style (clampStyle y)) = styleField x.style := by rw [hsame]
      rw [State.styled, if_pos hsame, hfields] at heq
      exact requestOutcome_of_same tag hreply (length_styleBody n mask y) rfl (by decide) heq
    · rw [State.styled, if_neg hnew] at heq
      exact ⟨_, requestOutcome_of_judged (kind := 0x44) tag hreply (length_styleBody n mask y) rfl (by decide) heq,
        (State.restyles_versionChange (s := s.hunt) hx _).served 0xC4 tag _⟩
  · have heq := reqStoryHead_eq (s := s.hunt) (text := text) hn hx hmask hy hmost htext (State.styleFixed_eq_false hstate hoff)
    rw [answer, code_okOr_headClamped mask most old.style y text, headAfter_eq hold, ← hh, ← hstatus] at heq
    have hreplied : headReply (replacements text) (some h) = fields := hfields.symm
    rw [hreplied] at heq
    refine ⟨fun hsame => ?_, fun hnew => ?_⟩
    · rw [State.headed, if_pos hsame.symm] at heq
      exact requestOutcome_of_same tag hreply (length_headBody htext) rfl (by decide) heq
    · rw [State.headed, if_neg (Ne.symm hnew)] at heq
      exact ⟨_, requestOutcome_of_judged (kind := 0x45) tag hreply (length_headBody htext) rfl (by decide) heq,
        (State.restyles_versionChange (s := s.hunt) hx _).served 0xC5 tag _⟩
  · have heq := reqStoryHead_of_remove (s := s.hunt) (mask := 0) (most := 1) (text := []) hn hx (by decide) hy (by decide)
      (by decide) (State.styleFixed_eq_false hstate hoff)
    refine ⟨fun h hhead => ?_, fun hhead => ?_⟩
    · rw [State.headed, if_neg (by simp [hhead])] at heq
      obtain ⟨hstory, hothers, hfit, hstore, hdesks, hbaskets, houtput, hlines, -⟩ :=
        (State.restyles_versionChange (s := s.hunt) hx fun x => { x with head := none }).served 0xC5 tag
          (Status.ok.code :: headReply 0 none)
      exact ⟨_, requestOutcome_of_judged (kind := 0x45) tag hreply (length_headBody (by decide)) rfl (by decide) heq,
        hstory, hothers, hfit, hstore, hdesks, hbaskets, houtput, hlines⟩
    · rw [State.headed, if_pos hhead.symm] at heq
      exact ⟨_, requestOutcome_of_same tag hreply (length_headBody (by decide)) rfl (by decide) heq⟩
  · exact requestOutcome_of_same tag hreply (length_styleBody n 0 y) rfl (by decide)
      (reqStoryStyle_of_fixed (s := s.hunt) hn hx (by decide) hy (State.styleFixed_of_setting hstate))
  · exact requestOutcome_of_same tag hreply (length_headBody (text := []) (by decide)) rfl (by decide)
      (reqStoryHead_of_fixed (s := s.hunt) hn (by decide) hx (by decide) hy (by decide) (by decide)
        (State.styleFixed_of_setting hstate))

end Sys2Proof.Machine
end

section
/-! SUPPORT. A key taken by a screen: the steps every key makes, and what changes that screen alone (R121, R122, R124). -/

namespace Sys2Proof.Machine

theorem next_settle_congr {s t : State} (h : s = t) :
    (.next s.settle : Host.Outcome State Fault Refusal) = .next t.settle := by rw [h]

/-! ## Keys that change their own screen (R121) -/

section
variable {s : State} {n : Nat}

/-- The screen of a key after steps 2 and 3 of R121. -/
def State.keyedScreen (s : State) (n : Nat) : Screen := (s.screen n).afterKey (s.idleLimit n) s.clock.time

theorem State.screen_keyOn {n : Fin 32} {f : Screen → Screen} (hin : n.val < s.screens.length) :
    (s.keyOn n f).screen n = f (s.keyedScreen n) :=
  getD_modify_eq _ _ _ _ hin

theorem State.screen_keyOn_of_ne {n : Fin 32} {m : Nat} {f : Screen → Screen} (h : m ≠ n.val) :
    (s.keyOn n f).screen m = s.screen m := getD_modify_ne _ _ _ _ _ h

theorem State.keyOn_congr {n : Fin 32} {f g : Screen → Screen} (h : f (s.keyedScreen n) = g (s.keyedScreen n)) :
    s.keyOn n f = s.keyOn n g :=
  congrArg (fun t : State => { t with keyTurn := n.val }) (s.updScreen_congr (n := n)
    (f := fun c => f (c.afterKey (s.idleLimit n) s.clock.time)) (g := fun c => g (c.afterKey (s.idleLimit n) s.clock.time)) h)

/-- A change of the key's own screen after another. -/
theorem State.updScreen_keyOn (n : Fin 32) (f g : Screen → Screen) :
    (s.keyOn n f).updScreen n g = s.keyOn n fun c => g (f c) := by
  rw [State.updScreen, State.keyOn, State.keyOn]
  simp only [List.modify_modify_eq]
  rfl

/-- The steps that every key makes. -/
theorem State.keySteps_turnedTo (n : Fin 32) : (s.turnedTo n).keySteps n = s.keyOn n id := rfl

theorem State.aside_keyOn (n : Fin 32) (f : Screen → Screen) : Aside s (s.keyOn n f) :=
  ⟨rfl, rfl, rfl, rfl, rfl, rfl, rfl, rfl, rfl, rfl, rfl, rfl, rfl⟩

/-- A part message, a bell and a refusal of the key's own screen, laid out by its steps already. -/
theorem State.tell_keyOn {n : Fin 32} {f : Screen → Screen} (htime : (f (s.keyedScreen n)).layoutTime = s.clock.time)
    (msg : List Byte) : (s.keyOn n f).tell n msg = s.keyOn n fun c => { f c with partMessage := some msg } := by
  have hclock : (s.keyOn n f).clock.time = (f (s.keyedScreen n)).layoutTime := htime.symm
  rw [State.tell, State.updScreen_keyOn]
  refine State.keyOn_congr ?_
  simp only [hclock]

theorem State.bell_keyOn {n : Fin 32} {f : Screen → Screen} (hmode : (f (s.keyedScreen n)).mode ≠ .down) :
    (s.keyOn n f).bell n = s.keyOn n fun c => { f c with bells := min 4 ((f c).bells + 1) } := by
  rw [State.bell, State.updScreen_keyOn]
  refine State.keyOn_congr ?_
  rw [Screen.bell, if_neg hmode]

theorem State.deny_keyOn {n : Fin 32} {f : Screen → Screen} (hmode : (f (s.keyedScreen n)).mode ≠ .down)
    (htime : (f (s.keyedScreen n)).layoutTime = s.clock.time) (msg : List Byte) :
    (s.keyOn n f).deny n msg = s.keyOn n fun c => Screen.denied msg (f c) := by
  rw [State.deny, State.tell_keyOn htime, State.bell_keyOn (by exact hmode)]
  rfl

/-! ## What a screen makes of a key (R121, R137) -/

/-- A screen that takes a key: it is neither DOWN nor BLANKED. -/
def State.takesKeys (s : State) (n : Nat) : Prop := (s.screen n).mode ≠ .down ∧ (s.screen n).blanked = false

theorem State.takeKey_of_prompt {n : Fin 32} (h : s.takesKeys n) (hprompt : (s.screen n).prompt ≠ .closed) (k : Struck) :
    (s.turnedTo n).takeKey n k = (s.keyOn n id).promptKey n k.key := by
  obtain ⟨hmode, hblanked⟩ := h
  unfold State.takeKey
  have hscreen : (s.turnedTo n).screen n = s.screen n := rfl
  simp only [hscreen, if_neg hmode, hblanked, State.keySteps_turnedTo, if_pos hprompt]
  rfl

theorem State.takeKey_of_signedOff {n : Fin 32} (h : s.takesKeys n) (hprompt : (s.screen n).prompt = .closed)
    (hoff : (s.screen n).mode = .signedOff) (k : Struck) :
    (s.turnedTo n).takeKey n k = (s.keyOn n id).signedOffKey n k.key := by
  obtain ⟨hmode, hblanked⟩ := h
  unfold State.takeKey
  have hscreen : (s.turnedTo n).screen n = s.screen n := rfl
  simp only [hscreen, hblanked, State.keySteps_turnedTo, hprompt, hoff]
  rfl

theorem State.takeKey_of_sequence {n : Fin 32} (h : s.takesKeys n) (hprompt : (s.screen n).prompt = .closed)
    (hoff : (s.screen n).mode ≠ .signedOff) (k : Struck) :
    (s.turnedTo n).takeKey n k = (s.keyOn n id).sequenceKey n k := by
  obtain ⟨hmode, hblanked⟩ := h
  unfold State.takeKey
  have hscreen : (s.turnedTo n).screen n = s.screen n := rfl
  simp only [hscreen, if_neg hmode, hblanked, State.keySteps_turnedTo, hprompt, if_neg hoff]
  rfl

/-- A key of an unarmed screen that is not the supervisor code. -/
theorem State.sequenceKey_of_unarmed {n : Fin 32} (hin : n.val < s.screens.length) (hescape : (s.screen n).escape = 0) (k : Key) :
    (s.keyOn n id).sequenceKey n ⟨false, k⟩ = (s.keyOn n id).stateKey n k := by
  have hcount : ((s.keyOn n id).screen n).escape = 0 := by
    rw [State.screen_keyOn hin]
    exact hescape
  have hset : (s.keyOn n id).setEscape n 0 = s.keyOn n id := State.updScreen_self _ (by
    rw [← hcount])
  unfold State.sequenceKey
  simp only [hcount, hset]
  rfl

/-! ## Keys that are taken at once (R147) -/

section
variable {n : Fin 32} {mode : Mode} {prompt : Prompt} {e : Nat}

theorem State.atKeys.lt (h : s.atKeys n mode prompt e) : n.val < s.screens.length := by
  obtain ⟨-, -, hin, -⟩ := h
  exact hin

theorem State.atKeys.mode_eq (h : s.atKeys n mode prompt e) : (s.screen n).mode = mode := by
  obtain ⟨-, -, -, hmode, -⟩ := h
  exact hmode

theorem State.atKeys.prompt_eq (h : s.atKeys n mode prompt e) : (s.screen n).prompt = prompt := by
  obtain ⟨-, -, -, -, -, hprompt, -⟩ := h
  exact hprompt

theorem State.atKeys.escape_eq (h : s.atKeys n mode prompt e) : (s.screen n).escape = e := by
  obtain ⟨-, -, -, -, -, -, hescape⟩ := h
  exact hescape

theorem State.atKeys.takesKeys (h : s.atKeys n mode prompt e) (hdown : mode ≠ .down) : s.takesKeys n := by
  obtain ⟨-, -, -, hmode, hblanked, -⟩ := h
  exact ⟨hmode ▸ hdown, hblanked⟩

/-- A key that arrives with none waiting is taken at once. -/
theorem State.atKeys.keyTaken (h : s.atKeys n mode prompt e) (k : Struck) : s.keyTaken n k = (s.turnedTo n).takeKey n k := by
  obtain ⟨hnone, hup, -⟩ := h
  rw [State.keyTaken, State.nextLine_eq_none hnone]
  exact if_pos hup

/-- A key with a prompt open. -/
theorem State.atKeys.keyOutcome_prompt (h : s.atKeys n mode prompt e) (hdown : mode ≠ .down) (hprompt : prompt ≠ .closed)
    (k : Struck) : keyOutcome n k s = .next ((s.keyOn n id).promptKey n k.key).settle := by
  rw [keyOutcome, h.keyTaken, State.takeKey_of_prompt (h.takesKeys hdown) (h.prompt_eq ▸ hprompt)]

/-- A key at a signed-on screen with no prompt. -/
theorem State.atKeys.keyOutcome_sequence (h : s.atKeys n mode .closed e) (hdown : mode ≠ .down) (hoff : mode ≠ .signedOff)
    (k : Struck) : keyOutcome n k s = .next ((s.keyOn n id).sequenceKey n k).settle := by
  rw [keyOutcome, h.keyTaken, State.takeKey_of_sequence (h.takesKeys hdown) h.prompt_eq (h.mode_eq ▸ hoff)]

theorem State.atKeys.stateKey_desk (h : s.atKeys n .desk prompt e) (k : Key) :
    (s.keyOn n id).stateKey n k = (s.keyOn n id).deskKey n k := by
  have hmode : ((s.keyOn n id).screen n).mode = .desk := by
    rw [State.screen_keyOn h.lt]
    exact h.mode_eq
  rw [State.stateKey, hmode]

theorem State.atKeys.stateKey_view (h : s.atKeys n .view prompt e) (k : Key) :
    (s.keyOn n id).stateKey n k = (s.keyOn n id).viewKey n k := by
  have hmode : ((s.keyOn n id).screen n).mode = .view := by
    rw [State.screen_keyOn h.lt]
    exact h.mode_eq
  rw [State.stateKey, hmode]

/-- The story that the key's screen owns, whatever its own change, as long as that leaves the story. -/
theorem State.onOwned_keyOn {f : Screen → Screen} {k : Nat} (hin : n.val < s.screens.length)
    (hstory : (s.screen n).story = some (k, .owner)) (hf : ∀ c, (f c).story = c.story) (g : Nat → State) :
    (s.keyOn n f).onOwned n g = g k := by
  have howned : ((s.keyOn n f).screen n).owned = some k := by
    rw [State.screen_keyOn hin, Screen.owned, hf]
    have : (s.keyedScreen n).story = some (k, .owner) := hstory
    rw [this]
  rw [State.onOwned, howned]

theorem State.atKeys.stateKey_edit {k : Nat} (h : s.atKeys n .edit prompt e) (hstory : (s.screen n).story = some (k, .owner))
    (key : Key) : (s.keyOn n id).stateKey n key = (s.keyOn n id).editKey n k key := by
  have hmode : ((s.keyOn n id).screen n).mode = .edit := by
    rw [State.screen_keyOn h.lt]
    exact h.mode_eq
  rw [State.stateKey, hmode]
  exact State.onOwned_keyOn h.lt hstory (fun _ => rfl) _

theorem State.atKeys.keyOutcome_desk (h : s.atKeys n .desk .closed 0) (k : Key) :
    keyOutcome n ⟨false, k⟩ s = .next ((s.keyOn n id).deskKey n k).settle := by
  rw [h.keyOutcome_sequence (by decide) (by decide), State.sequenceKey_of_unarmed h.lt h.escape_eq, h.stateKey_desk]

theorem State.atKeys.keyOutcome_view (h : s.atKeys n .view .closed 0) (k : Key) :
    keyOutcome n ⟨false, k⟩ s = .next ((s.keyOn n id).viewKey n k).settle := by
  rw [h.keyOutcome_sequence (by decide) (by decide), State.sequenceKey_of_unarmed h.lt h.escape_eq, h.stateKey_view]

theorem State.atKeys.keyOutcome_edit {k : Nat} (h : s.atKeys n .edit .closed 0) (hstory : (s.screen n).story = some (k, .owner))
    (key : Key) : keyOutcome n ⟨false, key⟩ s = .next ((s.keyOn n id).editKey n k key).settle := by
  rw [h.keyOutcome_sequence (by decide) (by decide), State.sequenceKey_of_unarmed h.lt h.escape_eq, h.stateKey_edit hstory]

/-! ## A prompt that is completed (R124) -/

/-- The state in which a completed prompt asks for its operation: the key's steps made, the prompt closed. -/
def State.promptClosed (s : State) (n : Fin 32) : State := s.keyOn n Screen.closePrompt

theorem State.closePrompt_keyOn : (s.keyOn n id).updScreen n Screen.closePrompt = s.promptClosed n :=
  State.updScreen_keyOn n id Screen.closePrompt

theorem State.screen_promptClosed (h : s.atKeys n mode prompt e) :
    (s.promptClosed n).screen n = (s.keyedScreen n).closePrompt := State.screen_keyOn h.lt

theorem State.atKeys.keyEnter (h : s.atKeys n mode prompt e) (hdown : mode ≠ .down) (hprompt : prompt ≠ .closed) :
    exec (.keyEnter n) s = .next ((s.keyOn n id).complete n).settle :=
  h.keyOutcome_prompt hdown hprompt (.fn .enter)

/-- The operation that a completed prompt asks for. -/
def State.promptOp (s : State) (n : Nat) (p : Prompt) (buffer : List Byte) (arg : Option Nat) : State :=
  match p with
  | .closed | .priority => s
  | .signon => s.signOn n buffer
  | .newSlug => s.newAt n buffer
  | .openSlug => s.openSlug n false buffer
  | .sendDesk => s.onOwned n fun story => s.sendAt n story buffer
  | .pageRelease => s.releaseAt n buffer
  | .pageAbort => s.abortAt n buffer
  | .spikeConfirm => s.tell n (str "NOT SPIKED")
  | .superTake => s.takeAt n buffer
  | .superMoveSlug => s.moveSlugAt n buffer
  | .superMoveDesk => s.moveDeskAt n buffer arg

/-- ENTER closes the prompt and asks for its operation. -/
theorem State.atKeys.complete_eq (h : s.atKeys n mode prompt e) :
    (s.keyOn n id).complete n = (s.promptClosed n).promptOp n prompt (s.screen n).buffer (s.screen n).promptArg := by
  have hscreen : (s.keyOn n id).screen n = s.keyedScreen n := State.screen_keyOn h.lt
  have hprompt : (s.keyedScreen n).prompt = prompt := h.prompt_eq
  unfold State.complete
  simp only [hscreen, hprompt, State.closePrompt_keyOn]
  cases prompt <;> rfl

/-- A refusal of what a prompt asked for. -/
theorem State.deny_promptClosed (h : s.atKeys n mode prompt e) (hdown : mode ≠ .down) (msg : List Byte) :
    (s.promptClosed n).deny n msg = s.keyOn n (Screen.turnedAway msg) :=
  State.deny_keyOn (f := Screen.closePrompt) (h.mode_eq.trans_ne hdown) rfl msg

theorem State.tell_promptClosed (msg : List Byte) :
    (s.promptClosed n).tell n msg = s.keyOn n fun c =>
      { c with prompt := .closed, buffer := [], promptArg := none, partMessage := some msg } :=
  State.tell_keyOn (f := Screen.closePrompt) rfl msg

end
end

end Sys2Proof.Machine
end

section
/-! SUPPORT. The keys that open prompts, and the sign-on prompt (R123, R126, R152). -/

namespace Sys2Proof.Machine

section
variable {s : State} {n : Fin 32} {mode : Mode} {prompt : Prompt} {e d : Nat}

/-! ## Prompts opened (R123) -/

theorem State.ask_keyOn (p : Prompt) (buffer : List Byte) :
    (s.keyOn n id).ask n p buffer = s.keyOn n fun c => { c with prompt := p, buffer := buffer, promptArg := none } :=
  State.updScreen_keyOn n id _

theorem State.atKeys.deny (h : s.atKeys n mode prompt e) (hdown : mode ≠ .down) (msg : List Byte) :
    (s.keyOn n id).deny n msg = s.keyOn n (Screen.denied msg) :=
  State.deny_keyOn (f := id) (h.mode_eq.trans_ne hdown) rfl msg

/-- Whether the desk of the key's screen is of a kind (supervisor, composing). -/
theorem State.deskHas_keyOn {f : Screen → Screen} {attr : Desk → Bool} (hin : n.val < s.screens.length)
    (hf : ∀ c, (f c).desk = c.desk) : (s.keyOn n f).deskHas n attr = s.deskHas n attr := by
  have hdesk : ((s.keyOn n f).screen n).desk = (s.screen n).desk := by
    rw [State.screen_keyOn hin, hf]
    rfl
  rw [State.deskHas, State.deskHas, State.deskOf, State.deskOf, hdesk]
  rfl

theorem State.deskHas_iff {n : Nat} {attr : Desk → Bool} :
    s.deskHas n attr = true ↔ ∃ d, (s.screen n).desk = some d ∧ ∃ k ∈ s.desk d, attr k = true := by
  rw [State.deskHas, State.deskOf, Option.any_eq_true]
  constructor
  · rintro ⟨k, hk, hattr⟩
    obtain ⟨d, hd, hkd⟩ := Option.bind_eq_some_iff.1 hk
    exact ⟨d, hd, k, hkd, hattr⟩
  · rintro ⟨d, hd, k, hkd, hattr⟩
    exact ⟨k, Option.bind_eq_some_iff.2 ⟨d, hd, hkd⟩, hattr⟩

theorem State.deskHas_eq_false {n : Nat} {attr : Desk → Bool}
    (h : ∀ d, (s.screen n).desk = some d → ∀ k ∈ s.desk d, attr k = false) : s.deskHas n attr = false := by
  rw [Bool.eq_false_iff]
  intro hhas
  obtain ⟨d, hd, k, hk, hattr⟩ := State.deskHas_iff.1 hhas
  simp [h d hd k hk] at hattr

/-- A page key opens its prompt at a composing desk and is refused at another (R136). -/
theorem State.atKeys.askPage (h : s.atKeys n mode prompt e) (hdown : mode ≠ .down) (p : Prompt) :
    (s.keyOn n id).askPage n p =
      if s.deskHas n Desk.composing then s.keyOn n fun c => { c with prompt := p, buffer := [], promptArg := none }
      else s.keyOn n (Screen.denied (str "NOT PERMITTED")) := by
  rw [State.askPage, State.deskHas_keyOn (f := id) h.lt (fun _ => rfl), State.ask_keyOn, h.deny hdown]

/-! ## Printable keys -/

/-- A printable key that is not the supervisor code is struck as its character (R120). -/
theorem Profile.struck_printable {p : Profile} {code : Byte} (hprintable : printable code = true) (hsuper : code ≠ p.superCode) :
    p.struck (.code code) = ⟨false, .char code⟩ := by
  simp [Profile.struck, Profile.keyOf, hprintable, hsuper]

theorem execKeyPrintable_eq {code : Byte} (hprintable : printable code = true)
    (hsuper : code ≠ (s.screen n).profile.superCode) :
    exec (.keyPrintable n code) s = keyOutcome n ⟨false, .char code⟩ s := by
  have hexec : exec (.keyPrintable n code) s = execKeyPrintable n code s := rfl
  rw [hexec, execKeyPrintable, if_pos hprintable, Profile.struck_printable hprintable hsuper]

/-! ## Signing on (R126, R152) -/

/-- ENTER on the SIGNON prompt. -/
theorem State.atKeys.complete_signon (h : s.atKeys n .signedOff .signon e) :
    (s.keyOn n id).complete n = (s.promptClosed n).signOn n (s.screen n).buffer := h.complete_eq

/-- A desk number and a code that agree let the screen in (R51). -/
theorem State.signOn_of_agree {t : State} {n : Nat} {buffer : List Byte} (hlength : buffer.length = 6)
    (hd : ofDigits (buffer.take 2) < 16) (hcode : ∃ k ∈ t.desk (ofDigits (buffer.take 2)), k.code = buffer.drop 2) :
    t.signOn n buffer = t.letIn n (ofDigits (buffer.take 2)) := by
  obtain ⟨k, hk, hkcode⟩ := hcode
  exact if_pos ⟨hlength, by omega, Option.any_eq_true .. |>.2 ⟨k, hk, by simp [hkcode]⟩⟩

/-- Any other buffer is refused (R126). -/
theorem State.signOn_of_disagree {t : State} {n : Nat} {buffer : List Byte} (h : buffer.length ≠ 6 ∨
    16 ≤ ofDigits (buffer.take 2) ∨ ∀ k ∈ t.desk (ofDigits (buffer.take 2)), k.code ≠ buffer.drop 2) :
    t.signOn n buffer = t.deny n (str "SIGN-ON REFUSED") := by
  refine if_neg ?_
  rintro ⟨hlength, hd, hany⟩
  obtain ⟨k, hk, hkcode⟩ := (Option.any_eq_true ..).1 hany
  rcases h with hne | hge | hother
  · exact hne hlength
  · omega
  · exact hother k hk (by simpa using hkcode)

theorem State.atKeys.letIn_fresh (h : s.atKeys n mode prompt e) (hgrace : (s.screen n).grace = none) (d : Nat) :
    (s.promptClosed n).letIn n d = s.keyOn n fun c => { c with
      prompt := .closed
      buffer := []
      promptArg := none
      mode := .desk
      desk := some d
      story := none
      setView := false
      top := 0
      setTop := 0
      cursor := 0
      basketTop := 0
      selection := (s.basketView d).head?.map fun x => (x, 0)
      clearDue := true
      image := List.replicate c.profile.rows (List.replicate c.profile.cols ⟨0x20, .normal⟩)
      layoutTime := s.clock.time } := by
  have hnone : ((s.promptClosed n).screen n).grace = none := by
    rw [State.screen_promptClosed h]
    exact hgrace
  rw [State.letIn]
  simp only [hnone, Option.isNone_none, if_true]
  rw [State.enterDeskFresh, State.enterDesk, State.promptClosed, State.updScreen_keyOn, State.updScreen_keyOn]
  rfl

theorem State.atKeys.letIn_resume (h : s.atKeys n mode prompt e) (hgrace : (s.screen n).grace.isSome = true)
    (hdesk : (s.screen n).desk = some d) :
    ∃ top, (s.promptClosed n).letIn n d = s.keyOn n fun c => { c with
      prompt := .closed
      buffer := []
      promptArg := none
      mode := .edit
      grace := none
      setView := false
      top := top
      clearDue := true
      image := List.replicate c.profile.rows (List.replicate c.profile.cols ⟨0x20, .normal⟩)
      layoutTime := s.clock.time } := by
  have hscreen := State.screen_promptClosed h
  have hsome : ((s.promptClosed n).screen n).grace.isNone = false := by
    rw [hscreen]
    obtain ⟨g, hg⟩ := Option.isSome_iff_exists.1 hgrace
    exact congrArg Option.isNone hg
  have hat : ((s.promptClosed n).screen n).desk = some d := by rw [hscreen]; exact hdesk
  let resumed : Screen := { (s.keyedScreen n).closePrompt with grace := none, mode := .edit, setView := false }
  refine ⟨(snapTop (s.promptClosed n) resumed).top, ?_⟩
  rw [State.letIn]
  simp only [hsome, hat, if_true]
  rw [if_neg Bool.false_ne_true, State.resume, State.promptClosed, State.updScreen_keyOn]
  refine State.keyOn_congr ?_
  rw [snapTop_only]
  rfl

/-- A sign-on at another desk ends the grace first (R152). -/
theorem State.atKeys.letIn_other (h : s.atKeys n mode prompt e) (hgrace : (s.screen n).grace.isSome = true)
    (hdesk : (s.screen n).desk ≠ some d) :
    (s.promptClosed n).letIn n d = ((s.promptClosed n).graceExpires n).enterDeskFresh n d := by
  have hscreen := State.screen_promptClosed h
  have hsome : ((s.promptClosed n).screen n).grace.isNone = false := by
    rw [hscreen]
    obtain ⟨g, hg⟩ := Option.isSome_iff_exists.1 hgrace
    exact congrArg Option.isNone hg
  have hat : ((s.promptClosed n).screen n).desk ≠ some d := by rw [hscreen]; exact hdesk
  rw [State.letIn]
  simp only [hsome, if_neg hat]
  exact if_neg Bool.false_ne_true

/-- Filing or orphaning speaks of the stories, the baskets and the host's flags alone. -/
theorem FiledOrOrphaned.congr {u v : State} {k : Nat} {x : Story} (h : FiledOrOrphaned s u k x)
    (hstories : v.stories = u.stories) (hbaskets : v.baskets = u.baskets) (hhost : v.host = u.host) :
    FiledOrOrphaned s v k x := by
  obtain ⟨hfiled, horphaned, helse, hothers⟩ := h
  have hstory : ∀ m, v.story m = u.story m := fun m => by rw [State.story, State.story, hstories]
  have hbasket : ∀ m, v.basket m = u.basket m := fun m => by rw [State.basket, State.basket, hbaskets]
  refine ⟨fun hroom => ?_, fun hfull => ?_, fun m hm => (hbasket m).trans (helse m hm), fun m hm =>
    (hstory m).trans (hothers m hm)⟩
  · obtain ⟨hst, hj⟩ := hfiled hroom
    rw [← hstory] at hst
    rw [← hbasket] at hj
    exact ⟨hst, hj.of_priority fun m => by rw [hstory]⟩
  · obtain ⟨hst, hb, hh⟩ := horphaned hfull
    rw [← hstory] at hst
    rw [← hbaskets] at hb
    rw [← hhost] at hh
    exact ⟨hst, hb, hh⟩

/-- A screen that enters DESK with a full repaint. -/
theorem State.screen_enterDeskFresh {t : State} {n : Nat} (hin : n < t.screens.length) (d : Nat) :
    (t.enterDeskFresh n d).screen n = Screen.repaint t.clock.time
      { (t.screen n).dropStory with
        mode := .desk, desk := some d, basketTop := 0, selection := (t.basketView d).head?.map fun x => (x, 0) } := by
  have hin' : n < (t.enterDesk n d).screens.length := by
    rw [State.enterDesk, State.updScreen_screens, List.length_modify]
    exact hin
  rw [State.enterDeskFresh, State.screen_updScreen _ _ _ hin', State.enterDesk, State.screen_updScreen _ _ _ hin]

/-- A sign-on at another desk: the story under grace is filed or orphaned, and the screen is in DESK of the new desk (R152). -/
theorem State.enterDeskFresh_of_grace {t : State} {n k : Nat} {x : Story} (d : Nat) (hstory : (t.screen n).story = some (k, .owner))
    (hx : t.story k = some x) (hd : x.desk < t.baskets.length) :
    ∃ u, (t.graceExpires n).enterDeskFresh n d = u ∧ Aside t u ∧ FiledOrOrphaned t u k x ∧ (u.screen n).mode = .desk ∧
      (u.screen n).desk = some d ∧ (u.screen n).grace = none ∧ (u.screen n).story = none ∧
      (u.screen n).prompt = (t.screen n).prompt := by
  obtain ⟨hfiles, heq⟩ := State.autoFiles_graceExpires hstory hx
  have htask := State.screen_graceExpires hstory hx
  have htaskIn := hfiles.task n
  have hin : n < (t.graceExpires n).screens.length := by
    rw [heq, State.updScreen_screens, List.length_modify]
    refine State.lt_of_screen_ne fun hreset => ?_
    rw [hreset] at htaskIn
    have hnone : (t.screen n).story = none := (congrArg Screen.story htaskIn :).symm
    simp [hstory] at hnone
  have hscreen := State.screen_enterDeskFresh hin d
  refine ⟨_, rfl, ?_, (hfiles.filedOrOrphaned hd).congr ?_ ?_ ?_, ?_⟩
  · rw [heq]
    exact hfiles.aside.trans (.tables ..)
  · rw [heq]; rfl
  · rw [heq]; rfl
  · rw [heq]; rfl
  · rw [hscreen]
    exact ⟨rfl, rfl, (congrArg Screen.grace htask :), rfl, (congrArg Screen.prompt htask :)⟩

end

/-! ## The obligation -/

/-- Settles O53: each prompt is opened on the key's own screen (`State.updScreen_keyOn`), and the sign-on follows the three cases of
R126 and R152. -/
theorem promptsOpenAndSignOn : Obligations.PromptsOpenAndSignOn := by
  refine ⟨fun n s h => ⟨?_, fun code hslug hprintable hsuper => ?_, fun hcomposing => ?_, fun hplain => ?_⟩,
    fun n k s h hstory => ⟨?_, ?_, ?_⟩, ?_⟩
  · exact (h.keyOutcome_desk (.fn .newStory)).trans (next_settle_congr (State.ask_keyOn _ _))
  · rw [execKeyPrintable_eq hprintable hsuper, h.keyOutcome_desk, State.deskKey]
    have htakes : Prompt.openSlug.takes code = true := hslug
    simp only [htakes, if_true, State.ask_keyOn]
  · have hask (p : Prompt) := (h.askPage (by decide) p).trans (if_pos (State.deskHas_iff.2 hcomposing))
    exact ⟨(h.keyOutcome_desk (.fn .release)).trans (next_settle_congr (hask .pageRelease)),
      (h.keyOutcome_desk (.fn .abort)).trans (next_settle_congr (hask .pageAbort))⟩
  · have hdenied (p : Prompt) := (h.askPage (by decide) p).trans
      (if_neg (Bool.eq_false_iff.1 (State.deskHas_eq_false hplain)))
    exact ⟨(h.keyOutcome_desk (.fn .release)).trans (next_settle_congr (hdenied .pageRelease)),
      (h.keyOutcome_desk (.fn .abort)).trans (next_settle_congr (hdenied .pageAbort))⟩
  · exact (h.keyOutcome_edit hstory (.fn .send)).trans (next_settle_congr (State.ask_keyOn _ _))
  · exact (h.keyOutcome_edit hstory (.fn .spike)).trans (next_settle_congr (State.ask_keyOn _ _))
  · exact (h.keyOutcome_edit hstory (.fn .priority)).trans (next_settle_congr (State.ask_keyOn _ _))
  · rintro n e d s h rfl
    have hdown : Mode.signedOff ≠ .down := by decide
    have henter := h.keyEnter hdown (by decide)
    rw [h.complete_signon] at henter
    refine ⟨fun hlength hd hcode => ?_, fun hother => ?_⟩
    · rw [State.signOn_of_agree (t := s.promptClosed n) hlength hd hcode] at henter
      refine ⟨fun hgrace => ?_, fun hgrace hdesk => ?_, fun k x hgrace hdesk hstory hx hin => ?_⟩
      · rw [henter, h.letIn_fresh hgrace]
      · obtain ⟨top, htop⟩ := h.letIn_resume hgrace hdesk
        exact ⟨top, by rw [henter, htop]⟩
      · rw [h.letIn_other hgrace hdesk] at henter
        have hscreen := State.screen_promptClosed h
        have hstory' : ((s.promptClosed n).screen n).story = some (k, .owner) := by rw [hscreen]; exact hstory
        obtain ⟨u, hu, haside, hfiled, hmode, hat, hnone, hdropped, hprompt⟩ :=
          State.enterDeskFresh_of_grace (ofDigits ((s.screen n).buffer.take 2)) hstory' (x := x) hx hin
        rw [hu] at henter
        rw [hscreen] at hprompt
        have hkept := State.screen_settle_kept u n
        have hall : Aside s u := (State.aside_keyOn ..).trans haside
        exact ⟨u.settle, henter, hfiled.congr (v := u.settle) rfl rfl rfl,
          (congrArg Screen.mode hkept :).trans hmode, (congrArg Screen.desk hkept :).trans hat,
          (congrArg Screen.grace hkept :).trans hnone, (congrArg Screen.story hkept :).trans hdropped,
          (congrArg Screen.prompt hkept :).trans hprompt, hall.store, hall.desks, hall.fit, hall.sameOutput,
          SameLines.settle hall.sameLines⟩
    · rw [State.signOn_of_disagree (t := s.promptClosed n) hother, State.deny_promptClosed h hdown] at henter
      exact henter

end Sys2Proof.Machine
end

section
/-! SUPPORT. Stories opened, viewed, closed, filed, created, sent, spiked and given a priority at a screen (R24, R26 to R30, R33). -/

namespace Sys2Proof.Machine

/-! ## Screens that enter DESK or a story (R92) -/

section
variable {s : State} {n k d : Nat} {x : Story}

theorem State.length_screens_updScreen (n : Nat) (f : Screen → Screen) : (s.updScreen n f).screens.length = s.screens.length := by
  rw [State.updScreen_screens, List.length_modify]

theorem State.screen_enterStory (hin : n < s.screens.length) (role : Role) :
    (s.enterStory n k role).screen n = { (s.screen n).dropStory with
      mode := match role with
        | .owner => .edit
        | .viewer => .view
      story := some (k, role), selection := none, basketTop := 0 } := State.screen_updScreen _ _ _ hin

theorem State.ring_enterStory (role : Role) (m : Nat) : ((s.enterStory n k role).screen m).ring = (s.screen m).ring := by
  unfold State.enterStory
  rw [State.screen_updScreen_eq]
  split <;> rfl

theorem State.backToDesk_of_desk (hd : (s.screen n).desk = some d) : s.backToDesk n = s.enterDesk n d := by
  rw [State.backToDesk, hd]

/-- A screen that goes back to DESK. -/
theorem State.screen_backToDesk (hd : (s.screen n).desk = some d) :
    (s.backToDesk n).screen n = { (s.screen n).dropStory with
      mode := .desk, desk := some d, basketTop := 0, selection := (s.basketView d).head?.map fun x => (x, 0) } := by
  rw [State.backToDesk_of_desk hd, State.enterDesk, State.screen_updScreen _ _ _ (State.lt_of_desk hd)]

theorem State.aside_backToDesk (n : Nat) : Aside s (s.backToDesk n) := by
  rw [State.backToDesk_only]
  exact .tables ..

theorem State.aside_enterStory (role : Role) : Aside s (s.enterStory n k role) := .tables ..

/-- What the operations on stories and screens leave of the device, after the layout. -/
theorem Aside.settled {u : State} (h : Aside s u) (hhost : u.host = s.host) :
    u.settle.store = s.store ∧ u.settle.desks = s.desks ∧ u.settle.fit = s.fit ∧ SameOutput s u.settle ∧
      SameLines s u.settle ∧ u.settle.host = s.host :=
  ⟨h.store, h.desks, h.fit, h.sameOutput, .settle h.sameLines, hhost⟩

/-! ## OPEN and VIEW (R24, R27) -/

/-- A record that is OPEN at a screen. -/
def Story.openedAt (n : Nat) (x : Story) : Story := { x with state := .open_, owner := some n }

theorem State.toOpen_eq (hx : s.story k = some x) :
    s.toOpen k n = (((s.withdrawn k x).updStory k (Story.openedAt n)).reportDesk x.desk).touchStory k := by
  rw [State.toOpen, hx]
  rfl

theorem State.withdraws_toOpen (hx : s.story k = some x) : Withdraws s (s.toOpen k n) k x (x.openedAt n) := by
  rw [State.toOpen_eq hx]
  exact ((State.withdraws_withdrawn hx (Story.openedAt n)).of_screens (v := State.reportDesk _ _) rfl).of_screens
    (State.touchStory_only _ k)

theorem State.task_toOpen (hx : s.story k = some x) (m : Nat) : ((s.toOpen k n).screen m).task = (s.screen m).task := by
  rw [State.toOpen_eq hx, State.task_touchStory, State.task_reportDesk]
  exact State.task_withdrawn

theorem State.not_mem_ring_toOpen (hx : s.story k = some x) (hq : x.state = .queued) (m : Nat) :
    k ∉ ((s.toOpen k n).screen m).ring := by
  have hring : ((s.toOpen k n).screen m).ring = ((s.leaveBasket k).screen m).ring := by
    rw [State.toOpen_eq hx, State.withdrawn, if_pos hq]
    exact (congrArg Screen.ring ((State.screen_touchStory_kept _ k m).trans (State.screen_reportDesk_kept x.desk m)) :)
  rw [hring]
  exact State.not_mem_ring_leaveBasket hx m

theorem State.openAt_of_queued (hx : s.story k = some x) (hq : x.state = .queued) (hd : (s.screen n).desk = some x.desk) :
    s.openAt n k = (s.toOpen k n).enterStory n k .owner := by
  have hopenable : x.openableAt (s.screen n).desk = true := by simp [Story.openableAt, hd, hq]
  rw [State.openAt, hx]
  exact if_pos hopenable

theorem State.openAt_of_unavailable (hx : s.story k = some x) (hstate : x.state = .setting ∨ x.state = .set_ ∨ x.state = .spiked) :
    s.openAt n k = s.deny n (str "NOT AVAILABLE") := by
  have hclosed : x.openableAt (s.screen n).desk = false := by
    rcases hstate with h | h | h <;> simp [Story.openableAt, h]
  rw [State.openAt, hx]
  exact if_neg (Bool.eq_false_iff.1 hclosed)

/-- A story with one viewer more. -/
def State.viewed (s : State) (n k : Nat) : State := s.updStory k fun x => { x with viewers := insertNum n x.viewers }

theorem State.viewAt_of_room (hx : s.story k = some x) (hroom : x.viewers.length < 8) :
    s.viewAt n k = (s.viewed n k).enterStory n k .viewer := by
  rw [State.viewAt, hx]
  exact if_neg (Nat.not_le.2 hroom)

theorem State.viewAt_of_full (hx : s.story k = some x) (hfull : 8 ≤ x.viewers.length) :
    s.viewAt n k = s.deny n (str "VIEWERS FULL") := by
  rw [State.viewAt, hx]
  exact if_pos hfull

theorem mem_insertNum {n m : Nat} {l : List Nat} : m ∈ insertNum n l ↔ m = n ∨ m ∈ l := by
  unfold insertNum
  split
  · next h =>
    have hn : n ∈ l := by simpa using h
    exact ⟨Or.inr, fun h => h.elim (fun heq => heq ▸ hn) id⟩
  · have hsplit : m ∈ l ↔ m ∈ l.takeWhile (· < n) ∨ m ∈ l.dropWhile (· < n) := by
      rw [← List.mem_append, List.takeWhile_append_dropWhile]
    rw [hsplit, List.mem_append, List.mem_cons]
    tauto

theorem State.story_viewed (hx : s.story k = some x) :
    (s.viewed n k).story k = some { x with viewers := insertNum n x.viewers } := by
  rw [State.viewed, State.story_updStory, hx]
  rfl

theorem State.story_viewed_of_ne {m : Nat} (hm : m ≠ k) : (s.viewed n k).story m = s.story m :=
  State.story_updStory_of_ne _ k m _ hm

/-! ## CLOSE (R24) -/

theorem State.stopViewing_of_viewer (hstory : (s.screen n).story = some (k, .viewer)) : s.stopViewing n = s.leaveViewers n k := by
  rw [State.stopViewing, hstory]

theorem State.story_leaveViewers (hx : s.story k = some x) :
    (s.leaveViewers n k).story k = some { x with viewers := x.viewers.filter (· != n) } := by
  rw [State.leaveViewers, State.story_updStory, hx]
  rfl

theorem State.story_leaveViewers_of_ne {m : Nat} (hm : m ≠ k) : (s.leaveViewers n k).story m = s.story m :=
  State.story_updStory_of_ne _ k m _ hm

/-! ## FILE, SEND_DESK and the spike (R28, R29, R33) -/

theorem State.fileAt_of_room (hx : s.story k = some x) (hroom : (s.basket x.desk).length < 64) :
    s.fileAt n k = (s.toQueued k (some n)).backToDesk n := by
  rw [State.fileAt, hx]
  exact if_pos (State.roomAt_eq_true.2 hroom)

theorem State.fileAt_of_full (hx : s.story k = some x) (hfull : 64 ≤ (s.basket x.desk).length) :
    s.fileAt n k = s.deny n (str "QUEUE FULL") := by
  rw [State.fileAt, hx]
  exact if_neg (mt State.roomAt_eq_true.1 (Nat.not_lt.2 hfull))

/-- The owned story sent to a desk. -/
def State.sentTo (s : State) (n k d : Nat) : State := (s.updStory k fun x => { x with desk := d }).toQueued k (some n)

theorem State.spikeAt_of_off (hx : s.story k = some x) (hopen : x.state = .open_) (hoff : OffPress s x) :
    s.spikeAt n k = (s.toSpiked k).backToDesk n := by
  have hspikable : s.spikable x = true := by simp [State.spikable, hopen, State.onReleasedPage_eq_false hoff]
  rw [State.spikeAt, hx]
  exact if_pos hspikable

theorem State.onReleasedPage_of_on (hon : ¬OffPress s x) : s.onReleasedPage x = true := by
  by_contra hfalse
  refine hon fun at_ hat g hg => ?_
  by_contra hstate
  refine hfalse ((Option.any_eq_true ..).2 ⟨at_, hat, (Option.any_eq_true ..).2 ⟨g, hg, ?_⟩⟩)
  by_cases hwaiting : g.state = .waiting
  · simp [hwaiting]
  · have hsetting : g.state = .setting := by
      by_contra hne
      exact hstate ⟨hwaiting, hne⟩
    simp [hsetting]

theorem State.spikeAt_of_on (hx : s.story k = some x) (hon : ¬OffPress s x) : s.spikeAt n k = s.deny n (str "NOT ALLOWED") := by
  have hfixed : s.spikable x = false := by simp [State.spikable, State.onReleasedPage_of_on hon]
  rw [State.spikeAt, hx]
  exact if_neg (Bool.eq_false_iff.1 hfixed)

/-! ## NEW_SLUG (R26) -/

theorem slugOf_eq_none {buffer : List Byte}
    (h : buffer.map foldCase = [] ∨ 12 < (buffer.map foldCase).length ∨ (buffer.map foldCase).all isSlugCode = false) :
    slugOf buffer = none := by
  refine if_neg ?_
  rintro ⟨hmin, hmax, hcodes⟩
  rcases h with hnil | hlong | hcode
  · rw [hnil] at hmin
    simp at hmin
  · omega
  · rw [hcode] at hcodes
    exact Bool.false_ne_true hcodes

theorem slugOf_eq_some_map {buffer : List Byte} (hne : buffer.map foldCase ≠ []) (hmax : (buffer.map foldCase).length ≤ 12)
    (hcodes : (buffer.map foldCase).all isSlugCode = true) : slugOf buffer = some (buffer.map foldCase) :=
  if_pos ⟨List.length_pos_of_ne_nil hne, hmax, hcodes⟩

theorem State.findSlug_isSome_iff {slug : List Byte} :
    (s.findSlug slug).isSome = true ↔ ∃ m < 512, ∃ x, s.story m = some x ∧ x.slug = slug := by
  rw [State.findSlug, List.find?_isSome]
  constructor
  · rintro ⟨m, hm, hany⟩
    obtain ⟨x, hx, hslug⟩ := (Option.any_eq_true _ _).1 hany
    exact ⟨m, List.mem_range.1 hm, x, hx, by simpa using hslug⟩
  · rintro ⟨m, hm, x, hx, hslug⟩
    exact ⟨m, List.mem_range.2 hm, (Option.any_eq_true _ _).2 ⟨x, hx, by simpa using hslug⟩⟩

theorem State.emptyRecord_eq_none (h : ∀ m < 512, (s.story m).isSome = true) : s.emptyRecord = none :=
  List.find?_eq_none.2 fun m hm hempty => by
    have hsome := h m (List.mem_range.1 hm)
    rw [Option.isNone_iff_eq_none.1 hempty] at hsome
    exact Bool.false_ne_true hsome

theorem State.newAt_of_bad {buffer : List Byte} (h : slugOf buffer = none) : s.newAt n buffer = s.deny n (str "BAD SLUG") := by
  rw [State.newAt, h]

section
variable {buffer slug : List Byte} {y : Desk}

theorem State.newAt_of_used (hslug : slugOf buffer = some slug) (hd : (s.screen n).desk = some d)
    (hused : (s.findSlug slug).isSome = true) : s.newAt n buffer = s.deny n (str "SLUG IN USE") := by
  rw [State.newAt, hslug, hd]
  exact if_pos hused

theorem State.newAt_of_none (hslug : slugOf buffer = some slug) (hd : (s.screen n).desk = some d)
    (hfree : (s.findSlug slug).isSome = false) (hnone : s.emptyRecord = none) :
    s.newAt n buffer = s.deny n (str "TABLE FULL") := by
  rw [State.newAt, hslug, hd]
  dsimp only
  rw [if_neg (Bool.eq_false_iff.1 hfree), hnone]

theorem State.newAt_of_record (hslug : slugOf buffer = some slug) (hd : (s.screen n).desk = some d)
    (hfree : (s.findSlug slug).isSome = false) (hk : s.emptyRecord = some k) (hy : s.desk d = some y) :
    s.newAt n buffer = if s.roomAt d then s.createAt n d k y slug else s.deny n (str "QUEUE FULL") := by
  rw [State.newAt, hslug, hd]
  dsimp only
  rw [if_neg (Bool.eq_false_iff.1 hfree), hk, hy]
  dsimp only
  cases s.roomAt d <;> rfl

end

end

/-! ## The keys -/

section
variable {s : State} {n : Fin 32} {k d e : Nat} {x : Story} {mode : Mode} {prompt : Prompt}

/-- What a key's operation leaves, as seen from the state before the key. -/
theorem Aside.of_keyOn {f : Screen → Screen} {u : State} (h : Aside (s.keyOn n f) u) : Aside s u :=
  (State.aside_keyOn n f).trans h

theorem Withdraws.of_keyOn {f : Screen → Screen} {u : State} {y : Story} (h : Withdraws (s.keyOn n f) u k x y) :
    Withdraws s u k x y :=
  ⟨.of_keyOn h.aside, h.host_eq, h.story_eq, h.others, h.left, h.elsewhere, h.kept⟩

theorem State.atKeys.desk_keyOn (h : s.atKeys n mode prompt e) {f : Screen → Screen} (hf : ∀ c, (f c).desk = c.desk) :
    ((s.keyOn n f).screen n).desk = (s.screen n).desk := by
  rw [State.screen_keyOn h.lt, hf]
  rfl

theorem State.atKeys.selection_keyOn (h : s.atKeys n mode prompt e) :
    ((s.keyOn n id).screen n).selection = (s.screen n).selection := by
  rw [State.screen_keyOn h.lt]
  rfl

theorem State.atKeys.openSelected_open {i : Nat} (h : s.atKeys n mode prompt e) (hsel : (s.screen n).selection = some (k, i)) :
    (s.keyOn n id).openSelected n false = (s.keyOn n id).openAt n k := by
  rw [State.openSelected, h.selection_keyOn, hsel]
  rfl

theorem State.atKeys.openSelected_view {i : Nat} (h : s.atKeys n mode prompt e) (hsel : (s.screen n).selection = some (k, i)) :
    (s.keyOn n id).openSelected n true = (s.keyOn n id).viewAt n k := by
  rw [State.openSelected, h.selection_keyOn, hsel]
  rfl

/-- OPEN of a QUEUED story of the screen's desk. -/
theorem opens_of_queued {i : Nat} (h : s.atKeys n .desk .closed 0) (hd : (s.screen n).desk = some d)
    (hsel : (s.screen n).selection = some (k, i)) (hx : s.story k = some x) (hq : x.state = .queued) (hxd : x.desk = d) :
    ∃ t, exec (.keyOpen n) s = .next t ∧ t.story k = some { x with state := .open_, owner := some n.val } ∧
      t.basket d = (s.basket d).filter (fun e => e.story != k) ∧ (∀ e, e ≠ d → t.basket e = s.basket e) ∧
      (t.screen n).mode = .edit ∧ (t.screen n).story = some (k, .owner) ∧ (t.screen n).desk = some d ∧
      (t.screen n).cursor = 0 ∧ (t.screen n).top = 0 ∧ (t.screen n).setView = false ∧
      (∀ m : Nat, k ∉ (t.screen m).ring) ∧ (∀ m, m ≠ k → t.story m = s.story m) ∧ t.store = s.store ∧
      t.desks = s.desks ∧ t.fit = s.fit ∧ SameOutput s t ∧ SameLines s t ∧ t.host = s.host := by
  subst hxd
  have hdesk := (h.desk_keyOn (f := id) fun _ => rfl).trans hd
  have hrun := (h.keyOutcome_desk (.fn .openStory)).trans (next_settle_congr
    ((h.openSelected_open hsel).trans (State.openAt_of_queued hx hq hdesk)))
  have hleft := (State.withdraws_toOpen (s := s.keyOn n id) (n := n) hx).of_keyOn
  have hring := State.not_mem_ring_toOpen (s := s.keyOn n id) (n := n) hx hq
  have hat : ((s.keyOn n id).toOpen k n |>.screen n).desk = some x.desk :=
    (congrArg Screen.desk (State.task_toOpen (s := s.keyOn n id) hx n) :).trans hdesk
  generalize (s.keyOn n id).toOpen k n = u at hrun hleft hring hat
  have hscreen := (State.screen_settle_kept (u.enterStory n k .owner) n).trans
    (congrArg Screen.kept (State.screen_enterStory (k := k) (State.lt_of_desk hat) .owner))
  have hring' : ∀ m, ((u.enterStory n k .owner).settle.screen m).ring = (u.screen m).ring := fun m =>
    (congrArg Screen.ring (State.screen_settle_kept (u.enterStory n k .owner) m) :).trans (State.ring_enterStory .owner m)
  have hbasket := hleft.left
  rw [if_pos hq] at hbasket
  exact ⟨_, hrun, hleft.story_eq, hbasket, hleft.elsewhere, (congrArg Screen.mode hscreen :), (congrArg Screen.story hscreen :),
    (congrArg Screen.desk hscreen :).trans hat, (congrArg Screen.cursor hscreen :), (congrArg Screen.top hscreen :),
    (congrArg Screen.setView hscreen :), fun m => by rw [hring']; exact hring m, hleft.others,
    (hleft.aside.trans (State.aside_enterStory .owner)).settled hleft.host_eq⟩

/-- VIEW of a story with room for a viewer. -/
theorem views_of_room {i : Nat} (h : s.atKeys n .desk .closed 0) (hd : (s.screen n).desk = some d)
    (hsel : (s.screen n).selection = some (k, i)) (hx : s.story k = some x) (hroom : x.viewers.length < 8) :
    ∃ t, exec (.keyView n) s = .next t ∧
      (∃ v, t.story k = some { x with viewers := v } ∧ ∀ m, m ∈ v ↔ m = n.val ∨ m ∈ x.viewers) ∧
      (t.screen n).mode = .view ∧ (t.screen n).story = some (k, .viewer) ∧ (t.screen n).desk = some d ∧
      (t.screen n).cursor = 0 ∧ (t.screen n).top = 0 ∧ (∀ m, m ≠ k → t.story m = s.story m) ∧
      t.baskets = s.baskets ∧ t.store = s.store ∧ t.desks = s.desks ∧ t.fit = s.fit ∧ SameOutput s t ∧
      SameLines s t ∧ t.host = s.host := by
  have hdesk := (h.desk_keyOn (f := id) fun _ => rfl).trans hd
  have hrun := (h.keyOutcome_desk (.fn .viewStory)).trans (next_settle_congr
    ((h.openSelected_view hsel).trans (State.viewAt_of_room hx hroom)))
  have hstory := State.story_viewed (s := s.keyOn n id) (n := n) hx
  have hothers : ∀ m, m ≠ k → ((s.keyOn n id).viewed n k).story m = s.story m := fun m hm =>
    State.story_viewed_of_ne (s := s.keyOn n id) hm
  have haside : Aside s ((s.keyOn n id).viewed n k) := Aside.of_keyOn (.tables ..)
  have hat : (((s.keyOn n id).viewed n k).screen n).desk = some d := hdesk
  have hbaskets : ((s.keyOn n id).viewed n k).baskets = s.baskets := rfl
  have hhost : ((s.keyOn n id).viewed n k).host = s.host := rfl
  generalize (s.keyOn n id).viewed n k = u at hrun hstory hothers haside hat hbaskets hhost
  have hscreen := (State.screen_settle_kept (u.enterStory n k .viewer) n).trans
    (congrArg Screen.kept (State.screen_enterStory (k := k) (State.lt_of_desk hat) .viewer))
  exact ⟨_, hrun, ⟨_, hstory, fun m => mem_insertNum⟩, (congrArg Screen.mode hscreen :), (congrArg Screen.story hscreen :),
    (congrArg Screen.desk hscreen :).trans hat, (congrArg Screen.cursor hscreen :), (congrArg Screen.top hscreen :), hothers,
    hbaskets, (haside.trans (State.aside_enterStory .viewer)).settled hhost⟩

/-- A screen that goes back to DESK of its desk, and is laid out. -/
theorem State.settle_backToDesk {u : State} {n : Nat} (hd : (u.screen n).desk = some d) :
    ((u.backToDesk n).settle.screen n).mode = .desk ∧ ((u.backToDesk n).settle.screen n).desk = some d ∧
      ((u.backToDesk n).settle.screen n).story = none ∧
      ((u.backToDesk n).settle.screen n).ring = (u.screen n).ring ∧
      ((u.backToDesk n).settle.screen n).prompt = (u.screen n).prompt := by
  have hscreen := (State.screen_settle_kept (u.backToDesk n) n).trans (congrArg Screen.kept (State.screen_backToDesk hd))
  exact ⟨(congrArg Screen.mode hscreen :), (congrArg Screen.desk hscreen :), (congrArg Screen.story hscreen :),
    (congrArg Screen.ring hscreen :), (congrArg Screen.prompt hscreen :)⟩

theorem State.settle_backToDesk_tables (u : State) (n : Nat) :
    (u.backToDesk n).settle.stories = u.stories ∧ (u.backToDesk n).settle.baskets = u.baskets ∧
      (u.backToDesk n).settle.host = u.host := by
  rw [State.backToDesk_only]
  exact ⟨rfl, rfl, rfl⟩

/-- What filing the story of a screen leaves: the story QUEUED in its class, the screen in DESK. -/
structure FilesBack (v t : State) (n k h : Nat) (y : Story) : Prop where
  story_eq : t.story k = some y.asQueued
  joins : y.desk < v.baskets.length →
    JoinsClass t (v.basket y.desk) (t.basket y.desk) ⟨k, v.clock.time, false⟩ y.priority.code
  elsewhere : ∀ b, b ≠ y.desk → t.basket b = v.basket b
  mode : (t.screen n).mode = .desk
  desk : (t.screen n).desk = some h
  story : (t.screen n).story = none
  ring : (t.screen n).ring = (v.screen n).ring
  prompt : (t.screen n).prompt = (v.screen n).prompt
  others : ∀ m, m ≠ k → t.story m = v.story m
  rest : t.store = v.store ∧ t.desks = v.desks ∧ t.fit = v.fit ∧ SameOutput v t ∧ SameLines v t ∧ t.host = v.host

theorem State.filesBack {v : State} {n h : Nat} {y : Story} (hy : v.story k = some y) (hd : (v.screen n).desk = some h) :
    FilesBack v ((v.toQueued k (some n)).backToDesk n).settle n k h y := by
  have harrives := State.arrives_toQueued (cause := some n) hy
  have hstory := State.story_toQueued (cause := some n) hy
  have hothers : ∀ m, m ≠ k → (v.toQueued k (some n)).story m = v.story m := fun m hm => State.story_toQueued_of_ne hm
  have hkept := harrives.caused n rfl
  generalize v.toQueued k (some n) = u at harrives hstory hothers hkept
  have hat : (u.screen n).desk = some h := (congrArg Screen.desk hkept :).trans hd
  obtain ⟨hmode, hdesk, hnone, hring, hprompt⟩ := State.settle_backToDesk hat
  have hrest := (harrives.aside.trans (State.aside_backToDesk n)).settled
    ((State.settle_backToDesk_tables u n).2.2.trans harrives.host_eq)
  obtain ⟨hstories, hbaskets, -⟩ := State.settle_backToDesk_tables u n
  generalize (u.backToDesk n).settle = t at *
  have hst : ∀ m, t.story m = u.story m := fun m => by rw [State.story, State.story, hstories]
  have hb : ∀ b, t.basket b = u.basket b := fun b => by rw [State.basket, State.basket, hbaskets]
  refine ⟨(hst k).trans hstory, fun hin => ?_, fun b hne => (hb b).trans (harrives.elsewhere b hne), hmode, hdesk, hnone,
    hring.trans (congrArg Screen.ring hkept :), hprompt.trans (congrArg Screen.prompt hkept :),
    fun m hm => (hst m).trans (hothers m hm), hrest⟩
  rw [hb]
  exact (harrives.joins hin).of_priority fun m => by rw [hst]

/-- A send to the desk that the buffer or the route names, and the refusals of R57. -/
theorem State.sendAt_of_desk {s : State} {n : Nat} {y : Desk} {buffer : List Byte} (hx : s.story k = some x)
    (hy : s.desk x.desk = some y) (hd : (if buffer = [] then y.route else some (ofDigits buffer)) = some d) :
    s.sendAt n k buffer =
      if d ∉ y.allowed then s.deny n (str "NOT ROUTED")
      else if s.desk d = none then s.deny n (str "NO DESK")
      else if 64 ≤ (s.basket d).length then s.deny n (str "QUEUE FULL")
      else (s.sentTo n k d).backToDesk n := by
  have htarget : (if buffer = [] then (some y).bind Desk.route else some (ofDigits buffer)) = some d := hd
  have hroom : (!s.roomAt d) = decide (64 ≤ (s.basket d).length) := by
    rw [State.roomAt, ← decide_not]
    exact decide_eq_decide.2 Nat.not_lt
  have hnone : (s.desk d).isNone = true ↔ s.desk d = none := Option.isNone_iff_eq_none
  have hallowed : (!((some y).any fun x => x.allowed.contains d)) = true ↔ d ∉ y.allowed := by simp
  have hfull : decide (64 ≤ (s.basket d).length) = true ↔ 64 ≤ (s.basket d).length := decide_eq_true_iff
  unfold State.sendAt State.sendTo
  simp only [hx, hy, htarget, hroom, hnone, hallowed, hfull]
  split_ifs <;> rfl

theorem State.sendAt_of_no_route {s : State} {n : Nat} {y : Desk} {buffer : List Byte} (hx : s.story k = some x)
    (hy : s.desk x.desk = some y) (hbuffer : buffer = []) (hroute : y.route = none) :
    s.sendAt n k buffer = s.deny n (str "NO ROUTE") := by
  unfold State.sendAt State.sendTo
  simp only [hx, hy, hbuffer, if_true, Option.bind_some, hroute]

/-- A printable key with a prompt open. -/
theorem State.atKeys.keyPrintable_prompt {code : Byte} (h : s.atKeys n mode prompt e) (hdown : mode ≠ .down)
    (hprompt : prompt ≠ .closed) (hprintable : printable code = true) :
    exec (.keyPrintable n code) s = .next ((s.keyOn n id).promptChar n code).settle := by
  have hexec : exec (.keyPrintable n code) s = execKeyPrintable n code s := rfl
  have hkey : ((s.screen n).profile.struck (.code code)).key = .char code := by
    simp [Profile.struck, Profile.keyOf, hprintable]
  rw [hexec, execKeyPrintable, if_pos hprintable, h.keyOutcome_prompt hdown hprompt, hkey]
  rfl

theorem State.atKeys.promptChar_spikeConfirm (h : s.atKeys n mode .spikeConfirm e) (hstory : (s.screen n).story = some (k, .owner))
    (code : Byte) : (s.keyOn n id).promptChar n code =
      if foldCase code = 0x59 then (s.promptClosed n).spikeAt n k else (s.promptClosed n).tell n (str "NOT SPIKED") := by
  have hscreen : (s.keyOn n id).screen n = s.keyedScreen n := State.screen_keyOn h.lt
  have hprompt : (s.keyedScreen n).prompt = .spikeConfirm := h.prompt_eq
  have howned := State.onOwned_keyOn (f := Screen.closePrompt) h.lt hstory (fun _ => rfl)
    ((s.promptClosed n).spikeAt n)
  unfold State.promptChar
  simp only [hscreen, hprompt, State.closePrompt_keyOn, Prompt.takes, beq_iff_eq]
  rw [State.promptClosed] at howned ⊢
  rw [howned]

theorem State.atKeys.promptChar_priority {pr : Priority} {p : Nat} {code : Byte} (h : s.atKeys n mode .priority e)
    (hstory : (s.screen n).story = some (k, .owner)) (hcode : code.toNat = 0x30 + p) (hp : Priority.ofCode p = some pr) :
    (s.keyOn n id).promptChar n code = (s.promptClosed n).priorityAt k pr := by
  have hscreen : (s.keyOn n id).screen n = s.keyedScreen n := State.screen_keyOn h.lt
  have hprompt : (s.keyedScreen n).prompt = .priority := h.prompt_eq
  have howned := State.onOwned_keyOn (f := Screen.closePrompt) h.lt hstory (fun _ => rfl)
    fun k => (s.promptClosed n).priorityAt k pr
  have hlt := Priority.lt_of_ofCode hp
  have htakes : Prompt.priority.takes code = true := by
    simp only [Prompt.takes, hcode, Bool.and_eq_true, decide_eq_true_eq]
    omega
  have hof : Priority.ofCode (code.toNat - 0x30) = some pr := by rw [hcode, Nat.add_sub_cancel_left]; exact hp
  unfold State.promptChar
  simp only [hscreen, hprompt, State.closePrompt_keyOn, htakes, if_true, hof]
  exact howned

theorem State.aside_priorityAt (pr : Priority) : Aside s (s.priorityAt k pr) := by
  rw [State.priorityAt, State.touchStory_only]
  exact .tables ..

theorem State.story_priorityAt (pr : Priority) (m : Nat) :
    (s.priorityAt k pr).story m = (s.updStory k fun t => { t with priority := pr }).story m := by
  rw [State.priorityAt, State.story, State.touchStory_stories]
  rfl

theorem State.screen_priorityAt_kept (pr : Priority) (m : Nat) : ((s.priorityAt k pr).screen m).kept = (s.screen m).kept :=
  State.screen_touchStory_kept _ k m

/-- A story created OPEN at a screen, and the screen in EDIT of it (R26). -/
theorem State.screen_createAt {m : Nat} {y : Desk} {slug : List Byte} (hin : m < s.screens.length) :
    (s.createAt m d k y slug).screen m = { (s.screen m).dropStory with
      mode := .edit, story := some (k, .owner), selection := none, basketTop := 0 } :=
  State.screen_enterStory (s := s.setStory k _) hin .owner

theorem State.createAt_leaves {m : Nat} {y : Desk} {slug : List Byte} :
    Aside s (s.createAt m d k y slug) ∧ (s.createAt m d k y slug).baskets = s.baskets ∧
      (s.createAt m d k y slug).host = s.host := ⟨.tables .., rfl, rfl⟩

theorem State.story_createAt {y : Desk} {slug : List Byte} (hk : k < s.stories.length) (m : Nat) :
    (s.createAt n d k y slug).story m =
      if m = k then some (newStory slug .open_ .routine d (some n.val) y.style s.clock.time) else s.story m :=
  State.story_setStory s k m _ hk

end

/-! ## The obligation -/

/-- Settles O55: what each operation leaves of the story, of the baskets and of the screen (`Withdraws`, `FilesBack`,
`State.screen_enterStory`), with the refusals by `State.deny_keyOn`. -/
theorem storiesAreOpenedViewedAndFiled : Obligations.StoriesAreOpenedViewedAndFiled := by
  refine ⟨fun n d k i x s h hd hsel hx => ⟨opens_of_queued h hd hsel hx, fun hstate => ?_, views_of_room h hd hsel hx,
    fun hfull => ?_⟩, fun n d k x s h hd hstory hx => ?_, fun n d k x s h hd hin => ⟨fun hroom => ?_, fun hfull => ?_⟩, ?_, ?_, ?_,
    ?_⟩
  · rw [← h.deny (by decide), ← State.openAt_of_unavailable (s := s.keyOn n id) (n := n) hx hstate, ← h.openSelected_open hsel]
    exact h.keyOutcome_desk (.fn .openStory)
  · rw [← h.deny (by decide), ← State.viewAt_of_full (s := s.keyOn n id) (n := n) hx hfull, ← h.openSelected_view hsel]
    exact h.keyOutcome_desk (.fn .viewStory)
  · have hview : ((s.keyOn n id).screen n).story = some (k, .viewer) := by
      rw [State.screen_keyOn h.lt]
      exact hstory
    have hrun := (h.keyOutcome_view (.fn .closeView)).trans (next_settle_congr
      (congrArg (fun t : State => t.backToDesk n) (State.stopViewing_of_viewer hview)))
    have hat : (((s.keyOn n id).leaveViewers n k).screen n).desk = some d := (h.desk_keyOn (f := id) fun _ => rfl).trans hd
    have hleft := State.story_leaveViewers (s := s.keyOn n id) (n := n) hx
    have hothers : ∀ m, m ≠ k → ((s.keyOn n id).leaveViewers n k).story m = s.story m := fun m hm =>
      State.story_leaveViewers_of_ne (s := s.keyOn n id) hm
    have haside : Aside s ((s.keyOn n id).leaveViewers n k) := Aside.of_keyOn (.tables ..)
    have hsame : ((s.keyOn n id).leaveViewers n k).baskets = s.baskets ∧ ((s.keyOn n id).leaveViewers n k).host = s.host :=
      ⟨rfl, rfl⟩
    generalize (s.keyOn n id).leaveViewers n k = u at hrun hat hleft hothers haside hsame
    obtain ⟨hmode, hdesk, hnone, -, -⟩ := State.settle_backToDesk hat
    obtain ⟨hstories, hbaskets, hhost⟩ := State.settle_backToDesk_tables u n
    have hrest := (haside.trans (State.aside_backToDesk n)).settled (hhost.trans hsame.2)
    generalize (u.backToDesk n).settle = t at *
    have hst : ∀ m, t.story m = u.story m := fun m => by rw [State.story, State.story, hstories]
    exact ⟨t, hrun, (hst k).trans hleft, hmode, hdesk, hnone, fun m hm => (hst m).trans (hothers m hm), hbaskets.trans hsame.1,
      hrest⟩
  · obtain ⟨h, hstory, hx, -, -⟩ := h
    have hrun := (h.keyOutcome_edit hstory (.fn .file)).trans (next_settle_congr
      (State.fileAt_of_room (s := s.keyOn n id) (n := n) hx hroom))
    have hfiles := State.filesBack (v := s.keyOn n id) hx ((h.desk_keyOn (f := id) fun _ => rfl).trans hd)
    generalize (((s.keyOn n id).toQueued k (some n.val)).backToDesk n).settle = t at hrun hfiles
    have hring : ((s.keyOn n id).screen n).ring = (s.screen n).ring := by
      rw [State.screen_keyOn h.lt]
      rfl
    exact ⟨t, hrun, hfiles.story_eq, hfiles.joins hin, hfiles.elsewhere, hfiles.mode, hfiles.desk, hfiles.story,
      hfiles.ring.trans hring, hfiles.others, hfiles.rest⟩
  · obtain ⟨h, hstory, hx, -, -⟩ := h
    rw [← h.deny (by decide), ← State.fileAt_of_full (s := s.keyOn n id) (n := n) hx hfull]
    exact h.keyOutcome_edit hstory (.fn .file)
  · rintro n d e y slug s h hd hy rfl
    have hrun := h.keyEnter (by decide) (by decide)
    rw [h.complete_eq] at hrun
    have hdeny := State.deny_promptClosed h (by decide)
    have hat := (h.desk_keyOn (f := Screen.closePrompt) fun _ => rfl).trans hd
    refine ⟨fun hbad => ?_, fun hne hmax hcodes => ?_⟩
    · rw [← hdeny, ← State.newAt_of_bad (slugOf_eq_none hbad)]
      exact hrun
    · have hslug := slugOf_eq_some_map hne hmax hcodes
      refine ⟨fun hused => ?_, fun hfree => ?_⟩
      · rw [← hdeny, ← State.newAt_of_used (s := s.promptClosed n) hslug hat (State.findSlug_isSome_iff.2 hused)]
        exact hrun
      · have hunused : ((s.promptClosed n).findSlug ((s.screen n).buffer.map foldCase)).isSome = false := by
          rw [Bool.eq_false_iff]
          intro hused
          obtain ⟨m, hm, x, hx, hxslug⟩ := State.findSlug_isSome_iff.1 hused
          exact hfree m hm x hx hxslug
        refine ⟨fun hfull => ?_, fun k hk hempty hlower => ?_⟩
        · rw [← hdeny, ← State.newAt_of_none (s := s.promptClosed n) hslug hat hunused (State.emptyRecord_eq_none hfull)]
          exact hrun
        · have hnew := State.newAt_of_record (s := s.promptClosed n) (y := y) hslug hat hunused
            (State.emptyRecord_of_lowest hk hempty hlower) hy
          refine ⟨fun hfull => ?_, fun hroom hlength => ?_⟩
          · rw [← hdeny]
            exact hrun.trans (next_settle_congr (hnew.trans (if_neg (mt State.roomAt_eq_true.1 (Nat.not_lt.2 hfull)))))
          · have hcreated := hrun.trans (next_settle_congr (hnew.trans (if_pos (State.roomAt_eq_true.2 hroom))))
            have hscreen := (State.screen_settle_kept ((s.promptClosed n).createAt n d k y _) n).trans
              (congrArg Screen.kept (State.screen_createAt (k := k) (d := d) (y := y)
                (slug := (s.screen n).buffer.map foldCase) (State.lt_of_desk hat)))
            have hprompt : ((s.promptClosed n).screen n).prompt = .closed := congrArg Screen.prompt (State.screen_promptClosed h)
            have hstory := State.story_createAt (s := s.promptClosed n) (n := n) (d := d) (y := y)
              (slug := (s.screen n).buffer.map foldCase) (hk.trans_eq hlength.symm)
            obtain ⟨haside, hbaskets, hhost⟩ := State.createAt_leaves (s := s.promptClosed n) (m := n) (d := d) (k := k) (y := y)
              (slug := (s.screen n).buffer.map foldCase)
            generalize (s.promptClosed n).createAt n d k y ((s.screen n).buffer.map foldCase) = u at *
            obtain ⟨hstore, hdesks, hfit, hrest⟩ := (Aside.of_keyOn haside).settled hhost
            exact ⟨u.settle, hcreated, (hstory k).trans (if_pos rfl), (congrArg Screen.mode hscreen :),
              (congrArg Screen.story hscreen :), (congrArg Screen.cursor hscreen :), (congrArg Screen.top hscreen :),
              (congrArg Screen.setView hscreen :), (congrArg Screen.prompt hscreen :).trans hprompt,
              (congrArg Screen.desk hscreen :).trans hat, fun m hm => (hstory m).trans (if_neg hm), hstore, hdesks, hbaskets, hfit,
              hrest⟩
  · rintro n h k e x y buffer s hkeys hstory hx hd hy rfl
    have hrun := hkeys.keyEnter (by decide) (by decide)
    have howned := State.onOwned_keyOn (f := Screen.closePrompt) hkeys.lt hstory (fun _ => rfl)
      fun k => (s.promptClosed n).sendAt n k (s.screen n).buffer
    have hop : (s.keyOn n id).complete n = (s.promptClosed n).sendAt n k (s.screen n).buffer := hkeys.complete_eq.trans howned
    rw [hop] at hrun
    have hdeny := State.deny_promptClosed hkeys (by decide)
    have hat := (hkeys.desk_keyOn (f := Screen.closePrompt) fun _ => rfl).trans hd
    refine ⟨fun hbuffer hroute => ?_, fun d htarget => ?_⟩
    · rw [hrun, State.sendAt_of_no_route (s := s.promptClosed n) hx hy hbuffer hroute, hdeny]
    · rw [State.sendAt_of_desk (s := s.promptClosed n) hx hy htarget] at hrun
      refine ⟨fun hnot => ?_, fun hallowed hnone => ?_, fun hallowed hdesk hfull => ?_, fun hallowed hdesk hroom hin => ?_⟩
      · rw [hrun, if_pos hnot, hdeny]
      · rw [hrun, if_neg (not_not.2 hallowed)]
        exact next_settle_congr ((if_pos hnone).trans (hdeny _))
      · rw [hrun, if_neg (not_not.2 hallowed)]
        exact next_settle_congr ((if_neg (Option.isSome_iff_ne_none.1 hdesk)).trans ((if_pos hfull).trans (hdeny _)))
      · have hsends := hrun.trans (next_settle_congr ((if_neg (not_not.2 hallowed)).trans
          ((if_neg (Option.isSome_iff_ne_none.1 hdesk)).trans (if_neg (Nat.not_le.2 hroom)))))
        have hsent : ((s.promptClosed n).updStory k fun x => { x with desk := d }).story k = some { x with desk := d } := by
          rw [State.story_updStory]
          exact congrArg (Option.map fun x : Story => { x with desk := d }) hx
        have hfiles := State.filesBack (v := (s.promptClosed n).updStory k fun x => { x with desk := d }) hsent hat
        rw [← State.sentTo] at hfiles
        generalize (((s.promptClosed n).sentTo n k d).backToDesk n).settle = t at hsends hfiles
        have hprompt : ((s.promptClosed n).screen n).prompt = .closed := congrArg Screen.prompt (State.screen_promptClosed hkeys)
        exact ⟨t, hsends, hfiles.story_eq, hfiles.joins hin, hfiles.elsewhere, hfiles.mode, hfiles.desk, hfiles.story,
          hfiles.prompt.trans hprompt,
          fun m hm => (hfiles.others m hm).trans (State.story_updStory_of_ne _ k m _ hm), hfiles.rest⟩
  · intro n h k e x code s hkeys hstory hx hopen hd hprintable
    have hrun := hkeys.keyPrintable_prompt (by decide) (by decide) hprintable
    rw [hkeys.promptChar_spikeConfirm hstory] at hrun
    have hat := (hkeys.desk_keyOn (f := Screen.closePrompt) fun _ => rfl).trans hd
    refine ⟨fun hyes hoff => ?_, fun hyes hon => ?_, fun hno => ?_, ?_⟩
    · rw [if_pos hyes, State.spikeAt_of_off (s := s.promptClosed n) hx hopen hoff] at hrun
      have hleft := Withdraws.of_keyOn (State.withdraws_toSpiked (s := s.promptClosed n) hx)
      have htask := State.task_toSpiked (s := s.promptClosed n) hx n
      generalize (s.promptClosed n).toSpiked k = u at hrun hleft htask
      obtain ⟨hmode, hdesk, hnone, -, hprompt⟩ := State.settle_backToDesk ((congrArg Screen.desk htask :).trans hat)
      obtain ⟨hstories, hbaskets, hhost⟩ := State.settle_backToDesk_tables u n
      obtain ⟨hstore, hdesks, hfit, hrest⟩ := (hleft.aside.trans (State.aside_backToDesk n)).settled (hhost.trans hleft.host_eq)
      generalize (u.backToDesk n).settle = t at *
      have hst : ∀ m, t.story m = u.story m := fun m => by rw [State.story, State.story, hstories]
      have hsame : (u.screen n).prompt = ((s.promptClosed n).screen n).prompt := (congrArg Screen.prompt htask :)
      have hclosed := hprompt.trans (hsame.trans (congrArg Screen.prompt (State.screen_promptClosed hkeys)))
      exact ⟨t, hrun, (hst k).trans hleft.story_eq, hmode, hdesk, hnone, hclosed, fun m hm => (hst m).trans (hleft.others m hm),
        hstore, hdesks, hbaskets.trans (hleft.kept (by simp [hopen])), hfit, hrest⟩
    · rw [hrun, if_pos hyes, State.spikeAt_of_on (s := s.promptClosed n) hx hon, State.deny_promptClosed hkeys (by decide)]
    · rw [hrun, if_neg hno, State.tell_promptClosed]
    · rw [← State.tell_promptClosed]
      exact (hkeys.keyEnter (by decide) (by decide)).trans (next_settle_congr hkeys.complete_eq)
  · intro n k e p x pr code s h hstory hx hcode hp
    have hlt := Priority.lt_of_ofCode hp
    have hprintable : printable code = true := by
      simp only [printable, hcode, Bool.and_eq_true, decide_eq_true_eq]
      omega
    have hrun := h.keyPrintable_prompt (by decide) (by decide) hprintable
    rw [h.promptChar_priority hstory hcode hp] at hrun
    have hst := State.story_priorityAt (s := s.promptClosed n) (k := k) pr
    have haside : Aside s ((s.promptClosed n).priorityAt k pr) := Aside.of_keyOn (State.aside_priorityAt pr)
    have htables : ((s.promptClosed n).priorityAt k pr).baskets = s.baskets ∧
        ((s.promptClosed n).priorityAt k pr).host = s.host := by
      rw [State.priorityAt, State.touchStory_only]
      exact ⟨rfl, rfl⟩
    have hscreen := (State.screen_settle_kept ((s.promptClosed n).priorityAt k pr) n).trans
      ((State.screen_priorityAt_kept pr n).trans (congrArg Screen.kept (State.screen_promptClosed h)))
    have hthis : ((s.promptClosed n).priorityAt k pr).story k = some { x with priority := pr } := by
      rw [hst, State.story_updStory]
      exact congrArg (Option.map fun t : Story => { t with priority := pr }) hx
    have hothers : ∀ m, m ≠ k → ((s.promptClosed n).priorityAt k pr).story m = s.story m := fun m hm =>
      (hst m).trans (State.story_updStory_of_ne (s.promptClosed n) k m _ hm)
    generalize (s.promptClosed n).priorityAt k pr = u at hrun hthis hothers haside htables hscreen
    obtain ⟨hstore, hdesks, hfit, hrest⟩ := haside.settled htables.2
    have hmode : (s.keyedScreen n).mode = .edit := h.mode_eq
    have hkeyed : (s.keyedScreen n).story = some (k, .owner) := hstory
    have hcursor : (s.keyedScreen n).cursor = (s.screen n).cursor := rfl
    generalize s.keyedScreen n = c at hscreen hmode hkeyed hcursor
    exact ⟨_, hrun, hthis, (congrArg Screen.mode hscreen :).trans hmode, (congrArg Screen.story hscreen :).trans hkeyed,
      (congrArg Screen.prompt hscreen :), (congrArg Screen.cursor hscreen :).trans hcursor, hothers, hstore, hdesks, htables.1, hfit, hrest⟩

end Sys2Proof.Machine
end

section
/-! SUPPORT. The keys that act in every state, the turn of a line and the wake (R114, R135, R137, R146, R147). -/

namespace Sys2Proof.Machine

section
variable {s : State} {n : Fin 32}

/-! ## Keys that act alike in every state (R135) -/

/-- A key that does the same with a prompt, in SIGNED_OFF, in DESK, in EDIT and in VIEW. -/
theorem State.takeKey_common (h : s.takesKeys n) (hin : n.val < s.screens.length) (hescape : (s.screen n).escape = 0)
    (hedit : (s.screen n).mode = .edit → ∃ k, (s.screen n).story = some (k, .owner)) {k : Key} {u : State}
    (hprompt : (s.keyOn n id).promptKey n k = u) (hoff : (s.keyOn n id).signedOffKey n k = u)
    (hdesk : (s.keyOn n id).deskKey n k = u) (hview : (s.keyOn n id).viewKey n k = u)
    (hkey : ∀ story, (s.keyOn n id).editKey n story k = u) : (s.turnedTo n).takeKey n ⟨false, k⟩ = u := by
  by_cases hopen : (s.screen n).prompt = .closed
  · by_cases hmode : (s.screen n).mode = .signedOff
    · rw [State.takeKey_of_signedOff h hopen hmode]
      exact hoff
    · rw [State.takeKey_of_sequence h hopen hmode, State.sequenceKey_of_unarmed hin hescape]
      have hkeyed : ((s.keyOn n id).screen n).mode = (s.screen n).mode := by
        rw [State.screen_keyOn hin]
        rfl
      unfold State.stateKey
      rw [hkeyed]
      cases hm : (s.screen n).mode with
      | down => exact absurd hm h.1
      | signedOff => exact absurd hm hmode
      | desk => exact hdesk
      | view => exact hview
      | edit =>
        obtain ⟨story, hstory⟩ := hedit hm
        exact (State.onOwned_keyOn hin hstory (fun _ => rfl) _).trans (hkey story)
  · rw [State.takeKey_of_prompt h hopen]
    exact hprompt

section
variable (h : s.takesKeys n) (hin : n.val < s.screens.length) (hescape : (s.screen n).escape = 0)
  (hedit : (s.screen n).mode = .edit → ∃ k, (s.screen n).story = some (k, .owner))
include h hin hescape hedit

/-- ACK empties the ring list and acknowledges the host message (R135). -/
theorem State.takeKey_ack : (s.turnedTo n).takeKey n (.fn .ack) = s.keyOn n fun c => { c with
      ring := [], ringTimer := none, ringDue := false, hostMessage := c.hostMessage.map fun m => (m.1, false) } := by
  have hack : (s.keyOn n id).acknowledge n = s.keyOn n fun c => { c with
      ring := [], ringTimer := none, ringDue := false, hostMessage := c.hostMessage.map fun m => (m.1, false) } :=
    State.updScreen_keyOn n id _
  rw [← hack]
  exact State.takeKey_common h hin hescape hedit rfl rfl rfl rfl fun _ => rfl

/-- CANCEL closes the prompt (R135). -/
theorem State.takeKey_cancel : (s.turnedTo n).takeKey n (.fn .cancel) = s.keyOn n fun c => { c with
      prompt := .closed, buffer := [], promptArg := none, escape := 0 } := by
  have hcancel : (s.keyOn n id).cancel n = s.keyOn n fun c => { c with
      prompt := .closed, buffer := [], promptArg := none, escape := 0 } := State.updScreen_keyOn n id _
  rw [← hcancel]
  exact State.takeKey_common h hin hescape hedit rfl rfl rfl rfl fun _ => rfl

/-- An unmapped key only rings (R120). -/
theorem State.takeKey_unmapped : (s.turnedTo n).takeKey n ⟨false, .unmapped⟩ = s.keyOn n fun c => { c with
      bells := min 4 (c.bells + 1) } := by
  have hbell : (s.keyOn n id).bell n = s.keyOn n fun c => { c with bells := min 4 (c.bells + 1) } :=
    State.bell_keyOn (f := id) h.1
  rw [← hbell]
  exact State.takeKey_common h hin hescape hedit rfl rfl rfl rfl fun _ => rfl

end

/-! ## The supervisor sequence (R137, R138) -/

theorem State.setEscape_keyOn (f : Screen → Screen) (count : Nat) :
    (s.keyOn n f).setEscape n count = s.keyOn n fun c => { f c with escape := count } := State.updScreen_keyOn n f _

/-- The supervisor code counts to four (R137). -/
theorem State.sequenceKey_of_code (hin : n.val < s.screens.length) (hescape : (s.screen n).escape < 4) (k : Key) :
    (s.keyOn n id).sequenceKey n ⟨true, k⟩ = s.keyOn n fun c => { c with
      escape := (s.screen n).escape + 1
      partMessage := if (s.screen n).escape = 3 then some (str "SUPERVISOR") else none } := by
  have hcount : ((s.keyOn n id).screen n).escape = (s.screen n).escape := by
    rw [State.screen_keyOn hin]
    rfl
  unfold State.sequenceKey
  dsimp only
  rw [hcount, if_neg (Nat.not_le.2 hescape), if_pos rfl]
  by_cases hthree : (s.screen n).escape = 3
  · rw [if_pos hthree, State.setEscape_keyOn, State.tell_keyOn rfl]
    refine State.keyOn_congr ?_
    simp only [hthree]
    rfl
  · rw [if_neg hthree, State.setEscape_keyOn]
    refine State.keyOn_congr ?_
    simp only [if_neg hthree]
    rfl

/-- The key after the fourth supervisor code is a function key, and the count is 0 again (R138). -/
theorem State.sequenceKey_of_armed (hin : n.val < s.screens.length) (hescape : (s.screen n).escape = 4) (k : Struck) :
    (s.keyOn n id).sequenceKey n k = (s.keyOn n fun c => { c with escape := 0 }).functionKey n k.key := by
  have hcount : ((s.keyOn n id).screen n).escape = 4 := by
    rw [State.screen_keyOn hin]
    exact hescape
  unfold State.sequenceKey
  dsimp only
  rw [hcount, if_pos le_rfl, State.setEscape_keyOn]
  rfl

theorem State.atSupervisor_iff : s.atSupervisor n ↔ s.deskHas n Desk.supervisor = true := State.deskHas_iff.symm

/-- A function key at a screen that is not at a supervisor desk is refused (R138). -/
theorem State.functionKey_of_plain {f : Screen → Screen} (hin : n.val < s.screens.length) (hf : ∀ c, (f c).desk = c.desk)
    (hplain : ¬s.atSupervisor n) (k : Key) : (s.keyOn n f).functionKey n k = (s.keyOn n f).deny n (str "NOT PERMITTED") := by
  have hhas : (s.keyOn n f).deskHas n Desk.supervisor = false := by
    rw [State.deskHas_keyOn hin hf, Bool.eq_false_iff]
    exact mt State.atSupervisor_iff.2 hplain
  unfold State.functionKey
  rw [hhas]
  rfl

/-- T opens the take prompt, and M the move prompt (R138). -/
theorem State.functionKey_of_supervisor {f : Screen → Screen} (hin : n.val < s.screens.length) (hf : ∀ c, (f c).desk = c.desk)
    (hsuper : s.atSupervisor n) (hmode : (f (s.keyedScreen n)).mode ≠ .edit) :
    (s.keyOn n f).functionKey n (.char 0x54) = (s.keyOn n f).ask n .superTake [] ∧
      (s.keyOn n f).functionKey n (.char 0x4D) = (s.keyOn n f).ask n .superMoveSlug [] := by
  have hhas : (s.keyOn n f).deskHas n Desk.supervisor = true := by
    rw [State.deskHas_keyOn hin hf]
    exact State.atSupervisor_iff.1 hsuper
  have hnot : ((s.keyOn n f).screen n).mode ≠ .edit := by
    rw [State.screen_keyOn hin]
    exact hmode
  have htake : foldCase 0x54 = 0x54 := by decide
  have hmove : foldCase 0x4D = 0x4D := by decide
  refine ⟨?_, ?_⟩
  · unfold State.functionKey
    rw [hhas, if_neg (by decide)]
    dsimp only
    rw [if_pos htake, if_neg hnot]
  · unfold State.functionKey
    rw [hhas, if_neg (by decide)]
    dsimp only
    rw [hmove, if_neg (by decide), if_pos rfl]

/-! ## The turn of a line (R147) -/

/-- Every key command is one key struck at its screen. -/
theorem IsKeyOf.keyOutcome {c : Instr} (h : IsKeyOf n c) (s : State) : ∃ k, exec c s = keyOutcome n k s := by
  rcases h with ⟨code, hprintable, rfl⟩ | h
  · exact ⟨_, if_pos hprintable⟩
  · simp only [List.mem_cons, List.not_mem_nil, or_false] at h
    rcases h with rfl | rfl | rfl | rfl | rfl | rfl | rfl | rfl | rfl | rfl | rfl | rfl | rfl | rfl | rfl | rfl | rfl | rfl |
      rfl | rfl | rfl | rfl | rfl | rfl | rfl | rfl | rfl | rfl | rfl | rfl <;> exact ⟨_, rfl⟩

theorem State.nextLine_of_turn (h : s.turn n) : s.nextLine = some n.val := by
  obtain ⟨hqueue, i, hi, hn, hbefore⟩ := h
  have hfind : (List.range Config.lines).find? ((fun m => !(s.line m).queue.isEmpty) ∘ fun i => (s.keyTurn + 1 + i) % Config.lines) =
      some i := by
    refine List.find?_range_eq_some.2 ⟨?_, List.mem_range.2 hi, fun j hj => ?_⟩
    · have hline : (s.keyTurn + 1 + i) % Config.lines = n.val := hn.symm
      simp only [Function.comp, hline, Bool.not_eq_true', List.isEmpty_eq_false_iff]
      exact hqueue
    · have hempty := hbefore j hj
      have hline : (s.keyTurn + 1 + j) % Config.lines = (s.keyTurn + 1 + j) % 32 := rfl
      simp [Function.comp, hline, hempty]
  rw [State.nextLine, List.find?_map, hfind, hn]
  rfl

/-- A key of another line is not taken. -/
theorem State.keyTaken_of_other {m : Fin 32} (h : s.turn m) (hm : m ≠ n) (k : Struck) : s.keyTaken n k = s := by
  rw [State.keyTaken, State.nextLine_of_turn h]
  exact if_neg fun hand => hm (Fin.ext hand.1)

/-- A key that is not the oldest of its line is not taken. -/
theorem State.keyTaken_of_not_head (h : s.turn n) {k : Struck} (hhead : s.headIs n k = false) : s.keyTaken n k = s := by
  rw [State.keyTaken, State.nextLine_of_turn h]
  exact if_neg fun hand => by simp [hhead] at hand

/-- The oldest key of the line whose turn it is, taken. -/
theorem State.keyTaken_of_head (h : s.turn n) {k : Struck} (hhead : s.headIs n k = true) :
    s.keyTaken n k = ((s.updLine n Line.dequeue).turnedTo n).takeKey n k := by
  rw [State.keyTaken, State.nextLine_of_turn h]
  exact if_pos ⟨rfl, hhead⟩

theorem State.headIs_cons {q : QueuedKey} {rest : List QueuedKey} (h : (s.line n).queue = q :: rest) (k : Struck) :
    s.headIs n k = ((s.screen n).profile.struck q == k) := by
  rw [State.headIs, h]
  rfl

/-- The code of a mapped key that is not the supervisor code. -/
theorem Profile.struck_mapped {p : Profile} {code : Byte} {f : KeyFn} (hlow : code.toNat < 32) (hsuper : code ≠ p.superCode)
    (hmap : p.keyMap[code.toNat]? = some (some f)) : p.struck (.code code) = .fn f := by
  have hplain : printable code = false := by
    simp only [printable, Bool.and_eq_false_iff, decide_eq_false_iff_not]
    omega
  simp [Profile.struck, Profile.keyOf, hplain, hlow, hmap, hsuper, Struck.fn]

/-! ## The wake (R114) -/

/-- Any key wakes a BLANKED screen and does no more. -/
theorem State.takeKey_of_blanked (hblanked : (s.screen n).blanked = true) (hdown : (s.screen n).mode ≠ .down) (k : Struck) :
    (s.turnedTo n).takeKey n k = (s.turnedTo n).wake n := by
  have hscreen : (s.turnedTo n).screen n = s.screen n := rfl
  unfold State.takeKey
  dsimp only
  rw [hscreen, if_neg hdown, if_pos hblanked]

theorem State.wake_turnedTo (hblanked : (s.screen n).blanked = true) : ∃ top, (s.turnedTo n).wake n =
    { s.updScreen n fun d => { d with
        blanked := false
        idle := if s.idleLimit n = 0 then none else some (s.idleLimit n)
        profileNo := s.lineProfile n
        profile := s.profile (s.lineProfile n)
        clearDue := true
        image := List.replicate (s.profile (s.lineProfile n)).rows
          (List.replicate (s.profile (s.lineProfile n)).cols ⟨0x20, .normal⟩)
        layoutTime := s.clock.time
        top := top } with keyTurn := n.val } := by
  let woken : Screen :=
    { s.adopt n (s.screen n) with blanked := false, idle := loadIdle (s.idleLimit n) }.repaint s.clock.time
  refine ⟨(snapTop (s.turnedTo n) woken).top, State.updScreen_congr (s.turnedTo n) ?_⟩
  have hscreen : (s.turnedTo n).screen n = s.screen n := rfl
  rw [hscreen, if_pos hblanked, snapTop_only]
  rfl

end

end Sys2Proof.Machine
end

section
/-! SUPPORT. The supervisor's take and move (R32, R139, R140), and the keys of every state. -/

namespace Sys2Proof.Machine

section
variable {s : State} {n k p m : Nat} {x : Story}

/-! ## The previous owner's screen (R32) -/

/-- The viewer set of a story taken from screen p. -/
def State.viewersTaken (s : State) (p : Nat) (l : List Nat) : List Nat :=
  if (s.screen p).grace.isSome ∨ 8 ≤ l.length then l else insertNum p l

/-- A screen that was the owner of a story, and is a viewer of it now. -/
def Screen.demoted (k time : Nat) (c : Screen) : Screen :=
  { c.breakOff with
    mode := .view, story := some (k, .viewer), partMessage := some (str "TAKEN"), layoutTime := time }

theorem State.ownerTaken_of_grace (h : (s.screen p).grace.isSome = true) : s.ownerTaken k p = s.updScreen p Screen.dropGrace :=
  if_pos h

theorem State.ownerTaken_of_full (hx : s.story k = some x) (hgrace : (s.screen p).grace.isSome = false)
    (hfull : 8 ≤ x.viewers.length) : s.ownerTaken k p = s.sendToDesk p (str "TAKEN") := by
  rw [State.ownerTaken, if_neg (by simp [hgrace]), hx]
  exact if_pos hfull

theorem State.ownerTaken_of_room (hx : s.story k = some x) (hgrace : (s.screen p).grace.isSome = false)
    (hroom : x.viewers.length < 8) : s.ownerTaken k p = (s.viewed p k).updScreen p (Screen.demoted k s.clock.time) := by
  rw [State.ownerTaken, if_neg (by simp [hgrace]), hx]
  refine (if_neg (Nat.not_le.2 hroom)).trans ?_
  simp only [State.tell, State.updScreen, List.modify_modify_eq]
  rfl

theorem State.ownerTaken_only (hx : s.story k = some x) : s.ownerTaken k p =
    { s with stories := (s.ownerTaken k p).stories, screens := (s.ownerTaken k p).screens } := by
  by_cases hgrace : (s.screen p).grace.isSome = true
  · rw [State.ownerTaken_of_grace hgrace]
    rfl
  · rw [Bool.not_eq_true] at hgrace
    by_cases hfull : 8 ≤ x.viewers.length
    · rw [State.ownerTaken_of_full hx hgrace hfull, State.sendToDesk_only]
    · rw [State.ownerTaken_of_room hx hgrace (Nat.not_le.1 hfull)]
      rfl

theorem State.story_ownerTaken (hx : s.story k = some x) :
    (s.ownerTaken k p).story k = some { x with viewers := s.viewersTaken p x.viewers } := by
  unfold State.viewersTaken
  by_cases hgrace : (s.screen p).grace.isSome = true
  · rw [State.ownerTaken_of_grace hgrace, if_pos (.inl hgrace)]
    exact hx
  · rw [Bool.not_eq_true] at hgrace
    by_cases hfull : 8 ≤ x.viewers.length
    · rw [State.ownerTaken_of_full hx hgrace hfull, if_pos (.inr hfull), State.sendToDesk_only]
      exact hx
    · rw [State.ownerTaken_of_room hx hgrace (Nat.not_le.1 hfull), if_neg (by simp [hgrace, Nat.not_le.1 hfull])]
      exact State.story_viewed hx

theorem State.story_ownerTaken_of_ne (hx : s.story k = some x) (hm : m ≠ k) : (s.ownerTaken k p).story m = s.story m := by
  by_cases hgrace : (s.screen p).grace.isSome = true
  · rw [State.ownerTaken_of_grace hgrace]
    rfl
  · rw [Bool.not_eq_true] at hgrace
    by_cases hfull : 8 ≤ x.viewers.length
    · rw [State.ownerTaken_of_full hx hgrace hfull, State.sendToDesk_only]
      rfl
    · rw [State.ownerTaken_of_room hx hgrace (Nat.not_le.1 hfull)]
      exact State.story_viewed_of_ne hm

theorem State.screen_ownerTaken_of_ne (hx : s.story k = some x) (hm : m ≠ p) : (s.ownerTaken k p).screen m = s.screen m := by
  by_cases hgrace : (s.screen p).grace.isSome = true
  · rw [State.ownerTaken_of_grace hgrace, State.screen_updScreen_of_ne _ _ _ _ hm]
  · rw [Bool.not_eq_true] at hgrace
    by_cases hfull : 8 ≤ x.viewers.length
    · rw [State.ownerTaken_of_full hx hgrace hfull, State.screen_sendToDesk_of_ne hm]
    · rw [State.ownerTaken_of_room hx hgrace (Nat.not_le.1 hfull), State.screen_updScreen_of_ne _ _ _ _ hm]
      rfl

theorem State.screen_ownerTaken_of_grace (hp : p < s.screens.length) (hgrace : (s.screen p).grace.isSome = true) :
    (s.ownerTaken k p).screen p = (s.screen p).dropGrace := by
  rw [State.ownerTaken_of_grace hgrace, State.screen_updScreen _ _ _ hp]

theorem State.screen_ownerTaken_of_room (hp : p < s.screens.length) (hx : s.story k = some x)
    (hgrace : (s.screen p).grace.isSome = false) (hroom : x.viewers.length < 8) :
    (s.ownerTaken k p).screen p = (s.screen p).demoted k s.clock.time := by
  rw [State.ownerTaken_of_room hx hgrace hroom]
  exact State.screen_updScreen (s.viewed p k) p _ hp

theorem State.screen_ownerTaken_of_full {d : Nat} (hp : p < s.screens.length) (hx : s.story k = some x)
    (hgrace : (s.screen p).grace.isSome = false) (hfull : 8 ≤ x.viewers.length) (hd : (s.screen p).desk = some d) :
    ((s.ownerTaken k p).screen p).atDeskTold d (str "TAKEN") := by
  rw [State.ownerTaken_of_full hx hgrace hfull]
  exact State.screen_sendToDesk hp hd

/-! ## The viewer that leaves -/

/-- The records of the stories that a screen no longer views. -/
theorem State.story_stopViewing (j : Nat) : (s.stopViewing n).story j =
    if (s.screen n).story = some (j, .viewer) then
      (s.story j).map fun y => { y with viewers := y.viewers.filter (· != n) }
    else s.story j := by
  unfold State.stopViewing
  split
  · next i heq =>
    rw [heq, State.leaveViewers]
    by_cases hj : j = i
    · subst hj
      rw [if_pos rfl, State.story_updStory]
      rfl
    · rw [if_neg (by simpa using Ne.symm hj), State.story_updStory_of_ne _ _ _ _ hj]
  · next hne => rw [if_neg (hne j)]

/-! ## The take (R32, R139) -/

/-- What becomes of the screen that had a story when it is taken. -/
def State.takenFrom (s : State) (k : Nat) : Option Nat → State
  | some p => s.ownerTaken k p
  | none => s

/-- The viewer set of a story that is taken from its owner, if it has one. -/
def State.viewersLeft (s : State) (l : List Nat) : Option Nat → List Nat
  | some p => s.viewersTaken p l
  | none => l

theorem State.takenFrom_only (hx : s.story k = some x) (o : Option Nat) : s.takenFrom k o =
    { s with stories := (s.takenFrom k o).stories, screens := (s.takenFrom k o).screens } := by
  cases o with
  | none => rfl
  | some p => exact State.ownerTaken_only hx

theorem State.story_takenFrom (hx : s.story k = some x) (o : Option Nat) :
    (s.takenFrom k o).story k = some { x with viewers := s.viewersLeft x.viewers o } := by
  cases o with
  | none => exact hx
  | some p => exact State.story_ownerTaken hx

theorem State.story_takenFrom_of_ne (hx : s.story k = some x) (hm : m ≠ k) (o : Option Nat) :
    (s.takenFrom k o).story m = s.story m := by
  cases o with
  | none => rfl
  | some p => exact State.story_ownerTaken_of_ne hx hm

theorem State.screen_takenFrom_of_ne (hx : s.story k = some x) {o : Option Nat} (hm : o ≠ some m) :
    (s.takenFrom k o).screen m = s.screen m := by
  cases o with
  | none => rfl
  | some p => exact State.screen_ownerTaken_of_ne hx fun h => hm (h ▸ rfl)

/-- A screen that becomes the owner of a story, which keeps its place where it viewed it. -/
def Screen.asOwner (k : Nat) (kept : Bool) (c : Screen) : Screen :=
  { (if kept then c else { c.dropStory with selection := none, basketTop := 0 }) with mode := .edit, story := some (k, .owner) }

theorem Screen.prompt_asOwner (k : Nat) (kept : Bool) (c : Screen) : (c.asOwner k kept).prompt = c.prompt := by
  cases kept <;> rfl

theorem State.take_eq (hx : s.story k = some x) : s.take k n =
    ((((((s.stopViewing n).takenFrom k x.owner).updStory k fun x => { x with owner := some n }).updScreen n
      (Screen.asOwner k ((s.screen n).story == some (k, .viewer))))).reportDesk x.desk).touchStory k := by
  unfold State.take
  simp only [hx]
  congr 2
  cases (s.screen n).story == some (k, .viewer) <;> rfl

/-- What a take leaves: the story at its new owner, whose screen is in EDIT of it, and the previous owner's screen as told. -/
structure Takes (s u : State) (n k : Nat) (x : Story) (viewers : List Nat) : Prop where
  stopped : (s.stopViewing n).story k = some { x with viewers := viewers }
  aside : Aside s u
  baskets : u.baskets = s.baskets
  host_eq : u.host = s.host
  story_eq : u.story k = some { x with owner := some n, viewers := s.viewersLeft viewers x.owner }
  others : ∀ j, j ≠ k → u.story j = (s.stopViewing n).story j
  taker : ∀ d, (s.screen n).desk = some d → (u.screen n).kept = ((s.screen n).asOwner k ((s.screen n).story == some (k, .viewer))).kept
  previous : ∀ p, p ≠ n → x.owner = some p → (u.screen p).kept = (((s.stopViewing n).ownerTaken k p).screen p).kept

theorem State.story_stopped (hx : s.story k = some x) : (s.stopViewing n).story k = some { x with
    viewers := if (s.screen n).story = some (k, .viewer) then x.viewers.filter (· != n) else x.viewers } := by
  rw [State.story_stopViewing, hx]
  split <;> rfl

theorem State.screens_stopViewing (n : Nat) : (s.stopViewing n).screens = s.screens := by rw [State.stopViewing_only]

theorem State.takes_take (hx : s.story k = some x) (howner : x.owner ≠ some n) :
    Takes s (s.take k n) n k x
      (if (s.screen n).story = some (k, .viewer) then x.viewers.filter (· != n) else x.viewers) := by
  have hstop := State.story_stopped (n := n) hx
  have hscreens : ∀ m, (s.stopViewing n).screen m = s.screen m := fun m => by rw [State.stopViewing_only]; rfl
  have hviewers : ∀ l, (s.stopViewing n).viewersLeft l x.owner = s.viewersLeft l x.owner := fun l => by
    cases x.owner with
    | none => rfl
    | some p => rw [State.viewersLeft, State.viewersLeft, State.viewersTaken, State.viewersTaken, hscreens]
  have honly := State.takenFrom_only hstop x.owner
  have hstory := State.story_takenFrom hstop x.owner
  have hothers := fun j hj => State.story_takenFrom_of_ne (m := j) hstop hj x.owner
  have htaker := (State.screen_takenFrom_of_ne hstop howner).trans (hscreens n)
  have hprevious : ∀ p, x.owner = some p →
      (s.stopViewing n).takenFrom k x.owner = (s.stopViewing n).ownerTaken k p := fun p hp => by rw [hp]; rfl
  have haside : Aside s ((s.stopViewing n).takenFrom k x.owner) ∧
      ((s.stopViewing n).takenFrom k x.owner).baskets = s.baskets ∧
      ((s.stopViewing n).takenFrom k x.owner).host = s.host := by
    rw [honly, State.stopViewing_only]
    exact ⟨.tables .., rfl, rfl⟩
  rw [State.take_eq hx]
  generalize (s.stopViewing n).takenFrom k x.owner = u at *
  have hkept : ∀ m, ((((((u.updStory k fun x => { x with owner := some n }).updScreen n
      (Screen.asOwner k ((s.screen n).story == some (k, .viewer))))).reportDesk x.desk).touchStory k).screen m).kept =
      ((u.updScreen n (Screen.asOwner k ((s.screen n).story == some (k, .viewer)))).screen m).kept :=
    fun m => (State.screen_touchStory_kept _ k m).trans (State.screen_reportDesk_kept x.desk m)
  have hst : ∀ m, ((((((u.updStory k fun x => { x with owner := some n }).updScreen n
      (Screen.asOwner k ((s.screen n).story == some (k, .viewer))))).reportDesk x.desk).touchStory k).story m) =
      (u.updStory k fun x => { x with owner := some n }).story m := fun m => by
    rw [State.story, State.touchStory_stories]
    rfl
  obtain ⟨haside, hbaskets, hhost⟩ := haside
  refine ⟨hstop, ?_, ?_, ?_, ?_, fun j hj => ?_, fun d hd => ?_, fun p hp howned => ?_⟩
  · rw [State.touchStory_only]
    exact haside.trans (.tables ..)
  · rw [State.touchStory_only]
    exact hbaskets
  · rw [State.touchStory_only]
    exact hhost
  · rw [hst, State.story_updStory, hstory, ← hviewers]
    rfl
  · rw [hst, State.story_updStory_of_ne _ _ _ _ hj, hothers j hj]
  · have hin : n < u.screens.length := State.lt_of_desk (e := d) (by rw [htaker]; exact hd)
    rw [hkept, State.screen_updScreen _ _ _ hin, htaker]
  · rw [hkept, State.screen_updScreen_of_ne _ _ _ _ hp, hprevious p howned]

section
variable {u : State} {viewers : List Nat}

theorem Takes.previous_of_grace (h : Takes s u n k x viewers) (hp : p ≠ n) (hin : p < s.screens.length) (howned : x.owner = some p)
    (hgrace : (s.screen p).grace.isSome = true) :
    s.viewersLeft viewers x.owner = viewers ∧ (u.screen p).kept = (s.screen p).dropGrace.kept := by
  have hscreen : (s.stopViewing n).screen p = s.screen p := by rw [State.screen, State.screens_stopViewing]; rfl
  rw [h.previous p hp howned, State.screen_ownerTaken_of_grace (by rw [State.screens_stopViewing]; exact hin) (by rw [hscreen]; exact hgrace),
    hscreen, howned]
  exact ⟨if_pos (.inl hgrace), rfl⟩

theorem Takes.previous_of_room (h : Takes s u n k x viewers) (hp : p ≠ n) (hin : p < s.screens.length) (howned : x.owner = some p)
    (hgrace : (s.screen p).grace.isSome = false) (hroom : viewers.length < 8) :
    s.viewersLeft viewers x.owner = insertNum p viewers ∧
      (u.screen p).kept = ((s.screen p).demoted k (s.stopViewing n).clock.time).kept := by
  have hscreen : (s.stopViewing n).screen p = s.screen p := by rw [State.screen, State.screens_stopViewing]; rfl
  rw [h.previous p hp howned, State.screen_ownerTaken_of_room (by rw [State.screens_stopViewing]; exact hin) h.stopped
    (by rw [hscreen]; exact hgrace) hroom, hscreen, howned]
  exact ⟨if_neg (by simp [hgrace, hroom]), rfl⟩

theorem Takes.previous_of_full {d : Nat} (h : Takes s u n k x viewers) (hp : p ≠ n) (hin : p < s.screens.length)
    (howned : x.owner = some p) (hgrace : (s.screen p).grace.isSome = false) (hfull : 8 ≤ viewers.length)
    (hd : (s.screen p).desk = some d) :
    s.viewersLeft viewers x.owner = viewers ∧ ∃ c : Screen, (u.screen p).kept = c.kept ∧ c.atDeskTold d (str "TAKEN") := by
  have hscreen : (s.stopViewing n).screen p = s.screen p := by rw [State.screen, State.screens_stopViewing]; rfl
  refine ⟨by rw [howned]; exact if_pos (.inr hfull), _, h.previous p hp howned, ?_⟩
  exact State.screen_ownerTaken_of_full (by rw [State.screens_stopViewing]; exact hin) h.stopped (by rw [hscreen]; exact hgrace) hfull
    (by rw [hscreen]; exact hd)

end

/-! ## What the take and the move are asked for (R139, R140) -/

theorem State.namedStory_of_typed {n : Fin 32} (h : s.typed n k x) : s.namedStory (s.screen n).buffer = .ok k := by
  obtain ⟨hk, hx, hmin, hmax, hcodes, hslug, hunique⟩ := h
  have hfind : s.findSlug ((s.screen n).buffer.map foldCase) = some k := by
    rw [← hslug]
    exact State.findSlug_eq_some hk hx hunique
  rw [State.namedStory, slugOf_eq_some hmin hmax hcodes]
  dsimp only
  rw [hfind]

section
variable {n : Fin 32} {e : Nat} {mode : Mode} {prompt : Prompt}

theorem State.namedStory_promptClosed (buffer : List Byte) : (s.promptClosed n).namedStory buffer = s.namedStory buffer := by
  have hfind : (s.promptClosed n).findSlug = s.findSlug := by
    funext slug
    unfold State.findSlug
    rfl
  unfold State.namedStory
  rw [hfind]

theorem State.atKeys.supervises (h : s.atKeys n mode prompt e) (hsuper : s.atSupervisor n) :
    (s.promptClosed n).deskHas n Desk.supervisor = true :=
  (State.deskHas_keyOn (f := Screen.closePrompt) h.lt fun _ => rfl).trans (State.atSupervisor_iff.1 hsuper)

theorem State.atKeys.takeAt_of_plain (h : s.atKeys n mode prompt e) (hplain : ¬s.atSupervisor n) (buffer : List Byte) :
    (s.promptClosed n).takeAt n buffer = (s.promptClosed n).deny n (str "NOT PERMITTED") := by
  have hhas : (s.promptClosed n).deskHas n Desk.supervisor = false :=
    (State.deskHas_keyOn (f := Screen.closePrompt) h.lt fun _ => rfl).trans
      (Bool.eq_false_iff.2 (mt State.atSupervisor_iff.2 hplain))
  unfold State.takeAt
  rw [hhas]
  rfl

theorem State.atKeys.takeAt_of_typed (h : s.atKeys n mode prompt e) (hsuper : s.atSupervisor n) (ht : s.typed n k x) :
    (s.promptClosed n).takeAt n (s.screen n).buffer =
      if x.state = .open_ then (s.promptClosed n).take k n else (s.promptClosed n).deny n (str "NOT OPEN") := by
  have hx : (s.promptClosed n).story k = some x := ht.2.1
  have hname : (s.promptClosed n).namedStory (s.screen n).buffer = .ok k :=
    (State.namedStory_promptClosed _).trans (State.namedStory_of_typed ht)
  unfold State.takeAt
  rw [h.supervises hsuper, if_neg (by decide), hname]
  dsimp only
  simp only [hx, Option.any_some, beq_iff_eq]

theorem State.atKeys.moveSlugAt_of_typed (h : s.atKeys n mode prompt e) (hsuper : s.atSupervisor n) (ht : s.typed n k x) :
    (s.promptClosed n).moveSlugAt n (s.screen n).buffer =
      if x.state = .queued then
        s.keyOn n fun c => { c with prompt := .superMoveDesk, buffer := [], promptArg := some k }
      else (s.promptClosed n).deny n (str "NOT QUEUED") := by
  have hx : (s.promptClosed n).story k = some x := ht.2.1
  have hname : (s.promptClosed n).namedStory (s.screen n).buffer = .ok k :=
    (State.namedStory_promptClosed _).trans (State.namedStory_of_typed ht)
  have hask : ((s.promptClosed n).ask n .superMoveDesk []).updScreen n (fun c => { c with promptArg := some k }) =
      s.keyOn n fun c => { c with prompt := .superMoveDesk, buffer := [], promptArg := some k } := by
    rw [State.ask, State.promptClosed, State.updScreen_keyOn, State.updScreen_keyOn]
    rfl
  unfold State.moveSlugAt
  rw [h.supervises hsuper, if_neg (by decide), hname]
  dsimp only
  simp only [hx, Option.any_some, beq_iff_eq, hask]

section
variable {buffer : List Byte} (h : s.atKeys n mode prompt e) (hsuper : s.atSupervisor n) (hx : s.story k = some x)
  (hne : buffer ≠ []) (hlt : ofDigits buffer < 16)
include h hsuper hx hne hlt

theorem State.atKeys.moveDeskAt_of_none (hnone : s.desk (ofDigits buffer) = none) :
    (s.promptClosed n).moveDeskAt n buffer (some k) = (s.promptClosed n).deny n (str "NO DESK") := by
  have hfilter : (some k).filter (fun k => ((s.promptClosed n).story k).isSome) = some k := by
    have hsome : ((s.promptClosed n).story k).isSome = true := Option.isSome_iff_exists.2 ⟨x, hx⟩
    simp [hsome]
  unfold State.moveDeskAt
  rw [if_neg (not_or.2 ⟨hne, by omega⟩), h.supervises hsuper, if_neg (by decide), hfilter]
  exact if_pos (Option.isNone_iff_eq_none.2 hnone)

theorem State.atKeys.moveDeskAt_of_desk (hdesk : (s.desk (ofDigits buffer)).isSome = true) :
    (∀ u, (s.promptClosed n).moveStory k (ofDigits buffer) (some n.val) = .ok u →
      (s.promptClosed n).moveDeskAt n buffer (some k) = u.tell n (str "MOVED")) ∧
    ∀ r, (s.promptClosed n).moveStory k (ofDigits buffer) (some n.val) = .error r →
      (s.promptClosed n).moveDeskAt n buffer (some k) = (s.promptClosed n).deny n (moveMessage r) := by
  have hfilter : (some k).filter (fun k => ((s.promptClosed n).story k).isSome) = some k := by
    have hsome : ((s.promptClosed n).story k).isSome = true := Option.isSome_iff_exists.2 ⟨x, hx⟩
    simp [hsome]
  have hnone : ¬((s.promptClosed n).desk (ofDigits buffer)).isNone = true := fun h =>
    Option.isSome_iff_ne_none.1 hdesk (Option.isNone_iff_eq_none.1 h)
  unfold State.moveDeskAt
  rw [if_neg (not_or.2 ⟨hne, by omega⟩), h.supervises hsuper, if_neg (by decide), hfilter]
  dsimp only
  rw [if_neg hnone]
  exact ⟨fun u hu => by rw [hu], fun r hr => by rw [hr]⟩

end

end

end

/-! ## The obligation -/

/-- A key that arrives with none waiting, at a screen that is not DOWN. -/
theorem State.atKeys.keyOutcome_common {s u : State} {n : Fin 32} {mode : Mode} {prompt : Prompt} {e : Nat}
    (h : s.atKeys n mode prompt e) {k : Struck} (htaken : (s.turnedTo n).takeKey n k = u) :
    keyOutcome n k s = .next u.settle := by rw [keyOutcome, h.keyTaken, htaken]

/-- ENTER on the SUPER_TAKE prompt takes the story. -/
theorem takes_of_typed {s : State} {n : Fin 32} {e k : Nat} {mode : Mode} {x : Story} (h : s.atKeys n mode .superTake e)
    (hdown : mode ≠ .down) (hsuper : s.atSupervisor n) (ht : s.typed n k x) (hopen : x.state = .open_) :
    exec (.keyEnter n) s = .next ((s.promptClosed n).take k n).settle :=
  (h.keyEnter hdown (by decide)).trans (next_settle_congr (h.complete_eq.trans ((h.takeAt_of_typed hsuper ht).trans (if_pos hopen))))

/-- Settles O54: the keys by `State.takeKey_common`, the sequence by `State.sequenceKey_of_code` and `State.sequenceKey_of_armed`, the
turn by `State.nextLine_of_turn`, the take by `State.takes_take` and the move by `State.moves_moved`. -/
theorem keysOfEveryState : Obligations.KeysOfEveryState := by
  refine ⟨fun n mode prompt e s h hdown => ⟨?_, ?_, ?_⟩, fun n c s hkey => ⟨fun m hm hne => ?_, ?_⟩, ?_, ?_, ?_⟩
  · rintro rfl hedit
    have hedit' : (s.screen n).mode = .edit → ∃ k, (s.screen n).story = some (k, .owner) := fun hm => hedit (h.mode_eq.symm.trans hm)
    have htakes := h.takesKeys hdown
    exact ⟨h.keyOutcome_common (State.takeKey_ack htakes h.lt h.escape_eq hedit'),
      h.keyOutcome_common (State.takeKey_cancel htakes h.lt h.escape_eq hedit'),
      h.keyOutcome_common (State.takeKey_unmapped htakes h.lt h.escape_eq hedit')⟩
  · rintro he rfl hoff
    have hcode : (s.screen n).profile.struck (.code (s.screen n).profile.superCode) =
        ⟨true, (s.screen n).profile.keyOf (s.screen n).profile.superCode⟩ := by simp [Profile.struck]
    have hrun := h.keyOutcome_sequence hdown hoff
      ⟨true, (s.screen n).profile.keyOf (s.screen n).profile.superCode⟩
    rw [State.sequenceKey_of_code h.lt (by rw [h.escape_eq]; exact he), h.escape_eq, ← hcode] at hrun
    exact hrun
  · rintro rfl rfl rfl
    have hrun : ∀ code, printable code = true → exec (.keyPrintable n code) s =
        .next ((s.keyOn n fun c => { c with escape := 0 }).functionKey n (.char code)).settle := by
      intro code hprintable
      have hexec : exec (.keyPrintable n code) s = execKeyPrintable n code s := rfl
      have hkey : ((s.screen n).profile.struck (.code code)).key = .char code := by
        simp [Profile.struck, Profile.keyOf, hprintable]
      rw [hexec, execKeyPrintable, if_pos hprintable, h.keyOutcome_sequence (by decide) (by decide),
        State.sequenceKey_of_armed h.lt h.escape_eq, hkey]
    have hmode : (s.keyedScreen n).mode ≠ .edit := h.mode_eq.trans_ne (by decide)
    refine ⟨fun hsuper => ?_, fun hplain => ?_⟩
    · obtain ⟨htake, hmove⟩ := State.functionKey_of_supervisor (f := fun c => { c with escape := 0 }) h.lt (fun _ => rfl) hsuper hmode
      rw [hrun _ (by decide), hrun _ (by decide), htake, hmove, State.ask, State.ask, State.updScreen_keyOn, State.updScreen_keyOn]
      exact ⟨rfl, rfl⟩
    · rw [hrun _ (by decide), State.functionKey_of_plain (f := fun c => { c with escape := 0 }) h.lt (fun _ => rfl) hplain]
      exact next_settle_congr (State.deny_keyOn (f := fun c => { c with escape := 0 }) (h.mode_eq.trans_ne hdown) rfl _)
  · obtain ⟨k, hk⟩ := hkey.keyOutcome s
    rw [hk, keyOutcome, State.keyTaken_of_other hm hne]
  · intro hwaits hup hin hblanked hdown
    obtain ⟨k, hk⟩ := hkey.keyOutcome s
    obtain ⟨top, htop⟩ := State.wake_turnedTo (s := s) hblanked
    have htaken : s.keyTaken n k = (s.turnedTo n).takeKey n k := by
      rw [State.keyTaken, State.nextLine_eq_none hwaits]
      exact if_pos hup
    exact ⟨top, by rw [hk, keyOutcome, htaken, State.takeKey_of_blanked hblanked hdown, htop]⟩
  · rintro n q rest s t hturn hqueue hline hin hdown hblanked hescape hedit ht
    have hdequeued : s.updLine n Line.dequeue = t := by
      rw [ht]
      refine s.updLine_congr ?_
      rw [Line.dequeue, hqueue]
      rfl
    have htakes : t.takesKeys n := by
      rw [ht]
      exact ⟨hdown, hblanked⟩
    have hin' : n.val < t.screens.length := by rw [ht]; exact hin
    have hescape' : (t.screen n).escape = 0 := by rw [ht]; exact hescape
    have hedit' : (t.screen n).mode = .edit → ∃ k, (t.screen n).story = some (k, .owner) := by rw [ht]; exact hedit
    have htaken : ∀ k u, s.headIs n k = true → (t.turnedTo n).takeKey n k = u → keyOutcome n k s = .next u.settle := by
      intro k u hhead hu
      rw [keyOutcome, State.keyTaken_of_head hturn hhead, hdequeued, hu]
    have hkept : ∀ k, s.headIs n k = false → keyOutcome n k s = .next s.settle := fun k hhead => by
      rw [keyOutcome, State.keyTaken_of_not_head hturn hhead]
    refine ⟨?_, fun code hq hlow hsuper hmap => ?_⟩
    · rintro rfl
      have hstruck : (s.screen n).profile.struck .brk = .fn .cancel := rfl
      exact ⟨htaken _ _ (by rw [State.headIs_cons hqueue, hstruck]; decide) (State.takeKey_cancel htakes hin' hescape' hedit'),
        hkept _ (by rw [State.headIs_cons hqueue, hstruck]; decide)⟩
    · subst hq
      have hstruck := Profile.struck_mapped hlow hsuper hmap
      exact ⟨htaken _ _ (by rw [State.headIs_cons hqueue, hstruck]; decide) (State.takeKey_ack htakes hin' hescape' hedit'),
        hkept _ (by rw [State.headIs_cons hqueue, hstruck]; decide)⟩
  · intro n e mode s h hmode
    have hdown : mode ≠ .down := by rcases hmode with rfl | rfl <;> decide
    refine ⟨fun k x viewers hsuper ht hopen howner hlength hviewers => ?_, fun k x hsuper ht hclosed => ?_, fun hplain => ?_⟩
    · have hrun := takes_of_typed h hdown hsuper ht hopen
      obtain ⟨-, hx, -⟩ := ht
      obtain ⟨d, hd, -⟩ := hsuper
      have hscreen := State.screen_promptClosed h
      have hothers : ∀ m : Fin 32, m ≠ n → (s.promptClosed n).screen m = s.screen m := fun m hm =>
        State.screen_keyOn_of_ne (fun heq => hm (Fin.ext heq))
      have hstory : ((s.promptClosed n).screen n).story = (s.screen n).story := by rw [hscreen]; rfl
      have hdesk : ((s.promptClosed n).screen n).desk = some d := by rw [hscreen]; exact hd
      have hstop : ∀ j, ((s.promptClosed n).stopViewing n).story j = if (s.screen n).story = some (j, .viewer) then
          (s.story j).map fun y => { y with viewers := y.viewers.filter (· != n.val) } else s.story j := fun j => by
        rw [State.story_stopViewing, hstory]
        rfl
      have htakes := State.takes_take (s := s.promptClosed n) hx howner
      rw [hstory, ← hviewers] at htakes
      have htaker := htakes.taker d hdesk
      rw [hstory, hscreen] at htaker
      have hprevious : ∀ p : Fin 32, x.owner = some p.val → p ≠ n ∧ p.val < (s.promptClosed n).screens.length := fun p hp =>
        ⟨fun heq => howner (heq ▸ hp), by
          rw [State.promptClosed, State.keyOn, List.length_modify, hlength]
          exact p.isLt⟩
      have hkept := State.screen_settle_kept ((s.promptClosed n).take k n)
      have haside : Aside s ((s.promptClosed n).take k n) := .of_keyOn htakes.aside
      obtain ⟨hstore, hdesks, hfit, hrest⟩ := haside.settled htakes.host_eq
      generalize (s.promptClosed n).take k n = u at *
      have hc : (u.settle.screen n).kept = _ := (hkept n).trans htaker
      have hprompt : (s.keyedScreen n).closePrompt.prompt = .closed := rfl
      have hcursor : (s.keyedScreen n).closePrompt.cursor = (s.screen n).cursor := rfl
      have htop : (s.keyedScreen n).closePrompt.top = (s.screen n).top := rfl
      generalize (s.keyedScreen n).closePrompt = c at hc hprompt hcursor htop
      refine ⟨u.settle, (s.promptClosed n).viewersLeft viewers x.owner, hrun, htakes.story_eq, ?_, ?_, ?_, fun hviewed => ?_,
        fun hnot => ?_, fun j y hj hviewed hy => ?_, fun hnone => ?_, fun p hp => ⟨fun hgrace => ?_, fun hgrace hroom => ?_,
        fun e hgrace hfull he => ?_⟩, fun j hj hnot => ?_, hstore, hdesks, htakes.baskets, hfit, hrest⟩
      · exact (congrArg Screen.mode hc :)
      · exact (congrArg Screen.story hc :)
      · exact (congrArg Screen.prompt hc :).trans ((Screen.prompt_asOwner k _ c).trans hprompt)
      · rw [hviewed, beq_self_eq_true] at hc
        exact ⟨(congrArg Screen.cursor hc :).trans hcursor, (congrArg Screen.top hc :).trans htop⟩
      · rw [beq_eq_false_iff_ne.2 hnot] at hc
        exact ⟨(congrArg Screen.cursor hc :), (congrArg Screen.top hc :)⟩
      · have hleft := (htakes.others j hj).trans (hstop j)
        rw [if_pos hviewed, hy] at hleft
        exact hleft
      · rw [hnone]
        rfl
      · obtain ⟨hne, hin⟩ := hprevious p hp
        obtain ⟨hafter, hscreen⟩ := htakes.previous_of_grace (Fin.val_ne_of_ne hne) hin hp (by rw [hothers p hne]; exact hgrace)
        rw [hothers p hne] at hscreen
        have hpc := (hkept p).trans hscreen
        exact ⟨hafter, (congrArg Screen.grace hpc :), (congrArg Screen.story hpc :), (congrArg Screen.desk hpc :),
          (congrArg Screen.mode hpc :)⟩
      · obtain ⟨hne, hin⟩ := hprevious p hp
        obtain ⟨hafter, hscreen⟩ := htakes.previous_of_room (Fin.val_ne_of_ne hne) hin hp (by rw [hothers p hne, hgrace]; rfl) hroom
        rw [hothers p hne] at hscreen
        have hpc := (hkept p).trans hscreen
        exact ⟨fun m => by rw [hafter]; exact mem_insertNum, (congrArg Screen.mode hpc :), (congrArg Screen.story hpc :),
          (congrArg Screen.cursor hpc :), (congrArg Screen.partMessage hpc :), (congrArg Screen.prompt hpc :)⟩
      · obtain ⟨hne, hin⟩ := hprevious p hp
        obtain ⟨hafter, c', hscreen, hmode', -, hstory', hmessage⟩ := htakes.previous_of_full (Fin.val_ne_of_ne hne) hin hp
          (by rw [hothers p hne, hgrace]; rfl) hfull (by rw [hothers p hne]; exact he)
        have hpc := (hkept p).trans hscreen
        exact ⟨hafter, (congrArg Screen.mode hpc :).trans hmode', (congrArg Screen.story hpc :).trans hstory',
          (congrArg Screen.partMessage hpc :).trans hmessage⟩
      · exact (htakes.others j hj).trans ((hstop j).trans (if_neg hnot))
    · rw [h.keyEnter hdown (by decide), h.complete_eq]
      exact next_settle_congr ((h.takeAt_of_typed hsuper ht).trans ((if_neg hclosed).trans (State.deny_promptClosed h hdown _)))
    · rw [h.keyEnter hdown (by decide), h.complete_eq]
      exact next_settle_congr ((h.takeAt_of_plain hplain _).trans (State.deny_promptClosed h hdown _))
  · intro n e k mode x s hdown hoff hsuper hx
    refine ⟨fun h ht => ⟨fun hq => ?_, fun hq => ?_⟩, fun d h harg hne hd hlt => ?_⟩
    · rw [h.keyEnter hdown (by decide), h.complete_eq]
      exact next_settle_congr ((h.moveSlugAt_of_typed hsuper ht).trans (if_pos hq))
    · rw [h.keyEnter hdown (by decide), h.complete_eq]
      exact next_settle_congr ((h.moveSlugAt_of_typed hsuper ht).trans ((if_neg hq).trans (State.deny_promptClosed h hdown _)))
    · subst hd
      have hrun := h.keyEnter hdown (by decide)
      rw [h.complete_eq, harg] at hrun
      have hdeny := State.deny_promptClosed h hdown
      refine ⟨fun hnone => ?_, fun hdesk hq => ?_, fun hdesk hq hsame => ?_, fun hdesk hq hother hfull => ?_,
        fun hdesk hq hother hroom hlength => ?_⟩
      · exact hrun.trans (next_settle_congr ((h.moveDeskAt_of_none hsuper hx hne hlt hnone).trans (hdeny _)))
      · obtain ⟨-, herror⟩ := h.moveDeskAt_of_desk hsuper hx hne hlt hdesk
        exact hrun.trans (next_settle_congr
          ((herror _ (State.moveStory_of_not_queued (s := s.promptClosed n) hx hq)).trans (hdeny _)))
      · obtain ⟨hok, -⟩ := h.moveDeskAt_of_desk hsuper hx hne hlt hdesk
        exact hrun.trans (next_settle_congr
          ((hok _ (State.moveStory_of_same (s := s.promptClosed n) hx hq hsame)).trans (State.tell_promptClosed _)))
      · obtain ⟨-, herror⟩ := h.moveDeskAt_of_desk hsuper hx hne hlt hdesk
        exact hrun.trans (next_settle_congr
          ((herror _ (State.moveStory_of_full (s := s.promptClosed n) hx hq hother hfull)).trans (hdeny _)))
      · obtain ⟨hok, -⟩ := h.moveDeskAt_of_desk hsuper hx hne hlt hdesk
        have hrun' := hrun.trans (next_settle_congr
          (hok _ (State.moveStory_of_room (s := s.promptClosed n) hx hq hother hroom)))
        have hmoves := State.moves_moved (s := s.promptClosed n) (cause := some n.val) hx hother
        obtain ⟨e, he, -⟩ := hsuper
        have hscreen := State.screen_promptClosed h
        have htask := hmoves.task n
        rw [hscreen] at htask
        have hmode : (s.keyedScreen n).closePrompt.mode = mode := h.mode_eq
        have hdeskAt : (s.keyedScreen n).closePrompt.desk = some e := he
        have hprompt : (s.keyedScreen n).closePrompt.prompt = .closed := rfl
        generalize (s.keyedScreen n).closePrompt = c at htask hmode hdeskAt hprompt
        generalize (s.promptClosed n).moved k (ofDigits (s.screen n).buffer) (some n.val) = u at hrun' hmoves htask
        have hin : n.val < u.screens.length := State.lt_of_desk ((congrArg Screen.desk htask :).trans hdeskAt)
        have hkept := State.screen_settle_kept (u.tell n (str "MOVED")) n
        rw [State.tell, State.screen_updScreen _ _ _ hin] at hkept
        have haside : Aside s (u.tell n (str "MOVED")) := (Aside.of_keyOn hmoves.aside).trans (.tables ..)
        obtain ⟨hstore, hdesks, hfit, hrest⟩ := haside.settled hmoves.host_eq
        refine ⟨_, hrun', hmoves.story_eq, hmoves.left, ?_, hmoves.elsewhere, hmoves.others, (congrArg Screen.partMessage hkept :),
          (congrArg Screen.prompt hkept :).trans ?_, (congrArg Screen.mode hkept :).trans ?_, hstore, hdesks, hfit, hrest⟩
        · exact (hmoves.joins (by rw [State.promptClosed]; exact hlt.trans_eq hlength.symm)).of_priority fun _ => rfl
        · exact (congrArg Screen.prompt htask :).trans hprompt
        · exact (congrArg Screen.mode htask :).trans hmode

end Sys2Proof.Machine
end

section
/-! SUPPORT. The end of a page: its stories go back, the link ends its galley, and the composing desks are told (R34, R99, R168,
R189). -/

namespace Sys2Proof.Machine

section
variable {s : State} {m n p : Nat} {g : Page}

/-! ## The stories of a page that goes back (R34) -/

theorem Page.mem_stories : m ∈ g.stories ↔ ∃ z ∈ g.slots, z.story = some m := by
  simp only [Page.stories, Page.placed, List.mem_map, List.mem_filterMap, Option.map_eq_some_iff]
  constructor
  · rintro ⟨-, ⟨z, hz, k, hk, rfl⟩, rfl⟩
    exact ⟨z, hz, hk⟩
  · rintro ⟨z, hz, hm⟩
    exact ⟨(z, m), ⟨z, hz, m, hm, rfl⟩, rfl⟩

/-- A record of a page that fails or is aborted. -/
def Story.returned (x : Story) : Story := if x.state = .setting then { x with state := .queued } else x

theorem Story.returned_returned (x : Story) : x.returned.returned = x.returned := by
  unfold Story.returned
  split <;> simp [*]

theorem State.storyBack_only (n : Nat) :
    s.storyBack n = { s with stories := (s.storyBack n).stories, screens := (s.storyBack n).screens } := by
  unfold State.storyBack
  split
  · rfl
  · split
    · rw [State.touchStory_only]
      rfl
    · rfl

theorem State.story_storyBack (n m : Nat) :
    (s.storyBack n).story m = if m = n then (s.story m).map Story.returned else s.story m := by
  unfold State.storyBack
  split
  · next hnone =>
    split
    · next hm => rw [hm, hnone, Option.map_none]
    · rfl
  · next x hx =>
    by_cases hstate : x.state = .setting
    · have hst : (((s.updStory n fun x => { x with state := .queued }).reportDesk x.desk).touchStory n).story m =
          (s.updStory n fun x => { x with state := .queued }).story m := by
        rw [State.story, State.touchStory_stories]
        rfl
      rw [if_pos hstate, hst]
      by_cases hm : m = n
      · subst hm
        rw [State.story_updStory, hx, if_pos rfl, Option.map_some, Option.map_some, Story.returned, if_pos hstate]
      · rw [State.story_updStory_of_ne _ _ _ _ hm, if_neg hm]
    · rw [if_neg hstate]
      split
      · next hm => rw [hm, hx, Option.map_some, Story.returned, if_neg hstate]
      · rfl

theorem State.screen_storyBack_kept (n m : Nat) : ((s.storyBack n).screen m).kept = (s.screen m).kept := by
  unfold State.storyBack
  split
  · rfl
  · split
    · exact (State.screen_touchStory_kept _ n m).trans (State.screen_reportDesk_kept _ m)
    · rfl

/-- The stories of a list after they have gone back. -/
theorem State.story_foldl_storyBack (l : List Nat) (s : State) (m : Nat) :
    (l.foldl State.storyBack s).story m = if m ∈ l then (s.story m).map Story.returned else s.story m := by
  induction l generalizing s with
  | nil => simp
  | cons n l ih =>
    rw [List.foldl_cons, ih, State.story_storyBack]
    by_cases hm : m = n
    · subst hm
      by_cases hl : m ∈ l
      · simp [hl, Option.map_map, Function.comp_def, Story.returned_returned]
      · simp [hl]
    · simp [hm]

/-! ## A page that goes back to OPEN (R99, R167, R168) -/

/-- What a page's going back to OPEN leaves. -/
structure Returns (s u : State) (p : Nat) (g : Page) (cause : Cause) : Prop where
  only : u = { s with stories := u.stories, screens := u.screens, pages := u.pages, host := u.host }
  stories : ∀ m, u.story m = if m ∈ g.stories then (s.story m).map Story.returned else s.story m
  page : u.page p = some { g with state := .open_, cause := some cause }
  pages : ∀ q, q ≠ p → u.page q = s.page q
  host_eq : u.host = (s.raise .pageFailed).host
  told : ∀ n d, (s.screen n).signedOn = true → (s.screen n).desk = some d → (∃ k ∈ s.desk d, k.composing = true) →
    (u.screen n).kept = { (s.screen n).kept with partMessage := some (pageMessage p cause.message) }

theorem State.screen_tellComposing {d : Nat} (hin : n < s.screens.length) (hsigned : (s.screen n).signedOn = true)
    (hd : (s.screen n).desk = some d) (hk : ∃ k ∈ s.desk d, k.composing = true) (msg : List Byte) :
    (s.tellComposing msg).screen n = { s.screen n with partMessage := some msg, layoutTime := s.clock.time } := by
  have hcomposing : (s.deskOf (s.screen n)).any (·.composing) = true := by
    obtain ⟨k, hk, hc⟩ := hk
    rw [State.deskOf, hd]
    exact (Option.any_eq_true _ _).2 ⟨k, hk, hc⟩
  rw [State.screen_of_map rfl n, if_pos hin]
  simp [hsigned, hcomposing]

theorem State.foldl_storyBack_only (l : List Nat) : l.foldl State.storyBack s =
    { s with stories := (l.foldl State.storyBack s).stories, screens := (l.foldl State.storyBack s).screens } :=
  State.foldl_keeps s (fun t => t = { s with stories := t.stories, screens := t.screens }) State.storyBack
    (fun _ n h => (State.storyBack_only n).trans (by rw [h])) l rfl

theorem State.screen_foldl_storyBack_kept (l : List Nat) (n : Nat) :
    ((l.foldl State.storyBack s).screen n).kept = (s.screen n).kept :=
  State.foldl_keeps s (fun t => (t.screen n).kept = (s.screen n).kept) State.storyBack
    (fun _ k h => (State.screen_storyBack_kept k n).trans h) l rfl

theorem State.tellComposing_only (msg : List Byte) :
    s.tellComposing msg = { s with screens := (s.tellComposing msg).screens } := rfl

theorem State.returns_pageReturns (hg : s.page p = some g) (cause : Cause) : Returns s (s.pageReturns p g cause) p g cause := by
  have honly := State.foldl_storyBack_only (s := s.updPage p fun x => { x with state := .open_, cause := some cause }) g.stories
  have hstories := State.story_foldl_storyBack g.stories (s.updPage p fun x => { x with state := .open_, cause := some cause })
  have hkept := State.screen_foldl_storyBack_kept (s := s.updPage p fun x => { x with state := .open_, cause := some cause }) g.stories
  rw [State.pageReturns]
  generalize g.stories.foldl State.storyBack (s.updPage p fun x => { x with state := .open_, cause := some cause }) = t at *
  have hpages : t.pages = (s.updPage p fun x => { x with state := .open_, cause := some cause }).pages := by rw [honly]
  have hhost : t.host = s.host := by rw [honly]; rfl
  refine ⟨?_, fun m => ?_, ?_, fun q hq => ?_, ?_, fun n d hsigned hd hk => ?_⟩
  · rw [State.tellComposing_only, State.raise_only, honly]
    rfl
  · rw [State.tellComposing_only, State.raise_only]
    exact hstories m
  · rw [State.tellComposing_only, State.raise_only]
    have hpage := State.page_updPage (s := s) p fun x => { x with state := .open_, cause := some cause }
    rw [hg] at hpage
    rw [State.page, hpages]
    exact hpage
  · rw [State.tellComposing_only, State.raise_only]
    rw [State.page, hpages]
    exact State.page_updPage_of_ne s p q _ hq
  · exact State.raise_host_congr hhost .pageFailed
  · have hscreen : ∀ m, (t.raise .pageFailed).screen m = t.screen m := fun m => by rw [State.raise_only]; rfl
    have hsame := hkept n
    have hdesk : (t.screen n).desk = some d := (congrArg Screen.desk hsame :).trans hd
    have hmode : (t.screen n).mode = (s.screen n).mode := (congrArg Screen.mode hsame :)
    have hsigned' : (t.screen n).signedOn = true := by rw [Screen.signedOn, hmode]; exact hsigned
    have hk' : ∃ k ∈ (t.raise .pageFailed).desk d, k.composing = true := by
      rw [State.raise_only, honly]
      exact hk
    rw [State.screen_tellComposing (State.lt_of_desk (by rw [hscreen]; exact hdesk)) (by rw [hscreen]; exact hsigned')
      (by rw [hscreen]; exact hdesk) hk', hscreen]
    exact congrArg (fun c : Screen => { c with partMessage := some (pageMessage p cause.message) }) hsame

/-! ## The end of its galley (R189) -/

theorem State.composeNext_only : s.composeNext = { s with link := s.composeNext.link } := by
  unfold State.composeNext
  split
  · rfl
  · split <;> rfl

theorem State.tryTake_only : s.tryTake =
    { s with pages := s.tryTake.pages, settingQueue := s.tryTake.settingQueue, link := s.tryTake.link } := by
  unfold State.tryTake
  split
  · rfl
  · split
    · rfl
    · rw [State.composeNext_only]
      rfl

theorem State.tryTake_of_nil (h : s.settingQueue = []) : s.tryTake = s := by rw [State.tryTake, h]

theorem State.galleyAbort_only : s.galleyAbort =
    { s with pages := s.galleyAbort.pages, settingQueue := s.galleyAbort.settingQueue, link := s.galleyAbort.link } := by
  unfold State.galleyAbort
  split
  · rfl
  · split
    · rfl
    · rw [State.tryTake_only]
      rfl

theorem abortRecord_bytes (p : Nat) : (abortRecord p).bytes = [0x09, 0x01, byte p] := by
  simp [abortRecord, GalleyRecord.bytes, be, byte]

theorem State.galleyAbort_of_up {x : SettingPage} (hset : s.link.setting = some x) (hup : s.link.cond = .up)
    (hheld : s.link.held = false) : s.galleyAbort = { s with link := { s.link with
      nextNum := s.link.nextNum + 1
      setting := none
      ackTimer := none
      forward := s.link.forward ++ [⟨s.link.nextNum, .abort, [0x09, 0x01, byte x.page]⟩] } } := by
  have hopen : s.link.cond = .up ∧ (!s.link.held) = true := ⟨hup, by simp [hheld]⟩
  rw [State.galleyAbort, hset]
  dsimp only
  rw [if_pos hopen, abortRecord_bytes]
  rfl

theorem State.galleyAbort_of_not_up {x : SettingPage} (hset : s.link.setting = some x)
    (hdown : s.link.cond ≠ .up ∨ s.link.held = true) (hqueue : s.settingQueue = []) : s.galleyAbort = { s with link := { s.link with
      setting := none, ackTimer := none, activity := .idle } } := by
  have hnot : ¬(s.link.cond = .up ∧ (!s.link.held) = true) := by
    rintro ⟨hup, hheld⟩
    rcases hdown with h | h
    · exact h hup
    · simp [h] at hheld
  rw [State.galleyAbort, hset]
  exact (if_neg hnot).trans (State.tryTake_of_nil hqueue)

/-! ## A page aborted (R168) -/

/-- What an abort gives, for a page that is WAITING or SETTING. -/
def State.pageAborted (s : State) (p : Nat) (g : Page) : State :=
  if g.state = .waiting then { s.pageReturns p g .aborted with settingQueue := s.settingQueue.filter (· != p) }
  else (s.pageReturns p g .aborted).galleyAbort

theorem State.abortPage_of_press (h : g.state = .waiting ∨ g.state = .setting) : s.abortPage p g = some (s.pageAborted p g) := by
  rcases h with h | h <;> simp [State.abortPage, State.pageAborted, h]

theorem State.abortPage_of_off (h : g.state = .open_ ∨ g.state = .set_) : s.abortPage p g = none := by
  rcases h with h | h <;> simp [State.abortPage, h]

theorem State.pageAborted_only : s.pageAborted p g = { s.pageReturns p g .aborted with
    pages := (s.pageAborted p g).pages, settingQueue := (s.pageAborted p g).settingQueue, link := (s.pageAborted p g).link } := by
  unfold State.pageAborted
  split
  · rfl
  · exact State.galleyAbort_only

theorem State.pageAborted_setting (h : g.state = .setting) : s.pageAborted p g = (s.pageReturns p g .aborted).galleyAbort :=
  if_neg (by simp [h])

theorem State.pageAborted_of_press (hg : s.page p = some g) (hpress : g.state = .waiting ∨ g.state = .setting) :
    PageAborted s (s.pageAborted p g) p g := by
  have h := State.returns_pageReturns hg .aborted
  have honly := State.pageAborted_only (s := s) (p := p) (g := g)
  have hset := State.pageAborted_setting (s := s) (p := p) (g := g)
  have hwait : g.state = .waiting → s.pageAborted p g = { s.pageReturns p g .aborted with
      settingQueue := s.settingQueue.filter (· != p) } := fun hw => if_pos hw
  generalize s.pageAborted p g = t at *
  generalize s.pageReturns p g .aborted = u at *
  have hlink : u.link = s.link := by rw [h.only]
  have hqueue : u.settingQueue = s.settingQueue := by rw [h.only]
  refine ⟨?_, fun m x hx => ?_, fun henabled => ?_, fun hw => ?_, fun x hs hx hp hup hheld => ?_, fun x hs hx hp hdown hnil => ?_, ?_⟩
  · rcases hpress with hw | hs
    · exact .inl (by rw [hwait hw])
    · exact .inr hs
  · have hstory : t.story m = u.story m := by rw [honly]; rfl
    rw [hstory, h.stories, hx]
    by_cases hm : m ∈ g.stories
    · rw [if_pos hm, Option.map_some, Story.returned]
      simp only [← Page.mem_stories, hm, and_true]
    · rw [if_neg hm, if_neg fun hand => hm (Page.mem_stories.2 hand.2)]
  · have hhost : t.host = (s.raise .pageFailed).host := by rw [honly]; exact h.host_eq
    rw [hhost]
    exact State.raised_raise s .pageFailed henabled
  · rw [hwait hw]
    exact ⟨h.page, hlink⟩
  · have heq := (hset hs).trans (State.galleyAbort_of_up (by rw [hlink]; exact hx) (by rw [hlink]; exact hup) (by rw [hlink]; exact hheld))
    rw [heq, hlink, hp]
    exact ⟨h.page, hqueue, rfl⟩
  · have heq := (hset hs).trans
      (State.galleyAbort_of_not_up (by rw [hlink]; exact hx) (by rw [hlink]; exact hdown) (by rw [hqueue]; exact hnil))
    rw [heq, hlink]
    exact ⟨h.page, rfl⟩
  · rw [honly, h.only]
    exact ⟨rfl, rfl, rfl, rfl, rfl, rfl, rfl, rfl, rfl, rfl⟩

/-- An abort tells the composing desks (R99). -/
theorem State.screen_pageAborted {d : Nat} (hg : s.page p = some g) (hsigned : (s.screen n).signedOn = true)
    (hd : (s.screen n).desk = some d) (hk : ∃ k ∈ s.desk d, k.composing = true) :
    ((s.pageAborted p g).screen n).kept = { (s.screen n).kept with partMessage := some (pageMessage p (str " ABORTED")) } := by
  rw [State.pageAborted_only]
  exact (State.returns_pageReturns hg .aborted).told n d hsigned hd hk

/-- An abort is what it was after a reply or none, and after the layout. -/
theorem PageAborted.settle {t u : State} (h : PageAborted s t p g) (honly : u = { t with host := u.host })
    (hflags : u.host.flags = t.host.flags) : PageAborted s u.settle p g := by
  obtain ⟨hqueue, hstories, hraised, hwaiting, hup, hdown, hstore, hdesks, hbaskets, hfit, hproof, hlines⟩ := h
  have hraised' : s.host.enabled .pageFailed = true → u.host.raised .pageFailed = true := fun he => by
    have h := hraised he
    rw [HostLine.raised] at h ⊢
    rw [hflags]
    exact h
  rw [honly] at hraised' ⊢
  exact ⟨hqueue, hstories, hraised', hwaiting, hup, hdown, hstore, hdesks, hbaskets, hfit, hproof,
    SameLines.settle (u := { t with host := u.host }) hlines⟩

end

/-! ## The obligation -/

theorem reqPageAbort_of_some {s t : State} {p : Nat} {g : Page} (hp : p < 32) (hg : s.page p = some g)
    (h : s.abortPage p g = some t) : reqPageAbort (be 1 p) s = answer t .ok [] := by
  have hread := readNat_be 1 p (by omega) []
  rw [List.append_nil] at hread
  rw [reqPageAbort, readBody_eq_some hread]
  dsimp only
  rw [if_neg (by omega), withPage, hg]
  dsimp only
  rw [h]

theorem reqPageAbort_of_none {s : State} {p : Nat} {g : Page} (hp : p < 32) (hg : s.page p = some g)
    (h : s.abortPage p g = none) : reqPageAbort (be 1 p) s = refuse s .badState := by
  have hread := readNat_be 1 p (by omega) []
  rw [List.append_nil] at hread
  rw [reqPageAbort, readBody_eq_some hread]
  dsimp only
  rw [if_neg (by omega), withPage, hg]
  dsimp only
  rw [h]

section
variable {s : State} {n : Fin 32} {e : Nat} {buffer : List Byte}

theorem State.typedPage_of_page {p : Nat} {g : Page} (hne : buffer ≠ []) (hp : p = ofDigits buffer) (hlt : p < 32)
    (hg : s.page p = some g) : s.typedPage buffer = some (p, g) := by
  subst hp
  rw [State.typedPage, if_neg (not_or.2 ⟨hne, by omega⟩), hg]
  rfl

theorem State.typedPage_of_none (h : buffer = [] ∨ 31 < ofDigits buffer ∨ s.page (ofDigits buffer) = none) :
    s.typedPage buffer = none := by
  rw [State.typedPage]
  split
  · rfl
  · next hnot =>
    obtain ⟨hne, hlt⟩ := not_or.1 hnot
    rcases h with h | h | h
    · exact absurd h hne
    · exact absurd h hlt
    · rw [h, Option.map_none]

theorem State.atComposing_iff : s.atComposing n ↔ s.deskHas n Desk.composing = true := State.deskHas_iff.symm

theorem State.atKeys.composes {mode : Mode} {prompt : Prompt} (h : s.atKeys n mode prompt e) (hcomposing : s.atComposing n) :
    (s.promptClosed n).deskHas n Desk.composing = true :=
  (State.deskHas_keyOn (f := Screen.closePrompt) h.lt fun _ => rfl).trans (State.atComposing_iff.1 hcomposing)

theorem State.atKeys.abortAt_of_plain {mode : Mode} {prompt : Prompt} (h : s.atKeys n mode prompt e) (hplain : ¬s.atComposing n) :
    (s.promptClosed n).abortAt n buffer = (s.promptClosed n).deny n (str "NOT PERMITTED") := by
  have hhas : (s.promptClosed n).deskHas n Desk.composing = false :=
    (State.deskHas_keyOn (f := Screen.closePrompt) h.lt fun _ => rfl).trans
      (Bool.eq_false_iff.2 (mt State.atComposing_iff.2 hplain))
  unfold State.abortAt
  rw [hhas]
  rfl

theorem State.abortAt_of_no_page {t : State} {n : Nat} (hhas : t.deskHas n Desk.composing = true) (h : t.typedPage buffer = none) :
    t.abortAt n buffer = t.deny n (str "NO PAGE") := by
  unfold State.abortAt
  rw [hhas, if_neg (by decide), h]

theorem State.abortAt_of_press {t : State} {n p : Nat} {g : Page} (hhas : t.deskHas n Desk.composing = true)
    (h : t.typedPage buffer = some (p, g)) (hpress : g.state = .waiting ∨ g.state = .setting) :
    t.abortAt n buffer = t.pageAborted p g := by
  unfold State.abortAt
  rw [hhas, if_neg (by decide), h]
  dsimp only
  rw [State.abortPage_of_press hpress]

theorem State.abortAt_of_off {t : State} {n p : Nat} {g : Page} (hhas : t.deskHas n Desk.composing = true)
    (h : t.typedPage buffer = some (p, g)) (hoff : g.state = .open_ ∨ g.state = .set_) :
    t.abortAt n buffer = t.deny n (str "BAD PAGE STATE") := by
  unfold State.abortAt
  rw [hhas, if_neg (by decide), h]
  dsimp only
  rw [State.abortPage_of_off hoff]

end

/-- Settles O44: the host and the key ask for the same abort (`State.pageAborted_of_press`). -/
theorem pagesAreAborted : Obligations.PagesAreAborted := by
  refine ⟨fun tag p g s hreply hp hg => ⟨fun hpress => ?_, fun hoff => ?_⟩, fun n e s h => ⟨fun p g hcomposing hne hp hlt hg =>
    ⟨fun hpress => ?_, fun hoff => ?_⟩, fun hcomposing hnone => ?_, fun hplain => ?_⟩⟩
  · have hserved := requestOutcome_of_judged (kind := 0x54) tag hreply (by simp) rfl (by decide)
      (reqPageAbort_of_some (s := s.hunt) hp hg (State.abortPage_of_press hpress))
    have haborted := State.pageAborted_of_press (s := s.hunt) hg hpress
    generalize s.hunt.pageAborted p g = u at hserved haborted
    exact ⟨_, hserved, haborted.settle (u := u.reply _ tag [0x00] (u.host.noticesDue != 0)) rfl rfl, rfl⟩
  · exact requestOutcome_of_same tag hreply (by simp) rfl (by decide)
      (reqPageAbort_of_none (s := s.hunt) hp hg (State.abortPage_of_off hoff))
  · have hrun := (h.keyEnter (by decide) (by decide)).trans (next_settle_congr (h.complete_eq.trans
      (State.abortAt_of_press (t := s.promptClosed n) (h.composes hcomposing)
        (State.typedPage_of_page (s := s.promptClosed n) hne hp hlt hg) hpress)))
    have haborted := State.pageAborted_of_press (s := s.promptClosed n) hg hpress
    have hscreen := State.screen_promptClosed h
    obtain ⟨d, hd, hk⟩ := hcomposing
    have hmode : (s.keyedScreen n).closePrompt.mode = .desk := h.mode_eq
    have hdesk : (s.keyedScreen n).closePrompt.desk = (s.screen n).desk := rfl
    have hprompt : (s.keyedScreen n).closePrompt.prompt = .closed := rfl
    rw [← hscreen] at hmode hdesk hprompt
    have hsigned : ((s.promptClosed n).screen n).signedOn = true := by rw [Screen.signedOn, hmode]
    have htold := State.screen_pageAborted (s := s.promptClosed n) hg hsigned (hdesk.trans hd) hk
    generalize (s.promptClosed n).screen n = c at hmode hdesk hprompt htold
    generalize (s.promptClosed n).pageAborted p g = u at hrun haborted htold
    have hc := (State.screen_settle_kept u n).trans htold
    exact ⟨u.settle, hrun, haborted.settle rfl rfl, (congrArg Screen.partMessage hc :), (congrArg Screen.prompt hc :).trans hprompt,
      (congrArg Screen.mode hc :).trans hmode, (congrArg Screen.desk hc :).trans hdesk⟩
  · exact (h.keyEnter (by decide) (by decide)).trans (next_settle_congr (h.complete_eq.trans
      ((State.abortAt_of_off (t := s.promptClosed n) (h.composes hcomposing)
        (State.typedPage_of_page (s := s.promptClosed n) hne hp hlt hg) hoff).trans (State.deny_promptClosed h (by decide) _))))
  · exact (h.keyEnter (by decide) (by decide)).trans (next_settle_congr (h.complete_eq.trans
      ((State.abortAt_of_no_page (t := s.promptClosed n) (h.composes hcomposing)
        (State.typedPage_of_none (s := s.promptClosed n) hnone)).trans (State.deny_promptClosed h (by decide) _))))
  · exact (h.keyEnter (by decide) (by decide)).trans (next_settle_congr (h.complete_eq.trans
      ((h.abortAt_of_plain hplain).trans (State.deny_promptClosed h (by decide) _))))

end Sys2Proof.Machine
end

section
/-! SUPPORT. The answers of the typesetter: the return channel, the quality window, and the blocks and pages that they finish or
fail (R166, R167, R182, R184, R187, R209). -/

namespace Sys2Proof.Machine

section
variable {s : State} {before : List Byte} {number : Byte}

/-! ## The return channel (R209) -/

theorem be_two_append (check : BitVec 16) : ∃ high low : Byte, be 2 check.toNat = [high, low] ∧ high ++ low = check := by
  refine ⟨_, _, rfl, BitVec.eq_of_toNat_eq ?_⟩
  have hlt := check.isLt
  simp only [byte, BitVec.toNat_append, BitVec.toNat_ofNat, Nat.pow_one, Nat.pow_zero, Nat.div_one]
  have hhigh : check.toNat / 256 % 2 ^ 8 = check.toNat / 256 := Nat.mod_eq_of_lt (by omega)
  rw [hhigh, Nat.shiftLeft_eq, Nat.mul_comm, ← Nat.two_pow_add_eq_or_of_lt (by omega : check.toNat % 2 ^ 8 < 2 ^ 8)]
  omega

theorem ReturnCode.ofByte_byte (code : ReturnCode) : ReturnCode.ofByte code.byte = some code := by cases code <;> rfl

/-- A message passes when its check is the one it must carry. -/
theorem returnMessage_byte (code : ReturnCode) {high low : Byte} {check : BitVec 16} (h : high ++ low = check) :
    returnMessage code.byte number high low = if check = returnCheck code number then some code else none := by
  rw [returnMessage, ReturnCode.ofByte_byte, h, Option.filter_some]
  by_cases hcheck : check = returnCheck code number
  · simp [hcheck]
  · simp [hcheck, Ne.symm hcheck]

/-- The bytes of a message to a receiver that hunts: what passes is taken, if the channel is read as messages. -/
theorem State.returnChannel_eq (h : s.hears before) (code : ReturnCode) (check : BitVec 16) :
    s.returnChannel code ⟨before, number⟩ check =
      if s.link.listens = true ∧ check = returnCheck code number then s.takeReturn code number else s := by
  obtain ⟨hreceiver, hstart⟩ := h
  obtain ⟨high, low, hbytes, hcheck⟩ := be_two_append check
  rw [State.returnChannel, List.foldl_append, State.foldl_returnByte_hunting s before hreceiver hstart, returnBytes, hbytes]
  cases hl : s.link.listens with
  | false => rw [State.foldl_returnByte_deaf s _ hl, if_neg (by simp)]
  | true =>
    rw [State.foldl_returnByte_message s _ _ _ _ hreceiver hl, returnMessage_byte code hcheck]
    by_cases hpass : check = returnCheck code number
    · rw [if_pos hpass, if_pos ⟨rfl, hpass⟩]
    · rw [if_neg hpass, if_neg (fun hand => hpass hand.2)]

theorem Link.listens_of_up {l : Link} (hup : l.cond = .up) (hbits : l.returnBits = false) : l.listens = true := by
  simp [Link.listens, hup, hbits]

/-- A message with a good check, on a link that is UP. -/
theorem State.returnChannel_of_up (h : s.hears before) (hup : s.link.cond = .up) (hbits : s.link.returnBits = false)
    (code : ReturnCode) : s.returnChannel code ⟨before, number⟩ (returnCheck code number) = s.takeReturn code number := by
  rw [State.returnChannel_eq h, if_pos ⟨Link.listens_of_up hup hbits, rfl⟩]

/-- An ACK or a NAK that is not taken. -/
theorem State.returnChannel_of_not_up (h : s.hears before) {code : ReturnCode} (hcode : code = .ack ∨ code = .nak) {check : BitVec 16}
    (hnot : check ≠ returnCheck code number ∨ s.link.cond ≠ .up ∨ s.link.returnBits = true) :
    s.returnChannel code ⟨before, number⟩ check = s := by
  rw [State.returnChannel_eq h]
  by_cases htaken : s.link.listens = true ∧ check = returnCheck code number
  · obtain ⟨hlistens, hcheck⟩ := htaken
    rw [if_pos ⟨hlistens, hcheck⟩]
    rcases hnot with hbad | hdown | hbits
    · exact absurd hcheck hbad
    · cases hc : s.link.cond with
      | up => exact absurd hc hdown
      | _ => rcases hcode with rfl | rfl <;> simp [State.takeReturn, hc]
    · simp [Link.listens, hbits] at hlistens
  · rw [if_neg htaken]

/-! ## The quality window (R187) -/

theorem State.raised_raise_of_raised {f : Flag} (h : s.host.raised f = true) (g : Flag) : (s.raise g).host.raised f = true := by
  rw [State.raise_host_eq]
  split
  · rw [HostLine.raised, HostLine.rise_flags, BitVec.getLsbD_or]
    have hbit : s.host.flags.getLsbD f.bit = true := h
    rw [hbit, Bool.true_or]
  · exact h

theorem State.enables_raise (f : Flag) : (s.raise f).host.enables = s.host.enables := by rw [State.raise_host]

/-- What the judgement of POOR leaves. -/
structure Judges (s u : State) : Prop where
  only : u = { s with link := { s.link with poor := u.link.poor }, host := u.host }
  poor : ∀ c ∈ s.link.config, u.link.poor = poorAfter c s.link.poor s.link.window
  raised : s.host.enabled .linkPoor = true → s.link.poor = false → u.link.poor = true → u.host.raised .linkPoor = true
  enables : u.host.enables = s.host.enables

theorem State.judges_judgeQuality : Judges s s.judgeQuality := by
  unfold State.judgeQuality
  split
  · next hnone => exact ⟨rfl, fun c hc => by simp [hnone] at hc, fun _ hpoor hup => by simp [hpoor] at hup, rfl⟩
  · next c hc =>
    have hconfig : ∀ d ∈ s.link.config, d = c := fun d hd => Option.some_injective _ ((Option.mem_def.1 hd).symm.trans hc)
    split
    · next hlength =>
      exact ⟨rfl, fun d _ => (if_pos hlength).symm, fun _ hpoor hup => by simp [hpoor] at hup, rfl⟩
    · next hlength =>
      have hafter : ∀ d ∈ s.link.config, poorAfter d s.link.poor s.link.window =
          if s.link.poor = true then decide (s.link.quality < c.poorClear) else decide (s.link.quality < c.poorAssert) :=
        fun d hd => by rw [hconfig d hd]; exact if_neg hlength
      split
      · next hrise =>
        obtain ⟨hpoor, hlow⟩ := hrise
        have hfalse : s.link.poor = false := by simpa using hpoor
        refine ⟨?_, fun d hd => ?_, fun henabled _ _ => ?_, State.enables_raise _⟩
        · rw [State.raise_only]
          rfl
        · rw [State.raise_only, hafter d hd, if_neg (by simp [hfalse])]
          exact (decide_eq_true hlow).symm
        · exact State.raised_raise _ .linkPoor henabled
      · next hrise =>
        split
        · next hfall =>
          obtain ⟨hpoor, hclear⟩ := hfall
          refine ⟨rfl, fun d hd => ?_, fun _ hfalse _ => by simp [hpoor] at hfalse, rfl⟩
          rw [hafter d hd, if_pos hpoor]
          exact (decide_eq_false (Nat.not_lt.2 hclear)).symm
        · next hfall =>
          refine ⟨rfl, fun d hd => ?_, fun _ hpoor hup => by simp [hpoor] at hup, rfl⟩
          rw [hafter d hd]
          cases hpoor : s.link.poor with
          | true => exact (decide_eq_true (Nat.not_le.1 fun h => hfall ⟨hpoor, h⟩)).symm
          | false => exact (decide_eq_false fun h => hrise ⟨by simp [hpoor], h⟩).symm

variable {x : SettingPage} {b : CurrentBlock}

/-- What the settling of a block's first try leaves: the outcome in the window, POOR as judged, and the block settled. -/
structure Settles (s u : State) (x : SettingPage) (b : CurrentBlock) (success : Bool) : Prop where
  only : u = { s with
    link := { s.link with
      window := windowAfter s.link.window b.settled success
      poor := u.link.poor
      setting := some { x with current := some { b with settled := true } } }
    host := u.host }
  poor : ∀ c ∈ s.link.config, u.link.poor =
    if b.settled then s.link.poor else poorAfter c s.link.poor (windowAfter s.link.window b.settled success)
  raised : s.host.enabled .linkPoor = true → s.link.poor = false → u.link.poor = true → u.host.raised .linkPoor = true
  enables : u.host.enables = s.host.enables

theorem State.settles_settleTry (hset : s.link.setting = some x) (hcur : x.current = some b) (success : Bool) :
    Settles s (s.settleTry b success) x b success := by
  unfold State.settleTry
  split
  · next hsettled =>
    have hb : { b with settled := true } = b := by rw [← hsettled]
    have hx : { x with current := some { b with settled := true } } = x := by rw [hb, ← hcur]
    refine ⟨?_, fun c _ => by rw [if_pos hsettled], fun _ hpoor hup => by simp [hpoor] at hup, rfl⟩
    rw [windowAfter, if_pos hsettled, hx, ← hset]
  · next hopen =>
    have hrecord : (s.updLink fun l => l.record success).link.window = windowAfter s.link.window b.settled success := by
      rw [windowAfter, if_neg hopen]
      rfl
    obtain ⟨honly, hpoor, hraised, henables⟩ := State.judges_judgeQuality (s := s.updLink fun l => l.record success)
    rw [State.recordOutcome]
    generalize (s.updLink fun l => l.record success).judgeQuality = u at *
    have hsetting : u.link.setting = some x := by rw [honly]; exact hset
    refine ⟨?_, fun c hc => ?_, hraised, henables⟩
    · have hlink : (u.updLink fun l => l.updCurrent fun x => { x with settled := true }).link =
          { u.link with setting := some { x with current := some { b with settled := true } } } := by
        simp only [State.updLink, Link.updCurrent, hsetting, Option.map_some, hcur]
      have hstate : (u.updLink fun l => l.updCurrent fun x => { x with settled := true }) =
          { u with link := (u.updLink fun l => l.updCurrent fun x => { x with settled := true }).link } := rfl
      rw [hstate, hlink, honly, ← hrecord]
      rfl
    · rw [if_neg hopen, ← hrecord]
      exact hpoor c hc

/-! ## The next block (R182) -/

/-- The records of page p's galley that a block takes from a place on. -/
def State.nextRecords (s : State) (p : Nat) (g : Page) (position : Nat) : List GalleyRecord :=
  packed Config.blockPayload ((galley s p g).drop position)

/-- The block that they make. -/
def State.nextBlock (s : State) (p : Nat) (g : Page) (position : Nat) : CurrentBlock where
  num := s.link.nextNum
  payload := (s.nextRecords p g position).flatMap GalleyRecord.bytes
  last := decide ((galley s p g).length ≤ position + (s.nextRecords p g position).length)
  tries := 1
  settled := false
  phase := .sending

theorem State.composedBlock_nextBlock (p : Nat) (g : Page) (position : Nat) :
    ComposedBlock s p g position (position + (s.nextRecords p g position).length) (s.nextBlock p g position) := by
  obtain ⟨rest, hsplit, hroom, hnext⟩ := packed_leads ((galley s p g).drop position) Config.blockPayload
  refine ⟨s.nextRecords p g position, rest, hsplit, rfl, rfl, hroom, hnext, ?_⟩
  have hlength := congrArg List.length hsplit
  rw [List.length_drop, List.length_append] at hlength
  have hlast : (s.nextBlock p g position).last = true ↔
      (galley s p g).length ≤ position + (s.nextRecords p g position).length := decide_eq_true_iff
  rw [hlast, ← List.length_eq_zero_iff]
  change (galley s p g).length - position = (s.nextRecords p g position).length + rest.length at hlength
  omega

/-- The next block of a page on a link that is not held is composed and sent. -/
theorem State.composeNext_of_open {g : Page} (hset : s.link.setting = some x) (hg : s.page x.page = some g)
    (hheld : s.link.held = false) : s.composeNext = { s with link := { s.link with
      nextNum := s.link.nextNum + 1
      setting := some { x with
        position := x.position + (s.nextRecords x.page g x.position).length
        linesSent := x.linesSent + (s.nextRecords x.page g x.position).countP GalleyRecord.isLine
        current := some (s.nextBlock x.page g x.position) }
      forward := s.link.forward ++
        [⟨s.link.nextNum, .data, (s.nextRecords x.page g x.position).flatMap GalleyRecord.bytes⟩] } } := by
  unfold State.composeNext
  simp only [hset, hg]
  rw [State.updLink]
  simp only [Link.advance, hheld]
  rfl

/-! ## The ACK of a block (R184, R186) -/

/-- The setting page with its current block done. -/
def SettingPage.blockDone (x : SettingPage) : SettingPage := { x with blocksDone := x.blocksDone + 1, current := none }

/-- The state in which the ACK of a block leaves its page: the try settled, and the block done. -/
def State.acked (s : State) (b : CurrentBlock) : State :=
  ((s.updLink fun l => { l with ackTimer := none }).settleTry b true).updLink fun l =>
    { l with setting := l.setting.map SettingPage.blockDone }

theorem State.blockAcked_eq (hset : s.link.setting = some x) : s.blockAcked b =
    if b.last then (((s.acked b).updLink Link.dropPage).pageSet x.page).tryTake else (s.acked b).composeNext := by
  unfold State.blockAcked
  simp only [hset]
  rfl

/-- What an answer to a block leaves besides: the timer off, the outcome in the window, and POOR as judged. -/
structure Answers (s u : State) (b : CurrentBlock) (success : Bool) (setting : Option SettingPage) : Prop where
  only : u = { s with
    link := { s.link with
      ackTimer := none
      window := windowAfter s.link.window b.settled success
      poor := u.link.poor
      setting := setting }
    host := u.host }
  poor : ∀ c ∈ s.link.config, u.link.poor =
    if b.settled then s.link.poor else poorAfter c s.link.poor (windowAfter s.link.window b.settled success)
  raised : s.host.enabled .linkPoor = true → s.link.poor = false → u.link.poor = true → u.host.raised .linkPoor = true
  enables : u.host.enables = s.host.enables

theorem State.answers_acked (hset : s.link.setting = some x) (hcur : x.current = some b) :
    Answers s (s.acked b) b true (some x.blockDone) := by
  obtain ⟨honly, hpoor, hraised, henables⟩ :=
    State.settles_settleTry (s := s.updLink fun l => { l with ackTimer := none }) hset hcur true
  rw [State.acked]
  generalize (s.updLink fun l => { l with ackTimer := none }).settleTry b true = u at *
  have hsetting : u.link.setting = some { x with current := some { b with settled := true } } := by rw [honly]
  refine ⟨?_, hpoor, hraised, henables⟩
  have hstate : (u.updLink fun l => { l with setting := l.setting.map SettingPage.blockDone }) =
      { u with link := { u.link with setting := some x.blockDone } } := by
    rw [State.updLink, hsetting]
    rfl
  rw [hstate, honly]
  rfl

/-! ## A failed try (R184) -/

/-- The state after a failed try of a block is settled. -/
def State.failed (s : State) (b : CurrentBlock) : State := (s.updLink fun l => { l with ackTimer := none }).settleTry b false

/-- The current block once more, sent again unless the link is held. -/
def Link.retry (l : Link) : Link :=
  let l := l.updCurrent fun y => { y with tries := y.tries + 1, phase := .resendDue }
  if l.held then l else l.sendCurrent

theorem State.failTry_eq (hset : s.link.setting = some x) : s.failTry b =
    if 4 ≤ b.tries then (((s.failed b).updLink Link.dropPage).pageFailed x.page .linkErrors).tryTake
    else (s.failed b).updLink Link.retry := by
  unfold State.failTry
  simp only [hset]
  rfl

theorem State.answers_failed (hset : s.link.setting = some x) (hcur : x.current = some b) :
    Answers s (s.failed b) b false (some { x with current := some { b with settled := true } }) := by
  obtain ⟨honly, hpoor, hraised, henables⟩ :=
    State.settles_settleTry (s := s.updLink fun l => { l with ackTimer := none }) hset hcur false
  exact ⟨honly, hpoor, hraised, henables⟩

theorem Link.retry_eq {l : Link} {y : CurrentBlock} (hset : l.setting = some { x with current := some y }) : l.retry = { l with
    setting := some { x with current := some { y with
      tries := y.tries + 1, phase := if l.held then .resendDue else .sending } }
    forward := if l.held then l.forward else l.forward ++ [⟨y.num, .data, y.payload⟩] } := by
  unfold Link.retry
  simp only [Link.updCurrent, hset, Option.map_some]
  cases hheld : l.held with
  | true => rfl
  | false => rfl

end

end Sys2Proof.Machine
end

section
/-! SUPPORT. The setting of a page, the galley's records, and the answers (R34, R166, R181, R184). -/

namespace Sys2Proof.Machine

/-! ## A page that is set (R34, R166) -/

section
variable {s : State} {m n p : Nat} {g : Page}

/-- A record of a page that is set. -/
def Story.setIn (edition : Nat) (x : Story) : Story :=
  { x with state := if x.state = .setting then .set_ else x.state, setEdition := some edition }

theorem Story.setIn_setIn (e : Nat) (x : Story) : (x.setIn e).setIn e = x.setIn e := by
  unfold Story.setIn
  split <;> simp [*]

/-- What leaves its basket before a story of a page is set. -/
def State.beforeSet (s : State) (n : Nat) (x : Story) : State := if x.state = .setting then s.leaveBasket n else s

theorem State.storySet_of_none (hx : s.story n = none) : s.storySet n = s := by rw [State.storySet, hx]

theorem State.storySet_of_some {x : Story} (hx : s.story n = some x) :
    s.storySet n = ((s.beforeSet n x).updStory n (Story.setIn s.edition.number)).touchStory n := by
  rw [State.storySet, hx]
  rfl

theorem State.beforeSet_only (n : Nat) (x : Story) :
    s.beforeSet n x = { s with baskets := (s.beforeSet n x).baskets, screens := (s.beforeSet n x).screens } := by
  unfold State.beforeSet
  split
  · rw [State.leaveBasket_only]
  · rfl

theorem State.storySet_only (n : Nat) : s.storySet n = { s with
    stories := (s.storySet n).stories, baskets := (s.storySet n).baskets, screens := (s.storySet n).screens } := by
  cases hx : s.story n with
  | none => rw [State.storySet_of_none hx]
  | some x =>
    rw [State.storySet_of_some hx, State.touchStory_only, State.beforeSet_only]
    rfl

theorem State.story_storySet (n m : Nat) :
    (s.storySet n).story m = if m = n then (s.story m).map (Story.setIn s.edition.number) else s.story m := by
  cases hx : s.story n with
  | none =>
    rw [State.storySet_of_none hx]
    split
    · next hm => rw [hm, hx, Option.map_none]
    · rfl
  | some x =>
    have hst : (s.storySet n).story m = ((s.beforeSet n x).updStory n (Story.setIn s.edition.number)).story m := by
      rw [State.storySet_of_some hx, State.story, State.touchStory_stories]
      rfl
    have hbefore : ∀ m, (s.beforeSet n x).story m = s.story m := fun m => by rw [State.beforeSet_only]; rfl
    rw [hst]
    split
    · next hm => rw [hm, State.story_updStory, hbefore]
    · next hm => rw [State.story_updStory_of_ne _ _ _ _ hm, hbefore]

/-- The setting of a story takes its entry out of its desk's basket, and no other. -/
theorem State.mem_basket_storySet {d : Nat} {e : Entry} (he : e ∈ (s.storySet n).basket d) :
    e ∈ s.basket d ∧ ∀ x, s.story n = some x → x.state = .setting → x.desk = d → e.story ≠ n := by
  cases hx : s.story n with
  | none =>
    rw [State.storySet_of_none hx] at he
    exact ⟨he, fun x h => by simp at h⟩
  | some x =>
    have hbasket : (s.storySet n).basket d = (s.beforeSet n x).basket d := by
      rw [State.storySet_of_some hx, State.touchStory_only]
      rfl
    rw [hbasket, State.beforeSet] at he
    by_cases hstate : x.state = .setting
    · rw [if_pos hstate] at he
      by_cases hd : d = x.desk
      · subst hd
        rw [State.basket_leaveBasket hx] at he
        obtain ⟨hmem, hne⟩ := List.mem_filter.1 he
        exact ⟨hmem, fun _ _ _ _ => by simpa using hne⟩
      · rw [State.basket_leaveBasket_of_ne hx hd] at he
        exact ⟨he, fun y hy _ hdesk => absurd (hdesk ▸ (Option.some_injective _ hy) ▸ rfl) hd⟩
    · rw [if_neg hstate] at he
      exact ⟨he, fun y hy hset => absurd ((Option.some_injective _ hy) ▸ hset) hstate⟩

theorem State.foldl_storySet_only (l : List Nat) : l.foldl State.storySet s = { s with
    stories := (l.foldl State.storySet s).stories, baskets := (l.foldl State.storySet s).baskets
    screens := (l.foldl State.storySet s).screens } :=
  State.foldl_keeps s (fun t => t = { s with stories := t.stories, baskets := t.baskets, screens := t.screens }) State.storySet
    (fun _ n h => (State.storySet_only n).trans (by rw [h])) l rfl

theorem State.edition_storySet (n : Nat) : (s.storySet n).edition = s.edition := by rw [State.storySet_only]

theorem State.story_foldl_storySet (l : List Nat) (s : State) (m : Nat) : (l.foldl State.storySet s).story m =
    if m ∈ l then (s.story m).map (Story.setIn s.edition.number) else s.story m := by
  induction l generalizing s with
  | nil => simp
  | cons n l ih =>
    rw [List.foldl_cons, ih, State.story_storySet, State.edition_storySet]
    by_cases hm : m = n
    · subst hm
      by_cases hl : m ∈ l
      · simp [hl, Option.map_map, Function.comp_def, Story.setIn_setIn]
      · simp [hl]
    · simp [hm]

theorem State.mem_basket_foldl_storySet {d : Nat} {e : Entry} (l : List Nat) (s : State)
    (he : e ∈ (l.foldl State.storySet s).basket d) :
    e ∈ s.basket d ∧ ∀ x, s.story e.story = some x → x.state = .setting → x.desk = d → e.story ∉ l := by
  induction l generalizing s with
  | nil => exact ⟨he, fun _ _ _ _ => List.not_mem_nil⟩
  | cons n l ih =>
    obtain ⟨hmem, hrest⟩ := ih _ he
    obtain ⟨hin, hn⟩ := State.mem_basket_storySet hmem
    refine ⟨hin, fun x hx hstate hd => ?_⟩
    have hne : e.story ≠ n := fun heq => hn x (heq ▸ hx) hstate hd heq
    have hkept : (s.storySet n).story e.story = some x := by rw [State.story_storySet, if_neg hne, hx]
    exact fun hmem => (List.mem_cons.1 hmem).elim hne (hrest x hkept hstate hd)

/-- What the setting of a page leaves. -/
structure SetsPage (s u : State) (p : Nat) (g : Page) : Prop where
  only : u = { s with
    stories := u.stories, baskets := u.baskets, screens := u.screens, pages := u.pages, host := u.host }
  stories : ∀ m, u.story m = if m ∈ g.stories then (s.story m).map (Story.setIn s.edition.number) else s.story m
  baskets : ∀ d e, e ∈ u.basket d → e ∈ s.basket d ∧
    ∀ x, s.story e.story = some x → x.state = .setting → x.desk = d → e.story ∉ g.stories
  page : u.page p = some { g with state := .set_ }
  host_eq : u.host = (s.raise .pageSet).host

theorem State.setsPage_pageSet (hg : s.page p = some g) (hstate : g.state = .setting) : SetsPage s (s.pageSet p) p g := by
  have heq : s.pageSet p =
      ((g.stories.foldl State.storySet (s.updPage p fun x => { x with state := .set_ })).raise .pageSet).tellComposing
        (pageMessage p (str " SET")) := by
    rw [State.pageSet, hg]
    exact if_neg (not_not.2 hstate)
  have honly := State.foldl_storySet_only (s := s.updPage p fun x => { x with state := .set_ }) g.stories
  have hstories := State.story_foldl_storySet g.stories (s.updPage p fun x => { x with state := .set_ })
  have hbaskets := fun d e => State.mem_basket_foldl_storySet (d := d) (e := e) g.stories
    (s.updPage p fun x => { x with state := .set_ })
  rw [heq]
  generalize g.stories.foldl State.storySet (s.updPage p fun x => { x with state := .set_ }) = t at *
  have hpages : t.pages = (s.updPage p fun x => { x with state := .set_ }).pages := by rw [honly]
  have hhost : t.host = s.host := by rw [honly]; rfl
  refine ⟨?_, fun m => ?_, fun d e he => ?_, ?_, ?_⟩
  · rw [State.tellComposing_only, State.raise_only, honly]
    rfl
  · rw [State.tellComposing_only, State.raise_only]
    exact hstories m
  · rw [State.tellComposing_only, State.raise_only] at he
    exact hbaskets d e he
  · have hpage := State.page_updPage (s := s) p fun x => { x with state := .set_ }
    rw [hg] at hpage
    rw [State.tellComposing_only, State.raise_only, State.page, hpages]
    exact hpage
  · exact State.raise_host_congr hhost .pageSet

theorem State.pageFailed_of_setting (hg : s.page p = some g) (hstate : g.state = .setting) (cause : Cause) :
    s.pageFailed p cause = s.pageReturns p g cause := by
  rw [State.pageFailed, hg]
  exact if_neg (not_not.2 hstate)

end

/-! ## The galley (R181) -/

theorem Page.length_placed (g : Page) : g.placed.length = g.slots.countP fun z => z.story.isSome := by
  rw [Page.placed, List.length_filterMap_eq_countP]
  exact List.countP_congr fun z _ => by cases z.story <;> simp

/-- The records of a slot, with a story in it or none. -/
def State.recordsIn (s : State) (z : Slot) : List GalleyRecord :=
  match z.story with
  | some m => slotRecords s z m
  | none => []

theorem State.flatMap_placed (s : State) (l : List Slot) :
    (l.filterMap fun k => k.story.map fun n => (k, n)).flatMap (fun x => slotRecords s x.1 x.2) = l.flatMap s.recordsIn := by
  induction l with
  | nil => rfl
  | cons z l ih =>
    rw [List.flatMap_cons, ← ih, State.recordsIn]
    cases hz : z.story with
    | none => rw [List.filterMap_cons_none (by simp [hz])]; rfl
    | some m => rw [List.filterMap_cons_some (b := (z, m)) (by simp [hz])]; rfl

theorem GalleyRecord.bytes_eq (r : GalleyRecord) : r.bytes = r.kind :: byte r.fields.length :: r.fields := by
  simp [GalleyRecord.bytes, be]

theorem galley_shape (s : State) (p : Nat) (g : Page) : galley s p g =
    ⟨0x01, be 1 p ++ leftAlign 8 g.label ++ be 1 g.edition ++ be 1 (g.slots.countP fun z => z.story.isSome)⟩ ::
      (g.slots.flatMap s.recordsIn ++ [⟨0x08, be 1 p ++ be 1 (g.slots.countP fun z => z.story.isSome)
        ++ be 2 ((g.slots.flatMap s.recordsIn).countP fun (r : GalleyRecord) => r.kind == 0x06)⟩]) := by
  have hbody : g.placed.flatMap (fun x => slotRecords s x.1 x.2) = g.slots.flatMap s.recordsIn := State.flatMap_placed s g.slots
  rw [galley, hbody, pageHead, pageEnd, Page.length_placed]
  rfl

theorem slotRecords_shape {s : State} {m : Nat} {x : Story} (z : Slot) (hx : s.story m = some x) {body heads : List SetLine}
    (hbody : body = bodyLines (s.face x.style.face) x.style (s.text m))
    (hheads : heads = (x.head.map fun h => headLines (s.face h.style.face) h).getD []) : slotRecords s z m =
      slotHead z m x :: styleRecord x.style ::
        ((x.head.toList.map fun h => hedStyle h heads.length) ++ heads.map hedLine ++ body.map lineRecord
          ++ x.fit.toList.map slotEnd) := by
  have hlines : s.setLines m x = (heads, body) := by rw [State.setLines, hbody, hheads]
  unfold slotRecords
  simp only [hx, hlines]
  congr 3
  · cases hhead : x.head with
    | none => simp [hheads, hhead]
    | some h => rfl
  · cases x.fit <;> rfl

/-! ## The answers (R184) -/

section
variable {s : State} {before : List Byte} {x : SettingPage} {b : CurrentBlock}

theorem State.awaits.current_eq (h : s.awaits x b) : s.link.current = some b := by
  obtain ⟨-, -, hset, hcur, -⟩ := h
  rw [Link.current, hset, Option.bind_some, hcur]

theorem State.awaits.answered_eq (h : s.awaits x b) : s.link.answered b.num = some b := by
  have hcurrent := h.current_eq
  obtain ⟨-, -, -, -, hphase⟩ := h
  rw [Link.answered, hcurrent]
  rcases hphase with hp | hp <;> simp [Option.filter, hp, BlockPhase.answerable]

theorem State.takeReturn_ack (hup : s.link.cond = .up) (number : Byte) : s.takeReturn .ack number = s.takeAck number := by
  unfold State.takeReturn
  rw [hup]

theorem State.takeReturn_nak (hup : s.link.cond = .up) (number : Byte) : s.takeReturn .nak number = s.takeNak number := by
  unfold State.takeReturn
  rw [hup]

theorem State.awaits.ack (h : s.awaits x b) (hears : s.hears before) :
    exec (.ack ⟨before, b.num⟩ (returnCheck .ack b.num)) s = .next (s.blockAcked b).settle := by
  have hanswered := h.answered_eq
  obtain ⟨hup, hbits, -⟩ := h
  have htaken : s.takeReturn .ack b.num = s.blockAcked b := by
    rw [State.takeReturn_ack hup, State.takeAck, hanswered]
  have hexec : exec (.ack ⟨before, b.num⟩ (returnCheck .ack b.num)) s =
      .next (s.returnChannel .ack ⟨before, b.num⟩ (returnCheck .ack b.num)).settle := rfl
  rw [hexec, State.returnChannel_of_up hears hup hbits, htaken]

/-- A NAK and the timeout fail a try; the timeout marks what it sends again. -/
theorem State.awaits.fails (h : s.awaits x b) (hears : s.hears before) {c : Instr}
    (hc : c = Instr.nak ⟨before, b.num⟩ (returnCheck .nak b.num) ∨ (c = Instr.ackTimeout ∧ s.link.ackTimer.isSome = true)) :
    ∃ r, exec c s = .next ({ s.failTry b with link := { (s.failTry b).link with resent := r } } : State).settle := by
  have hanswered := h.answered_eq
  have hcurrent := h.current_eq
  obtain ⟨hup, hbits, -⟩ := h
  rcases hc with rfl | ⟨rfl, hrunning⟩
  · have htaken : s.takeReturn .nak b.num = s.failTry b := by
      rw [State.takeReturn_nak hup, State.takeNak, hanswered]
    have hexec : exec (.nak ⟨before, b.num⟩ (returnCheck .nak b.num)) s =
        .next (s.returnChannel .nak ⟨before, b.num⟩ (returnCheck .nak b.num)).settle := rfl
    exact ⟨(s.failTry b).link.resent, by rw [hexec, State.returnChannel_of_up hears hup hbits, htaken]⟩
  · have hexpires : s.ackExpires = (s.failTry b).markResent b.num := by rw [State.ackExpires, hcurrent]
    have hexec : exec .ackTimeout s = .next (if s.link.ackTimer.isSome then s.ackExpires else s).settle := rfl
    refine ⟨((s.failTry b).markResent b.num).link.resent, ?_⟩
    rw [hexec, if_pos hrunning, hexpires, State.markResent_only]

/-- An answer that names another number, with no abort block and no LOOP block awaiting one, is discarded. -/
theorem State.awaits.other (h : s.awaits x b) (hears : s.hears before) {number : Byte} (hne : number ≠ b.num)
    (habort : s.link.abortWait = none) (hproof : s.proof.state ≠ .starting) :
    exec (.ack ⟨before, number⟩ (returnCheck .ack number)) s = .next s.settle ∧
      exec (.nak ⟨before, number⟩ (returnCheck .nak number)) s = .next s.settle := by
  have hcurrent := h.current_eq
  obtain ⟨hup, hbits, -⟩ := h
  have hanswered : s.link.answered number = none := by
    rw [Link.answered, hcurrent]
    simp [Option.filter, Ne.symm hne]
  have hloop : s.loopAnswered number = none := if_neg hproof
  have hnames : s.link.namesAbort number = false := by rw [Link.namesAbort, habort]; rfl
  have hack : s.takeReturn .ack number = s := by
    rw [State.takeReturn_ack hup, State.takeAck, hanswered]
    dsimp only
    rw [hnames, if_neg (by decide), hloop]
  have hnak : s.takeReturn .nak number = s := by
    rw [State.takeReturn_nak hup, State.takeNak, hanswered]
    dsimp only
    rw [hnames, if_neg (by decide), hloop]
  have hexec : ∀ check, exec (.ack ⟨before, number⟩ check) s = .next (s.returnChannel .ack ⟨before, number⟩ check).settle ∧
      exec (.nak ⟨before, number⟩ check) s = .next (s.returnChannel .nak ⟨before, number⟩ check).settle := fun _ => ⟨rfl, rfl⟩
  rw [(hexec _).1, (hexec _).2, State.returnChannel_of_up hears hup hbits, State.returnChannel_of_up hears hup hbits, hack, hnak]
  exact ⟨rfl, rfl⟩

theorem ComposedBlock.congr {t : State} {p position after : Nat} {g : Page} {b : CurrentBlock} (h : ComposedBlock t p g position after b)
    (hgalley : galley t p g = galley s p g) : ComposedBlock s p g position after b := by
  rw [ComposedBlock, ← hgalley]
  exact h

theorem Answers.link_eq {u : State} {success : Bool} {y : Option SettingPage} (h : Answers s u b success y) :
    u.link = { s.link with
      ackTimer := none
      window := windowAfter s.link.window b.settled success
      poor := u.link.poor
      setting := y } := congrArg State.link h.only

/-- An answer leaves all but the link and the host line. -/
theorem Answers.leaves {u : State} {success : Bool} {y : Option SettingPage} (h : Answers s u b success y) (link : Link) :
    { u with link := link } = { s with link := link, host := u.host } := by rw [h.only]

theorem Answers.galley_eq {u : State} {success : Bool} {y : Option SettingPage} (h : Answers s u b success y) (p : Nat) (g : Page) :
    galley u p g = galley s p g := by
  rw [h.only]
  rfl

theorem Answers.page_eq {u : State} {success : Bool} {y : Option SettingPage} (h : Answers s u b success y) (p : Nat) :
    u.page p = s.page p := by
  rw [h.only]
  rfl

/-- POOR after an answer, as seen behind what follows it. -/
theorem Answers.poorFollows {u t : State} {success : Bool} {y : Option SettingPage} (h : Answers s u b success y)
    (hpoor : t.link.poor = u.link.poor) (hwindow : t.link.window = windowAfter s.link.window b.settled success)
    (hraised : u.host.raised .linkPoor = true → t.host.raised .linkPoor = true) : PoorFollows s t b.settled :=
  ⟨fun c hc => by rw [hpoor, hwindow]; exact h.poor c hc,
    fun henabled hlow hup => hraised (h.raised henabled hlow (hpoor ▸ hup))⟩

end

/-! ## The obligation -/

/-- Settles O57: what an answer leaves of the link (`Answers`), then the next block (`State.composedBlock_nextBlock`), the page set
(`State.setsPage_pageSet`), the block once more (`Link.retry_eq`), or the page back (`State.returns_pageReturns`). -/
theorem answersFinishOrFailTheBlock : Obligations.AnswersFinishOrFailTheBlock := by
  refine ⟨fun before x b g s hears hawaits hg => ⟨fun hlast hheld => ?_, fun hlast hstate hqueue => ?_, fun htries c hc => ?_,
    fun htries hstate hqueue c hc => ?_, fun number hne habort hproof => hawaits.other hears hne habort hproof⟩,
    fun before number check s hears => ⟨fun hnot => ?_, fun hnot => ?_⟩, fun s hoff => ?_, fun p g s => ⟨?_, ?_, ?_⟩⟩
  · have hrun := hawaits.ack hears
    obtain ⟨-, -, hset, hcur, -⟩ := hawaits
    have h := State.answers_acked hset hcur
    rw [State.blockAcked_eq hset, if_neg (by simp [hlast])] at hrun
    generalize s.acked b = u at hrun h
    have hblock := (State.composedBlock_nextBlock (s := u) x.page g x.position).congr (h.galley_eq x.page g)
    have hnum : u.link.nextNum = s.link.nextNum := by rw [h.link_eq]
    rw [State.composeNext_of_open (x := x.blockDone) (by rw [h.link_eq]) ((h.page_eq _).trans hg) (by rw [h.link_eq]; exact hheld),
      h.leaves] at hrun
    refine ⟨_, _, u.nextBlock x.page g x.position, hrun, rfl, rfl, rfl, Nat.le_add_right _ _, rfl, hnum, rfl, rfl, rfl, hblock,
      congrArg (· + 1) hnum, ?_, ?_, ?_, ?_, ⟨rfl, rfl, rfl, rfl, rfl⟩, rfl, rfl, rfl, rfl, .settle ⟨rfl, rfl, rfl, rfl, rfl⟩⟩
    · exact (congrArg Link.ackTimer h.link_eq :)
    · exact congrArg (· ++ _) (congrArg Link.forward h.link_eq :)
    · exact (congrArg Link.window h.link_eq :)
    · exact h.poorFollows rfl (congrArg Link.window h.link_eq :) id
  · have hrun := hawaits.ack hears
    obtain ⟨-, -, hset, hcur, -⟩ := hawaits
    have h := State.answers_acked hset hcur
    rw [State.blockAcked_eq hset, if_pos hlast] at hrun
    generalize s.acked b = u at hrun h
    have hsets := State.setsPage_pageSet (s := u.updLink Link.dropPage) ((h.page_eq _).trans hg) hstate
    generalize (u.updLink Link.dropPage).pageSet x.page = v at hrun hsets
    rw [State.updLink, h.leaves] at hsets
    have honly := hsets.only
    rw [State.tryTake_of_nil (by rw [honly]; exact hqueue)] at hrun
    refine ⟨_, hrun, ?_, ?_, ?_, ?_, ?_, hsets.page, fun m y hy => ?_, fun d e he => ?_, fun henabled => ?_, ?_⟩
    · exact (congrArg (fun w : State => w.link.setting) honly :)
    · exact (congrArg (fun w : State => w.link.activity) honly :)
    · exact (congrArg (fun w : State => w.link.ackTimer) honly :)
    · exact (congrArg (fun w : State => w.link.window) honly :).trans (congrArg Link.window h.link_eq :)
    · refine h.poorFollows (congrArg (fun w : State => w.link.poor) honly :)
        ((congrArg (fun w : State => w.link.window) honly :).trans (congrArg Link.window h.link_eq :)) fun hraised => ?_
      have hhost : v.settle.host = _ := hsets.host_eq
      rw [hhost]
      exact State.raised_raise_of_raised (s := { s with link := u.link.dropPage, host := u.host }) hraised .pageSet
    · have hstory := hsets.stories m
      have hkept : ({ s with link := u.link.dropPage, host := u.host } : State).story m = some y := hy
      rw [hkept] at hstory
      refine Eq.trans hstory ?_
      by_cases hm : m ∈ g.stories
      · rw [if_pos hm, if_pos (Page.mem_stories.1 hm)]
        rfl
      · rw [if_neg hm, if_neg (mt Page.mem_stories.2 hm)]
    · obtain ⟨hmem, hleft⟩ := hsets.baskets d e he
      exact ⟨hmem, fun y hy hset hd z hz hzs => hleft y hy hset hd (Page.mem_stories.2 ⟨z, hz, hzs⟩)⟩
    · have hhost : v.settle.host = _ := hsets.host_eq
      rw [hhost]
      have henables : u.host.enabled .pageSet = true := by rw [HostLine.enabled, h.enables]; exact henabled
      exact State.raised_raise { s with link := u.link.dropPage, host := u.host } .pageSet henables
    · rw [honly]
      exact ⟨rfl, rfl, rfl, rfl, .settle ⟨rfl, rfl, rfl, rfl, rfl⟩⟩
  · obtain ⟨r, hrun⟩ := hawaits.fails hears hc
    obtain ⟨-, -, hset, hcur, -⟩ := hawaits
    have h := State.answers_failed hset hcur
    rw [State.failTry_eq hset, if_neg (Nat.not_le.2 htries)] at hrun
    generalize s.failed b = u at hrun h
    rw [State.updLink, Link.retry_eq (y := { b with settled := true }) (congrArg Link.setting h.link_eq :), h.leaves] at hrun
    have hheld : u.link.held = s.link.held := (congrArg Link.held h.link_eq :)
    have hforward : u.link.forward = s.link.forward := (congrArg Link.forward h.link_eq :)
    rw [hheld, hforward] at hrun
    exact ⟨_, hrun, rfl, rfl, (congrArg Link.ackTimer h.link_eq :), (congrArg Link.nextNum h.link_eq :),
      (congrArg Link.window h.link_eq :), h.poorFollows rfl (congrArg Link.window h.link_eq :) id, ⟨rfl, rfl, rfl, rfl, rfl⟩, rfl,
      rfl, rfl, rfl, .settle ⟨rfl, rfl, rfl, rfl, rfl⟩⟩
  · obtain ⟨r, hrun⟩ := hawaits.fails hears hc
    obtain ⟨-, -, hset, hcur, -⟩ := hawaits
    have h := State.answers_failed hset hcur
    rw [State.failTry_eq hset, if_pos htries] at hrun
    generalize s.failed b = u at hrun h
    rw [State.pageFailed_of_setting (s := u.updLink Link.dropPage) ((h.page_eq _).trans hg) hstate] at hrun
    have hreturns := State.returns_pageReturns (s := u.updLink Link.dropPage) ((h.page_eq _).trans hg) .linkErrors
    generalize (u.updLink Link.dropPage).pageReturns x.page g .linkErrors = v at hrun hreturns
    rw [State.updLink, h.leaves] at hreturns
    have honly := hreturns.only
    rw [State.tryTake_of_nil (by rw [honly]; exact hqueue)] at hrun
    refine ⟨_, hrun, ?_, ?_, ?_, ?_, ?_, hreturns.page, fun m y hy => ?_, fun henabled => ?_, ?_⟩
    · exact (congrArg (fun w : State => w.link.setting) honly :)
    · exact (congrArg (fun w : State => w.link.activity) honly :)
    · exact (congrArg (fun w : State => w.link.ackTimer) honly :)
    · exact (congrArg (fun w : State => w.link.window) honly :).trans (congrArg Link.window h.link_eq :)
    · refine h.poorFollows (congrArg (fun w : State => w.link.poor) honly :)
        ((congrArg (fun w : State => w.link.window) honly :).trans (congrArg Link.window h.link_eq :)) fun hraised => ?_
      have hhost : ({ v with link := { v.link with resent := r } } : State).settle.host = _ := hreturns.host_eq
      rw [hhost]
      exact State.raised_raise_of_raised (s := { s with link := u.link.dropPage, host := u.host }) hraised .pageFailed
    · have hstory := hreturns.stories m
      have hkept : ({ s with link := u.link.dropPage, host := u.host } : State).story m = some y := hy
      rw [hkept] at hstory
      refine Eq.trans hstory ?_
      by_cases hm : m ∈ g.stories
      · rw [if_pos hm, Option.map_some, Story.returned]
        simp only [← Page.mem_stories, hm, and_true]
      · rw [if_neg hm, if_neg fun hand => hm (Page.mem_stories.2 hand.2)]
    · have hhost : ({ v with link := { v.link with resent := r } } : State).settle.host = _ := hreturns.host_eq
      rw [hhost]
      have henables : u.host.enabled .pageFailed = true := by rw [HostLine.enabled, h.enables]; exact henabled
      exact State.raised_raise { s with link := u.link.dropPage, host := u.host } .pageFailed henables
    · rw [honly]
      exact ⟨rfl, rfl, rfl, .settle ⟨rfl, rfl, rfl, rfl, rfl⟩⟩
  · have hexec : exec (.ack ⟨before, number⟩ check) s = .next (s.returnChannel .ack ⟨before, number⟩ check).settle := rfl
    rw [hexec, State.returnChannel_of_not_up hears (.inl rfl) hnot]
  · have hexec : exec (.nak ⟨before, number⟩ check) s = .next (s.returnChannel .nak ⟨before, number⟩ check).settle := rfl
    rw [hexec, State.returnChannel_of_not_up hears (.inr rfl) hnot]
  · have hexec : exec .ackTimeout s = .next (if s.link.ackTimer.isSome then s.ackExpires else s).settle := rfl
    rw [hexec, if_neg (by simp [hoff])]
  · exact ⟨_, galley_shape s p g, rfl⟩
  · intro z m y body heads hy hbody hheads
    exact slotRecords_shape z hy hbody hheads
  · exact GalleyRecord.bytes_eq

end Sys2Proof.Machine
end

section
/-! SUPPORT. Lines configured and restarted: the body of LINE_CONFIGURE, and what it leaves of the line and its screen (R142, R143,
R144). -/

namespace Sys2Proof.Machine

section
variable {s : State} {n m : Nat}

/-! ## One line changed -/

theorem getD_map_of_default {α β : Type} {l : List α} {f : α → β} {d : α} {e : β} (h : f d = e) (n : Nat) :
    (l.map f).getD n e = f (l.getD n d) := by
  rw [List.getD_eq_getElem?_getD, List.getD_eq_getElem?_getD, List.getElem?_map]
  cases l[n]? with
  | none => exact h.symm
  | some a => rfl

/-- The layout and the transmitters leave what a line is but for what it sends (R108). -/
theorem State.line_settle_kept (s : State) (n : Nat) : (s.settle.line n).kept = (s.line n).kept := by
  have hdefault : Line.reset.kept = Line.reset := rfl
  rw [State.line, State.line, ← getD_map_of_default hdefault, ← getD_map_of_default hdefault, State.lines_settle_kept]

theorem State.line_of_lines {t : State} (h : t.lines = s.lines) (n : Nat) : t.line n = s.line n := by
  rw [State.line, State.line, h]

/-- A line that comes UP has its screen in SIGNED_OFF under the line's profile (R92). -/
def Screen.risen (number : Nat) (p : Profile) (limit time : Nat) (c : Screen) : Screen :=
  ({ c with profileNo := number, profile := p, mode := .signedOff, blanked := false, idle := loadIdle limit } : Screen).repaint time

theorem State.comeUp_eq {c : LineConfig} (hc : (s.line n).config = some c) :
    s.comeUp n = s.updScreen n (Screen.risen c.profile (s.profile c.profile) c.idleLimit s.clock.time) := by
  have hprofile : s.lineProfile n = c.profile := by rw [State.lineProfile, hc]
  have hidle : s.idleLimit n = c.idleLimit := by rw [State.idleLimit, hc]
  unfold State.comeUp State.adopt
  rw [hprofile, hidle]
  rfl

/-! ## The values that are stored (R142) -/

section
variable {c : LineConfig} {parity mask : Nat}

/-- The fields that the body of a LINE_CONFIGURE carries. -/
def LineFields.of (n : Nat) (c : LineConfig) (parity mask : Nat) : LineFields :=
  ⟨n, c.rate, c.dataBits, parity, c.stopBits, c.profile, mask, c.idleLimit, c.deadThreshold, c.grace⟩

/-- A configuration whose values LINE_CONFIGURE takes (R142). -/
structure LineConfig.Taken (n : Nat) (c : LineConfig) (parity mask : Nat) : Prop where
  line : n < 32
  rate : c.rate < 6
  dataBits : c.dataBits = 7 ∨ c.dataBits = 8
  parity_eq : Parity.ofCode parity = some c.parity
  stopBits : c.stopBits = 1 ∨ c.stopBits = 2
  profile : c.profile < 4
  mask_lt : mask < 8
  idle : c.idleLimit < 4294967296
  dead : c.deadThreshold < 4294967296
  grace : c.grace < 4294967296

theorem Parity.lt_of_ofCode {p : Nat} {y : Parity} (h : Parity.ofCode p = some y) : p < 3 := by
  by_contra hp
  obtain ⟨q, rfl⟩ : ∃ q, p = q + 3 := ⟨p - 3, by omega⟩
  simp [Parity.ofCode] at h

theorem readBody_lineBody (h : c.Taken n parity mask) :
    readBody readLine (lineBody n c parity mask) = some (.of n c parity mask) := by
  have hparity := Parity.lt_of_ofCode h.parity_eq
  have hline := h.line
  have hrate := h.rate
  have hdata : c.dataBits < 256 := by rcases h.dataBits with h | h <;> omega
  have hstop : c.stopBits < 256 := by rcases h.stopBits with h | h <;> omega
  have hprofile := h.profile
  have hmask := h.mask_lt
  have hlast := readNat_be 4 c.grace (by have := h.grace; omega) []
  rw [List.append_nil] at hlast
  apply readBody_eq_some
  simp [readLine, lineBody, readNat_be 1 n (by omega), readNat_be 1 c.rate (by omega), readNat_be 1 c.dataBits (by omega),
    readNat_be 1 parity (by omega), readNat_be 1 c.stopBits (by omega), readNat_be 1 c.profile (by omega),
    readNat_be 2 mask (by omega), readNat_be 4 c.idleLimit h.idle, readNat_be 4 c.deadThreshold h.dead, hlast, LineFields.of]

theorem LineFields.parity_of (h : c.Taken n parity mask) : (LineFields.of n c parity mask).parity? = some c.parity := by
  have hnot : ¬(31 < n ∨ 5 < c.rate ∨ (c.dataBits ≠ 7 ∧ c.dataBits ≠ 8) ∨ (c.stopBits ≠ 1 ∧ c.stopBits ≠ 2) ∨ 3 < c.profile ∨
      8 ≤ mask) := by
    obtain ⟨hline, hrate, hdata, -, hstop, hprofile, hmask, -⟩ := h
    omega
  exact (if_neg hnot).trans h.parity_eq

theorem and_ite_bne (b : Bool) (u v x : Nat) : (b && (if b then u else v) != x) = (b && u != x) := by cases b <;> rfl

/-- ADJUSTED exactly where a value that the mask names is out of its range. -/
theorem lineClamped_eq_false (old : Option LineConfig) :
    lineClamped (.of n c parity mask) (LineConfig.storedOver old mask c) = false ↔
      (mask.testBit 0 = true → c.idleLimit ≤ 3600) ∧ (mask.testBit 1 = true → 5 ≤ c.deadThreshold ∧ c.deadThreshold ≤ 100) ∧
        (mask.testBit 2 = true → c.grace ≤ 600) := by
  have hidle : (mask.testBit 0 && min c.idleLimit 3600 != c.idleLimit) = false ↔ (mask.testBit 0 = true → c.idleLimit ≤ 3600) := by
    cases mask.testBit 0 <;> simp
  have hdead : (mask.testBit 1 && max 5 (min c.deadThreshold 100) != c.deadThreshold) = false ↔
      (mask.testBit 1 = true → 5 ≤ c.deadThreshold ∧ c.deadThreshold ≤ 100) := by
    cases mask.testBit 1 <;> simp
    omega
  have hgrace : (mask.testBit 2 && min c.grace 600 != c.grace) = false ↔ (mask.testBit 2 = true → c.grace ≤ 600) := by
    cases mask.testBit 2 <;> simp
  rw [← hidle, ← hdead, ← hgrace, ← Bool.or_eq_false_iff, ← Bool.or_eq_false_iff, ← Bool.or_assoc]
  unfold lineClamped LineConfig.storedOver LineFields.of
  simp only [and_ite_bne]

theorem lineClamped_code (old : Option LineConfig) :
    (okOr (lineClamped (.of n c parity mask) (LineConfig.storedOver old mask c))).code = lineStatus mask c := by
  have hclamped := lineClamped_eq_false (n := n) (c := c) (parity := parity) (mask := mask) old
  rw [lineStatus]
  split
  · next h => rw [hclamped.2 h]; rfl
  · next h => rw [Bool.not_eq_false _ |>.mp (mt hclamped.1 h)]; rfl

/-- The reply to a LINE_CONFIGURE that stores a configuration. -/
def lineReply (mask : Nat) (c stored : LineConfig) (state : Nat) : List Byte :=
  lineStatus mask c :: (be 1 state ++ be 4 stored.idleLimit ++ be 4 stored.deadThreshold ++ be 4 stored.grace)

section
variable {stored : LineConfig} (h : c.Taken n parity mask) (hstored : stored = LineConfig.storedOver (s.line n).config mask c)
include h hstored

theorem reqLineConfigure_of_some {t : State} (ht : s.configureLine n stored = some t) :
    reqLineConfigure (lineBody n c parity mask) s = (t, lineReply mask c stored (t.line n).state.code) := by
  have hafter : lineConfigAfter (s.line n).config (.of n c parity mask) c.parity = stored := hstored.symm
  rw [reqLineConfigure, readBody_lineBody h]
  dsimp only
  rw [LineFields.parity_of h]
  dsimp only
  have hline : (LineFields.of n c parity mask).line = n := rfl
  rw [hline, hafter, ht]
  dsimp only
  rw [answer, hstored, lineClamped_code, ← hstored]
  rfl

theorem reqLineConfigure_of_none (ht : s.configureLine n stored = none) :
    reqLineConfigure (lineBody n c parity mask) s = refuse s .busy := by
  have hafter : lineConfigAfter (s.line n).config (.of n c parity mask) c.parity = stored := hstored.symm
  rw [reqLineConfigure, readBody_lineBody h]
  dsimp only
  rw [LineFields.parity_of h]
  dsimp only
  have hline : (LineFields.of n c parity mask).line = n := rfl
  rw [hline, hafter, ht]

end

end

/-! ## What a configuration leaves (R143, R144) -/

section
variable {c old : LineConfig}

/-- An OFF line comes UP. -/
theorem State.configureLine_of_off (h : (s.line n).config = none) (hn : n < s.lines.length) : s.configureLine n c =
    some ((s.updLine n fun l => l.restart c).updScreen n (Screen.risen c.profile (s.profile c.profile) c.idleLimit s.clock.time)) := by
  rw [State.configureLine, h]
  refine congrArg some ?_
  exact State.comeUp_eq (s := s.updLine n fun l => l.restart c) (by rw [State.line_updLine _ _ _ hn]; rfl)

theorem LineConfig.sameFormat_iff {a b : LineConfig} : a.sameFormat b = true ↔
    a.rate = b.rate ∧ a.dataBits = b.dataBits ∧ a.parity = b.parity ∧ a.stopBits = b.stopBits := by
  simp [LineConfig.sameFormat, and_assoc]

theorem State.configureLine_of_same (h : (s.line n).config = some old) (hformat : old.sameFormat c = true)
    (hfree : old.profile = c.profile ∨ (s.screen n).mode ≠ .edit) : s.configureLine n c = some (s.storeLine n old c) := by
  have hnot : ¬(old.profile ≠ c.profile ∧ (s.screen n).mode = .edit) := fun hand => hfree.elim hand.1 (fun h => h hand.2)
  rw [State.configureLine, h]
  dsimp only
  rw [hformat, if_neg (by decide), if_neg hnot]

theorem State.configureLine_of_busy (h : (s.line n).config = some old) (hformat : old.sameFormat c = true)
    (hprofile : old.profile ≠ c.profile) (hedit : (s.screen n).mode = .edit) : s.configureLine n c = none := by
  rw [State.configureLine, h]
  dsimp only
  rw [hformat, if_neg (by decide), if_pos ⟨hprofile, hedit⟩]

theorem State.configureLine_of_other (h : (s.line n).config = some old) (hformat : old.sameFormat c = false) :
    s.configureLine n c = some (s.restart n c) := by
  rw [State.configureLine, h]
  dsimp only
  rw [hformat]
  rfl

/-! ## A configuration stored on a line whose format stays (R143) -/

/-- A screen under a new profile, where its line's configuration names another. -/
def State.restyled (s : State) (old c : LineConfig) (x : Screen) : Screen :=
  if old.profile ≠ c.profile ∧ x.laidOut = true then
    snapTop s (({ x with profileNo := c.profile, profile := s.profile c.profile } : Screen).repaint s.clock.time)
  else x

/-- A screen with its idle timer loaded again, where its line's configuration has another limit. -/
def LineConfig.retimed (old c : LineConfig) (x : Screen) : Screen :=
  if old.idleLimit ≠ c.idleLimit ∧ x.laidOut = true then { x with idle := loadIdle c.idleLimit } else x

theorem State.restyled_only (x : Screen) : s.restyled old c x = { x with
    profileNo := (s.restyled old c x).profileNo, profile := (s.restyled old c x).profile
    clearDue := (s.restyled old c x).clearDue, image := (s.restyled old c x).image
    layoutTime := (s.restyled old c x).layoutTime, top := (s.restyled old c x).top } := by
  unfold State.restyled
  split
  · rw [snapTop_only]
    rfl
  · rfl

theorem LineConfig.retimed_only (x : Screen) : old.retimed c x = { x with idle := (old.retimed c x).idle } := by
  unfold LineConfig.retimed
  split <;> rfl

theorem State.storeLine_only : s.storeLine n old c =
    { s.updLine n fun l => { l with config := some c } with screens := (s.storeLine n old c).screens } := by
  unfold State.storeLine
  dsimp only
  split <;> split <;> rfl

/-- The first step of `State.storeLine`: the line's configuration stored, and its profile taken. -/
def State.refaced (s : State) (n : Nat) (old c : LineConfig) : State :=
  if old.profile ≠ c.profile then (s.updLine n fun l => { l with config := some c }).reprofile n
  else s.updLine n fun l => { l with config := some c }

theorem State.storeLine_eq : s.storeLine n old c =
    if old.idleLimit ≠ c.idleLimit then
      (s.refaced n old c).updScreen n fun x => if x.laidOut then { x with idle := loadIdle c.idleLimit } else x
    else s.refaced n old c := rfl

theorem State.screen_refaced_of_ne (hm : m ≠ n) : (s.refaced n old c).screen m = s.screen m := by
  unfold State.refaced
  split
  · exact State.screen_updScreen_of_ne _ _ _ _ hm
  · rfl

theorem State.length_refaced : (s.refaced n old c).screens.length = s.screens.length := by
  unfold State.refaced
  split
  · exact List.length_modify ..
  · rfl

theorem State.screen_refaced (hline : n < s.lines.length) (hscreen : n < s.screens.length) :
    (s.refaced n old c).screen n = s.restyled old c (s.screen n) := by
  have hnumber : (s.updLine n fun l => { l with config := some c }).lineProfile n = c.profile := by
    rw [State.lineProfile, State.line_updLine _ _ _ hline]
  unfold State.refaced State.restyled
  by_cases hprofile : old.profile = c.profile
  · rw [if_neg (not_not.2 hprofile), if_neg (fun h => h.1 hprofile)]
    rfl
  · rw [if_pos hprofile]
    refine (State.screen_updScreen (s.updLine n fun l => { l with config := some c }) n _ hscreen).trans ?_
    rw [State.adopt, hnumber]
    simp only [ne_eq, hprofile, not_false_eq_true, true_and]
    rfl

theorem State.screen_storeLine_of_ne (hm : m ≠ n) : (s.storeLine n old c).screen m = s.screen m := by
  rw [State.storeLine_eq]
  split
  · exact (State.screen_updScreen_of_ne _ _ _ _ hm).trans (State.screen_refaced_of_ne hm)
  · exact State.screen_refaced_of_ne hm

theorem State.screen_storeLine (hline : n < s.lines.length) (hscreen : n < s.screens.length) :
    (s.storeLine n old c).screen n = old.retimed c (s.restyled old c (s.screen n)) := by
  rw [State.storeLine_eq, LineConfig.retimed, ← State.screen_refaced hline hscreen]
  by_cases hidle : old.idleLimit = c.idleLimit
  · rw [if_neg (not_not.2 hidle), if_neg (fun h => h.1 hidle)]
  · have hin : n < (s.refaced n old c).screens.length := by rwa [State.length_refaced]
    rw [if_pos hidle, State.screen_updScreen _ _ _ hin]
    simp only [ne_eq, hidle, not_false_eq_true, true_and]

end

end

end Sys2Proof.Machine
end

section
/-! SUPPORT. A line restarted, with the filing of the story that its screen owned, and LINE_CONFIGURE served (R31, R142, R143, R144). -/

namespace Sys2Proof.Machine

section
variable {s : State} {n m k d : Nat} {c : LineConfig}

/-! ## An arrival at a desk where a screen is not signed on (R63) -/

theorem State.screen_alert_of_away (hoff : (s.screen m).signedOn = false) (p : Priority) (cause : Option Nat) :
    (s.alert d k p cause).screen m = s.screen m := by
  refine s.foldl_keeps (fun t => t.screen m = s.screen m) _ (fun t j ht => ?_) _ rfl
  split
  · next h =>
    refine (t.screen_alertScreen_ne ?_ k p).trans ht
    rintro rfl
    simp [Screen.signedOnAt, ht, hoff] at h
  · exact ht

/-- The filing of a story leaves a screen that is not signed on as it was. -/
theorem State.screen_autoFile_of_away (hoff : (s.screen m).signedOn = false) :
    ((s.autoFile k).screen m).kept = (s.screen m).kept := by
  cases hx : s.story k with
  | none => rw [State.autoFile, hx]
  | some x =>
    rcases lt_or_ge (s.basket x.desk).length 64 with hroom | hfull
    · have hx' : (s.updStory k fun t => { t with state := .queued, owner := none }).story k = some x.asQueued := by
        rw [State.story_updStory, hx]
        rfl
      rw [State.autoFile_of_room hx hroom, State.toQueued, State.screen_touchStory_kept, State.enterBasket_eq_of_cause hx',
        State.screen_reportDesk_kept]
      exact congrArg Screen.kept (State.screen_alert_of_away
        (s := (s.updStory k fun t => { t with state := .queued, owner := none }).updBasket _ _) hoff _ none)
    · rw [State.autoFile_of_full hx hfull, State.screen_touchStory_kept, State.screen_reportDesk_kept, State.raise_only]
      rfl

/-! ## A line restarted (R144) -/

theorem State.restartLine_only : s.restartLine n c =
    { s.updLine n fun l => l.restart c with
      stories := (s.stopViewing n).stories, screens := (s.restartLine n c).screens } := by
  have hstories : ((s.updLine n fun l => l.restart c).stopViewing n).stories = (s.stopViewing n).stories := by
    have hscreen : (s.updLine n fun l => l.restart c).screen n = s.screen n := rfl
    unfold State.stopViewing
    rw [hscreen]
    split <;> rfl
  unfold State.restartLine
  rw [State.stopViewing_only, hstories]
  rfl

theorem State.screen_restartLine_of_ne (hm : m ≠ n) : (s.restartLine n c).screen m = s.screen m := by
  unfold State.restartLine State.comeUp
  rw [State.screen_updScreen_of_ne _ _ _ _ hm, State.screen_updScreen_of_ne _ _ _ _ hm, State.stopViewing_only]
  rfl

/-- The screen of a line that was restarted: SIGNED_OFF under the line's profile, with nothing of its own left (R144). -/
def State.freshScreen (s : State) (c : LineConfig) : Screen :=
  Screen.risen c.profile (s.profile c.profile) c.idleLimit s.clock.time Screen.reset

theorem State.screen_restartLine (hline : n < s.lines.length) (hscreen : n < s.screens.length) :
    (s.restartLine n c).screen n = s.freshScreen c := by
  have honly := State.stopViewing_only (s := s.updLine n fun l => l.restart c) n
  have hconfig : (((((s.updLine n fun l => l.restart c).stopViewing n).updScreen n fun _ => Screen.reset).line n).config) = some c := by
    rw [honly]
    exact congrArg Line.config (State.line_updLine s n (fun l => l.restart c) hline)
  rw [State.restartLine, State.comeUp_eq hconfig, honly]
  rw [State.screen_updScreen _ _ _ (by simpa using hscreen), State.screen_updScreen _ _ _ (by simpa using hscreen)]
  rfl

theorem State.line_restartLine (hline : n < s.lines.length) : (s.restartLine n c).line n = (s.line n).restart c := by
  rw [State.restartLine_only]
  exact State.line_updLine s n _ hline

theorem State.autoFileOf_only (o : Option Nat) : Aside s (s.autoFileOf o) := by
  cases o with
  | none => exact .refl s
  | some k =>
    have haside : Aside s (s.autoFile k) := by
      rw [State.autoFile_only]
      exact .tables ..
    exact haside

/-- What a restart of a line leaves, whatever its screen had. -/
structure Restarts (s u : State) (n : Nat) (c : LineConfig) : Prop where
  aside : Aside { s with lines := s.lines.modify n fun l => l.restart c } u
  screen_eq : (u.screen n).kept = (s.freshScreen c).kept

theorem State.restarts_restart (hline : n < s.lines.length) (hscreen : n < s.screens.length) : Restarts s (s.restart n c) n c where
  aside := by
    refine Aside.trans ?_ (State.autoFileOf_only _)
    rw [State.restartLine_only]
    exact .tables ..
  screen_eq := by
    have hfresh := State.screen_restartLine (c := c) hline hscreen
    unfold State.restart
    cases (s.screen n).owned with
    | none => exact congrArg Screen.kept hfresh
    | some k =>
      have hoff : ((s.restartLine n c).screen n).signedOn = false := by
        rw [hfresh]
        rfl
      exact (State.screen_autoFile_of_away hoff).trans (congrArg Screen.kept hfresh)

theorem State.restart_of_owner {x : Story} (hstory : (s.screen n).story = some (k, .owner)) (hx : s.story k = some x)
    (hd : x.desk < s.baskets.length) : FiledOrOrphaned s (s.restart n c) k x := by
  have howned : (s.screen n).owned = some k := by rw [Screen.owned, hstory]
  have hstories : (s.stopViewing n).stories = s.stories := by rw [State.stopViewing, hstory]
  have honly := State.restartLine_only (s := s) (n := n) (c := c)
  rw [hstories] at honly
  have hx' : (s.restartLine n c).story k = some x := by
    rw [honly]
    exact hx
  have hd' : x.desk < (s.restartLine n c).baskets.length := by
    rw [honly]
    exact hd
  have hfiles := (State.autoFiles_autoFile hx').filedOrOrphaned hd'
  rw [State.restart, howned]
  change FiledOrOrphaned s ((s.restartLine n c).autoFile k) k x
  generalize (s.restartLine n c).autoFile k = u at hfiles
  rw [honly] at hfiles
  exact hfiles

theorem State.restart_of_viewer (hstory : (s.screen n).story = some (k, .viewer)) :
    s.restart n c = s.restartLine n c := by
  have howned : (s.screen n).owned = none := by rw [Screen.owned, hstory]
  rw [State.restart, howned]
  rfl

theorem State.restart_of_none (hstory : (s.screen n).story = none) : s.restart n c = s.restartLine n c := by
  have howned : (s.screen n).owned = none := by rw [Screen.owned, hstory]
  rw [State.restart, howned]
  rfl

/-- What a restart leaves of the story that its screen viewed. -/
theorem State.restart_viewed {x : Story} (hstory : (s.screen n).story = some (k, .viewer)) (hx : s.story k = some x) :
    (s.restart n c).story k = some { x with viewers := x.viewers.filter (· != n) } ∧ (s.restart n c).baskets = s.baskets ∧
      ∀ m, m ≠ k → (s.restart n c).story m = s.story m := by
  rw [State.restart_of_viewer hstory, State.restartLine_only, State.stopViewing_of_viewer hstory]
  exact ⟨State.story_leaveViewers hx, rfl, fun _ hm => State.story_leaveViewers_of_ne hm⟩

theorem State.restart_without_story (hstory : (s.screen n).story = none) :
    (s.restart n c).stories = s.stories ∧ (s.restart n c).baskets = s.baskets ∧
      ∀ m : Nat, m ≠ n → (s.restart n c).screen m = s.screen m := by
  have hstories : (s.stopViewing n).stories = s.stories := by rw [State.stopViewing, hstory]
  rw [State.restart_of_none hstory]
  refine ⟨?_, ?_, fun m hm => ?_⟩
  · rw [State.restartLine_only]
    exact hstories
  · rw [State.restartLine_only]
    rfl
  · exact State.screen_restartLine_of_ne hm

/-! ## LINE_CONFIGURE served -/

theorem length_lineBody (n : Nat) (c : LineConfig) (parity mask : Nat) : (lineBody n c parity mask).length ≤ 1024 := by
  simp [lineBody]

/-- A reply leaves the lines and the screens, but for what they send and lay out. -/
theorem line_served (u : State) (kind tag : Byte) (b : List Byte) (due : Bool) (m : Nat) :
    ((u.reply kind tag b due).settle.line m).kept = (u.line m).kept := State.line_settle_kept _ m

theorem screen_served (u : State) (kind tag : Byte) (b : List Byte) (due : Bool) (m : Nat) :
    ((u.reply kind tag b due).settle.screen m).kept = (u.screen m).kept := State.screen_settle_kept _ m

/-- Nothing changed but line n, which is l now, and screen n, which is x now. -/
structure LineSet (s u : State) (n : Nat) (l : Line) (x : Screen) : Prop where
  only : u = { s with lines := u.lines, screens := u.screens }
  line_eq : u.line n = l
  screen_eq : u.screen n = x
  line_ne : ∀ m, m ≠ n → u.line m = s.line m
  screen_ne : ∀ m, m ≠ n → u.screen m = s.screen m

theorem LineSet.served {u : State} {l : Line} {x : Screen} (h : LineSet s.hunt u n l x) (kind tag : Byte) (b : List Byte) :
    let t := (u.reply kind tag b (u.host.noticesDue != 0)).settle
    (t.line n).kept = l.kept ∧ (t.screen n).kept = x.kept ∧
      (∀ m : Nat, m ≠ n → (t.line m).kept = (s.line m).kept ∧ (t.screen m).kept = (s.screen m).kept) ∧
      SameCopy s t ∧ SameOutput s t ∧ t.profiles = s.profiles ∧ t.clock = s.clock ∧ Replied s t kind tag b := by
  obtain ⟨honly, hl, hx, hlines, hscreens⟩ := h
  have hhost : u.host = s.hunt.host := (congrArg State.host honly :)
  have hreplied := State.host_reply hhost kind tag b
  generalize (u.host.noticesDue != 0) = due at hreplied ⊢
  refine ⟨(line_served ..).trans (congrArg _ hl), (screen_served ..).trans (congrArg _ hx), fun m hm =>
    ⟨(line_served ..).trans (congrArg _ (hlines m hm)), (screen_served ..).trans (congrArg _ (hscreens m hm))⟩,
    ?_, ?_, ?_, ?_, hreplied⟩
  all_goals rw [honly]
  · exact ⟨rfl, rfl, rfl, rfl, rfl⟩
  · exact ⟨rfl, rfl, rfl, rfl, rfl⟩
  · rfl
  · rfl

theorem Screen.kept_risen (number : Nat) (p : Profile) (limit time : Nat) (x : Screen) :
    (Screen.risen number p limit time x).kept = { x.kept with
      profileNo := number, profile := p, mode := .signedOff, blanked := false, idle := loadIdle limit } := rfl

theorem lineSet_of_off (hline : n < s.lines.length) (hscreen : n < s.screens.length) (hoff : (s.line n).config = none) :
    ∃ u, s.configureLine n c = some u ∧ LineSet s u n ((s.line n).restart c)
      (Screen.risen c.profile (s.profile c.profile) c.idleLimit s.clock.time (s.screen n)) :=
  ⟨_, State.configureLine_of_off hoff hline, rfl, State.line_updLine s n _ hline, State.screen_updScreen _ _ _ hscreen,
    fun m hm => State.line_updLine_of_ne s n m _ hm, fun _ hm => State.screen_updScreen_of_ne _ _ _ _ hm⟩

theorem lineSet_of_same {old : LineConfig} (hline : n < s.lines.length) (hscreen : n < s.screens.length)
    (hconfig : (s.line n).config = some old) (hformat : old.sameFormat c = true)
    (hfree : old.profile = c.profile ∨ (s.screen n).mode ≠ .edit) :
    ∃ u, s.configureLine n c = some u ∧ LineSet s u n { s.line n with config := some c }
      (old.retimed c (s.restyled old c (s.screen n))) := by
  have honly := State.storeLine_only (s := s) (n := n) (old := old) (c := c)
  have hlines : (s.storeLine n old c).lines = (s.updLine n fun l => { l with config := some c }).lines := by rw [honly]
  refine ⟨_, State.configureLine_of_same hconfig hformat hfree, ?_, (State.line_of_lines hlines n).trans
    (State.line_updLine s n _ hline), State.screen_storeLine hline hscreen, fun m hm => (State.line_of_lines hlines m).trans
    (State.line_updLine_of_ne s n m _ hm), fun m hm => State.screen_storeLine_of_ne hm⟩
  rw [hlines, honly]
  rfl

theorem lineConfigure_outcome {u : State} {body b : List Byte} {tag : Byte} (hreply : s.host.reply = none)
    (hlength : body.length ≤ 1024) (h : reqLineConfigure body s.hunt = (u, b)) :
    exec (.lineConfigure tag body) s = .next (u.reply 0x91 tag b (u.host.noticesDue != 0)).settle :=
  requestOutcome_of_judged (kind := 0x11) tag hreply hlength rfl (by decide) h

theorem lineConfigure_of_busy {old stored : LineConfig} {parity mask : Nat} (tag : Byte) (hreply : s.host.reply = none)
    (htaken : c.Taken n parity mask) (hstored : stored = LineConfig.storedOver (s.hunt.line n).config mask c)
    (hconfig : (s.hunt.line n).config = some old) (hformat : old.sameFormat stored = true)
    (hprofile : old.profile ≠ stored.profile) (hedit : (s.hunt.screen n).mode = .edit) :
    exec (.lineConfigure tag (lineBody n c parity mask)) s = .next (s.answered 0x91 tag [0x08]).settle :=
  requestOutcome_of_same (kind := 0x11) tag hreply (length_lineBody ..) rfl (by decide)
    (reqLineConfigure_of_none htaken hstored (State.configureLine_of_busy hconfig hformat hprofile hedit))

/-- What a restart and its reply leave, but for the stories. -/
theorem Restarts.served {u : State} (h : Restarts s.hunt u n c) (hline : n < s.lines.length) (kind tag : Byte) (b : List Byte) :
    let t := (u.reply kind tag b (u.host.noticesDue != 0)).settle
    (t.line n).kept = { Line.reset with state := .up, config := some c } ∧ (t.screen n).kept = (s.freshScreen c).kept ∧
      (∀ m : Nat, m ≠ n → (t.line m).kept = (s.line m).kept) ∧ t.store = s.store ∧ t.desks = s.desks ∧ t.fit = s.fit ∧
      SameOutput s t ∧ t.profiles = s.profiles ∧ t.clock = s.clock := by
  obtain ⟨haside, hx⟩ := h
  have hl : u.line n = (s.line n).restart c :=
    (State.line_of_lines (s := s.updLine n fun l => l.restart c) haside.lines n).trans (State.line_updLine s n _ hline)
  refine ⟨(line_served ..).trans ((congrArg Line.kept hl).trans rfl), (screen_served ..).trans hx, fun m hm =>
    (line_served ..).trans (congrArg Line.kept ?_), haside.store, haside.desks, haside.fit, haside.sameOutput, haside.profiles,
    haside.clock⟩
  exact (State.line_of_lines (s := s.updLine n fun l => l.restart c) haside.lines m).trans (State.line_updLine_of_ne s n m _ hm)

/-- A reply leaves a story filed or orphaned as it was. -/
theorem FiledOrOrphaned.served {u : State} {k : Nat} {x : Story} (h : FiledOrOrphaned s u k x) (kind tag : Byte) (b : List Byte)
    (due : Bool) : FiledOrOrphaned s (u.reply kind tag b due).settle k x := by
  obtain ⟨hfiled, horphaned, helsewhere, hothers⟩ := h
  refine ⟨fun hroom => ?_, horphaned, helsewhere, hothers⟩
  obtain ⟨hstory, hjoins⟩ := hfiled hroom
  exact ⟨hstory, (hjoins.reply kind tag b due).settle⟩

theorem lineConfigure_of_other {old stored : LineConfig} {parity mask : Nat} (tag : Byte) (hreply : s.host.reply = none)
    (htaken : c.Taken n parity mask) (hstored : stored = LineConfig.storedOver (s.hunt.line n).config mask c)
    (hconfig : (s.hunt.line n).config = some old) (hformat : old.sameFormat stored = false) (hline : n < s.lines.length) :
    exec (.lineConfigure tag (lineBody n c parity mask)) s =
      .next ((s.hunt.restart n stored).reply 0x91 tag (lineReply mask c stored 1)
        ((s.hunt.restart n stored).host.noticesDue != 0)).settle := by
  have heq := reqLineConfigure_of_some htaken hstored (State.configureLine_of_other hconfig hformat)
  have hup : ((s.hunt.restart n stored).line n).state = .up := by
    have hl : (s.hunt.restart n stored).line n = (s.hunt.restartLine n stored).line n :=
      State.line_of_lines (State.autoFileOf_only _).lines n
    rw [hl, State.line_restartLine (s := s.hunt) hline]
    rfl
  rw [hup] at heq
  exact lineConfigure_outcome hreply (length_lineBody ..) heq

/-! ## What a stored configuration leaves of a screen -/

section
variable {old : LineConfig} {x : Screen}

theorem idle_retimed (y : Screen) (hlaid : y.laidOut = x.laidOut) (hidle : y.idle = x.idle) :
    (old.retimed c y).idle = if old.idleLimit ≠ c.idleLimit ∧ x.mode ≠ .down ∧ x.blanked = false then
      (if c.idleLimit = 0 then none else some c.idleLimit) else x.idle := by
  have hiff : x.laidOut = true ↔ x.mode ≠ .down ∧ x.blanked = false := by simp [Screen.laidOut]
  rw [← hlaid] at hiff
  by_cases h : old.idleLimit ≠ c.idleLimit ∧ y.laidOut = true
  · rw [LineConfig.retimed, if_pos h, if_pos (h.imp_right hiff.1)]
    rfl
  · rw [LineConfig.retimed, if_neg h, if_neg (mt (And.imp_right hiff.2) h), hidle]

theorem laidOut_restyled : (s.restyled old c x).laidOut = x.laidOut := by
  rw [State.restyled_only]
  rfl

theorem idle_restyled : (s.restyled old c x).idle = x.idle := by
  rw [State.restyled_only]

theorem restyled_of_same (h : old.profile = c.profile ∨ x.mode = .down ∨ x.blanked = true) : s.restyled old c x = x := by
  refine if_neg fun hboth => ?_
  obtain ⟨hprofile, hlaid⟩ := hboth
  rcases h with h | h | h
  · exact hprofile h
  · simp [Screen.laidOut, h] at hlaid
  · simp [Screen.laidOut, h] at hlaid

theorem restyled_of_laidOut (hprofile : old.profile ≠ c.profile) (hmode : x.mode ≠ .down) (hblank : x.blanked = false) :
    (s.restyled old c x).profileNo = c.profile ∧ (s.restyled old c x).profile = s.profile c.profile := by
  have hlaid : x.laidOut = true := by simp [Screen.laidOut, hmode, hblank]
  rw [State.restyled, if_pos ⟨hprofile, hlaid⟩, snapTop_only]
  exact ⟨rfl, rfl⟩

/-- The fields of a screen that a stored configuration keeps. -/
theorem retimed_restyled_keeps :
    let y := old.retimed c (s.restyled old c x)
    y.mode = x.mode ∧ y.blanked = x.blanked ∧ y.story = x.story ∧ y.cursor = x.cursor := by
  dsimp only
  rw [LineConfig.retimed_only, State.restyled_only]
  exact ⟨rfl, rfl, rfl, rfl⟩

end

end

/-- Settles O25: an OFF line comes UP (`lineSet_of_off`), a line whose format stays stores (`lineSet_of_same`), and any other is
restarted (`State.restarts_restart`). -/
theorem linesAreConfigured : Obligations.LinesAreConfigured := by
  intro tag ⟨n, hn⟩ c stored parity mask s hreply hlines hscreens hrate hdata hparity hstop hprofile hmask hidle hdead hgrace hstored
  have htaken : c.Taken n parity mask := ⟨hn, hrate, hdata, hparity, hstop, hprofile, hmask, hidle, hdead, hgrace⟩
  have hline : n < s.hunt.lines.length := lt_of_lt_of_eq hn hlines.symm
  have hscreen : n < s.hunt.screens.length := lt_of_lt_of_eq hn hscreens.symm
  have hstoredProfile : stored.profile = c.profile := hstored ▸ rfl
  have hbody := length_lineBody n c parity mask
  refine ⟨fun hoff => ?_, fun old hconfig h1 h2 h3 h4 => ?_, fun old hconfig hdiffers => ?_⟩
  · obtain ⟨u, hu, hset⟩ := lineSet_of_off (s := s.hunt) (c := stored) hline hscreen hoff
    have heq := reqLineConfigure_of_some (s := s.hunt) htaken hstored hu
    rw [hset.line_eq] at heq
    obtain ⟨hl, hx, hothers, hrest⟩ := hset.served 0x91 tag (lineReply mask c stored 1)
    rw [Screen.kept_risen, hstoredProfile] at hx
    exact ⟨_, lineConfigure_outcome hreply hbody heq, hl, (congrArg Screen.mode hx :), (congrArg Screen.blanked hx :),
      (congrArg Screen.profileNo hx :), (congrArg Screen.profile hx :), (congrArg Screen.idle hx :), hothers, hrest⟩
  · have hformat : old.sameFormat stored = true := LineConfig.sameFormat_iff.2 (hstored ▸ ⟨h1, h2, h3, h4⟩)
    rw [← hstoredProfile]
    refine ⟨fun hfree => ?_, fun hnew hedit => lineConfigure_of_busy tag hreply htaken hstored hconfig hformat hnew hedit⟩
    obtain ⟨u, hu, hset⟩ := lineSet_of_same (s := s.hunt) (c := stored) hline hscreen hconfig hformat hfree
    have heq := reqLineConfigure_of_some (s := s.hunt) htaken hstored hu
    rw [hset.line_eq] at heq
    obtain ⟨hl, hx, hothers, hrest⟩ := hset.served 0x91 tag (lineReply mask c stored (s.line n).state.code)
    obtain ⟨hmode, hblanked, hstory, hcursor⟩ := retimed_restyled_keeps (s := s.hunt) (old := old) (c := stored) (x := s.screen n)
    have hidle := idle_retimed (old := old) (c := stored) (s.hunt.restyled old stored (s.screen n)) laidOut_restyled idle_restyled
    have hnumber : (old.retimed stored (s.hunt.restyled old stored (s.screen n))).profileNo =
        (s.hunt.restyled old stored (s.screen n)).profileNo := by rw [LineConfig.retimed_only]
    have hprofile : (old.retimed stored (s.hunt.restyled old stored (s.screen n))).profile =
        (s.hunt.restyled old stored (s.screen n)).profile := by rw [LineConfig.retimed_only]
    refine ⟨_, lineConfigure_outcome hreply hbody heq, hl, (congrArg Screen.mode hx :).trans hmode,
      (congrArg Screen.blanked hx :).trans hblanked, (congrArg Screen.story hx :).trans hstory,
      (congrArg Screen.cursor hx :).trans hcursor, (congrArg Screen.idle hx :).trans hidle, fun hne hdown hblank => ?_,
      fun hsame => ?_, hothers, hrest⟩
    · obtain ⟨hno, hp⟩ := restyled_of_laidOut (s := s.hunt) hne hdown hblank
      exact ⟨(congrArg Screen.profileNo hx :).trans (hnumber.trans hno), (congrArg Screen.profile hx :).trans (hprofile.trans hp)⟩
    · have hx' := restyled_of_same (s := s.hunt) hsame
      exact ⟨(congrArg Screen.profileNo hx :).trans (hnumber.trans (congrArg Screen.profileNo hx')),
        (congrArg Screen.profile hx :).trans (hprofile.trans (congrArg Screen.profile hx'))⟩
  · have hformat : old.sameFormat stored = false := by
      rw [Bool.eq_false_iff, Ne, LineConfig.sameFormat_iff, hstored]
      rintro ⟨h1, h2, h3, h4⟩
      rcases hdiffers with h | h | h | h
      exacts [h h1, h h2, h h3, h h4]
    have heq := lineConfigure_of_other tag hreply htaken hstored hconfig hformat hline
    have howner := fun k x h hx hd => State.restart_of_owner (s := s.hunt) (n := n) (c := stored) (k := k) (x := x) h hx hd
    have hviewer := fun k x h hx => State.restart_viewed (s := s.hunt) (n := n) (c := stored) (k := k) (x := x) h hx
    have hnone := fun h => State.restart_without_story (s := s.hunt) (n := n) (c := stored) h
    obtain ⟨hl, hx, hlines, hstore, hdesks, hfit, houtput, hprofiles, hclock⟩ :=
      (State.restarts_restart (s := s.hunt) (c := stored) hline hscreen).served hline 0x91 tag (lineReply mask c stored 1)
    generalize s.hunt.restart n stored = u at *
    rw [State.freshScreen, Screen.kept_risen, hstoredProfile] at hx
    refine ⟨_, heq, hl, (congrArg Screen.mode hx :), (congrArg Screen.blanked hx :), (congrArg Screen.desk hx :),
      (congrArg Screen.story hx :), (congrArg Screen.prompt hx :), (congrArg Screen.ring hx :), (congrArg Screen.newMark hx :),
      (congrArg Screen.grace hx :), (congrArg Screen.hostMessage hx :), (congrArg Screen.profileNo hx :),
      (congrArg Screen.profile hx :), (congrArg Screen.idle hx :), hlines, fun k x h hx hd => ?_, hviewer, fun h => ?_,
      hstore, hdesks, hfit, houtput, hprofiles, hclock, rfl⟩
    · exact (show FiledOrOrphaned s u k x from howner k x h hx hd).served ..
    · obtain ⟨hstories, hbaskets, hscreens⟩ := hnone h
      exact ⟨hstories, hbaskets, fun m hm => (screen_served ..).trans (congrArg Screen.kept (hscreens m hm))⟩

end Sys2Proof.Machine
end

section
/-! SUPPORT. RESET SCREENS: every configured line restarted in turn, and then the owned stories filed in turn (R31, R45, R119, R156). -/

namespace Sys2Proof.Machine

section
variable {s t u : State} {n m k : Nat}

/-! ## The lines restarted in turn -/

/-- A line as a screens reset leaves it. -/
def Line.again (l : Line) : Line :=
  match l.config with
  | some c => l.restart c
  | none => l

/-- The screen of a line as a screens reset leaves it. -/
def State.screenAgain (s : State) (n : Nat) : Screen :=
  match (s.line n).config with
  | some c => s.freshScreen c
  | none => s.screen n

/-- Whether screen v, as a viewer of story k, leaves it in the restart of the first n lines. -/
def State.leavesBelow (s : State) (n k v : Nat) : Bool :=
  decide (v < n ∧ (s.line v).config ≠ none ∧ (s.screen v).story = some (k, .viewer))

/-- What the restart of the first n lines leaves. -/
structure RestartedBelow (s t : State) (n : Nat) : Prop where
  only : t = { s with lines := t.lines, stories := t.stories, screens := t.screens }
  lines_length : t.lines.length = s.lines.length
  screens_length : t.screens.length = s.screens.length
  stories_length : t.stories.length = s.stories.length
  line_eq : ∀ m, t.line m = if m < n then (s.line m).again else s.line m
  screen_eq : ∀ m, t.screen m = if m < n then s.screenAgain m else s.screen m
  story_eq : ∀ k, t.story k = (s.story k).map fun x => { x with viewers := x.viewers.filter fun v => !s.leavesBelow n k v }

theorem RestartedBelow.zero (s : State) : RestartedBelow s s 0 :=
  ⟨rfl, rfl, rfl, rfl, fun _ => rfl, fun _ => rfl, fun k => by simp [State.leavesBelow]⟩

theorem State.length_stories_stopViewing (n : Nat) : (s.stopViewing n).stories.length = s.stories.length := by
  unfold State.stopViewing
  split
  · exact List.length_modify ..
  · rfl

theorem State.length_screens_restartLine (n : Nat) (c : LineConfig) :
    (s.restartLine n c).screens.length = s.screens.length := by
  unfold State.restartLine State.comeUp
  rw [State.length_screens_updScreen, State.length_screens_updScreen, State.screens_stopViewing]
  rfl

theorem State.story_restartLine (n : Nat) (c : LineConfig) (k : Nat) :
    (s.restartLine n c).story k = (s.stopViewing n).story k := by
  rw [State.restartLine_only]
  rfl

theorem leavesBelow_succ (s : State) (n k v : Nat) : s.leavesBelow (n + 1) k v =
    (s.leavesBelow n k v || decide (v = n ∧ (s.line n).config ≠ none ∧ (s.screen n).story = some (k, .viewer))) := by
  rw [Bool.eq_iff_iff]
  simp only [State.leavesBelow, decide_eq_true_eq, Bool.or_eq_true]
  constructor
  · rintro ⟨hv, hrest⟩
    rcases Nat.lt_succ_iff_lt_or_eq.1 hv with h | rfl
    · exact Or.inl ⟨h, hrest⟩
    · exact Or.inr ⟨rfl, hrest⟩
  · rintro (⟨hv, hrest⟩ | ⟨rfl, hrest⟩)
    · exact ⟨by omega, hrest⟩
    · exact ⟨by omega, hrest⟩

/-- A table entry that the restart of line n sets, with those below it set before. -/
theorem ite_lt_succ {α : Type} (m n : Nat) (a b : α) :
    (if m < n + 1 then a else b) = if m = n then a else if m < n then a else b := by
  by_cases h : m = n
  · rw [if_pos h, if_pos (by omega)]
  · rw [if_neg h]
    exact if_congr (by omega) rfl rfl

theorem RestartedBelow.succ (h : RestartedBelow s t n) (hline : n < s.lines.length) (hscreen : n < s.screens.length) :
    RestartedBelow s (t.restartKept n) (n + 1) := by
  obtain ⟨honly, hlines, hscreens, hstories, hl, hc, hx⟩ := h
  have hln : t.line n = s.line n := (hl n).trans (if_neg (lt_irrefl n))
  have hcn : t.screen n = s.screen n := (hc n).trans (if_neg (lt_irrefl n))
  cases hconfig : (s.line n).config with
  | none =>
    have hsame : t.restartKept n = t := by rw [State.restartKept, hln, hconfig]
    have hagain : (s.line n).again = s.line n := by rw [Line.again, hconfig]
    have hscreenAgain : s.screenAgain n = s.screen n := by rw [State.screenAgain, hconfig]
    rw [hsame]
    refine ⟨honly, hlines, hscreens, hstories, fun m => ?_, fun m => ?_, fun k => ?_⟩
    · rw [ite_lt_succ]
      split
      · next hm => rw [hm, hln, hagain]
      · exact hl m
    · rw [ite_lt_succ]
      split
      · next hm => rw [hm, hcn, hscreenAgain]
      · exact hc m
    · simp only [hx k, leavesBelow_succ, hconfig]
      simp
  | some c =>
    have hkept : t.restartKept n = t.restartLine n c := by rw [State.restartKept, hln, hconfig]
    have hagain : (s.line n).again = (s.line n).restart c := by rw [Line.again, hconfig]
    have hfresh : t.freshScreen c = s.freshScreen c := by rw [State.freshScreen, honly]; rfl
    have hscreenAgain : s.screenAgain n = s.freshScreen c := by rw [State.screenAgain, hconfig]
    have hrestart := State.restartLine_only (s := t) (n := n) (c := c)
    have hlinesNow : (t.restartLine n c).lines = (t.updLine n fun l => l.restart c).lines := by rw [hrestart]
    have hstoriesNow : (t.restartLine n c).stories = (t.stopViewing n).stories := by rw [hrestart]
    rw [hkept]
    refine ⟨?_, ?_, ?_, ?_, fun m => ?_, fun m => ?_, fun k => ?_⟩
    · rw [hlinesNow, hstoriesNow]
      refine hrestart.trans ?_
      rw [honly]
      rfl
    · rw [hlinesNow]
      exact (List.length_modify ..).trans hlines
    · exact (State.length_screens_restartLine n c).trans hscreens
    · rw [hstoriesNow]
      exact (State.length_stories_stopViewing n).trans hstories
    · rw [ite_lt_succ, State.line_of_lines hlinesNow]
      split
      · next hm => rw [hm, State.line_updLine _ _ _ (hlines ▸ hline), hln, hagain]
      · next hm => rw [State.line_updLine_of_ne _ _ _ _ hm, hl m]
    · rw [ite_lt_succ]
      split
      · next hm => rw [hm, State.screen_restartLine (hlines ▸ hline) (hscreens ▸ hscreen), hfresh, hscreenAgain]
      · next hm => rw [State.screen_restartLine_of_ne hm, hc m]
    · rw [State.story_restartLine, State.story_stopViewing, hx k, hcn]
      cases s.story k with
      | none => simp
      | some x =>
        by_cases hview : (s.screen n).story = some (k, .viewer)
        · rw [if_pos hview]
          refine congrArg some (congrArg (fun l => ({ x with viewers := l } : Story)) ?_)
          rw [List.filter_filter]
          refine List.filter_congr fun v _ => ?_
          rw [leavesBelow_succ]
          by_cases hv : v = n <;> simp [hv, hconfig, hview]
        · simp [leavesBelow_succ, hconfig, hview]

theorem RestartedBelow.range (s : State) (h : n ≤ s.lines.length) (h' : n ≤ s.screens.length) :
    RestartedBelow s ((List.range n).foldl State.restartKept s) n := by
  induction n with
  | zero => exact .zero s
  | succ n ih =>
    rw [List.range_succ, List.foldl_append]
    exact (ih (by omega) (by omega)).succ (by omega) (by omega)

end

end Sys2Proof.Machine
end

section
/-! SUPPORT. The owned stories filed in turn, and RESET SCREENS (R31, R45, R119, R156). -/

namespace Sys2Proof.Machine

section
variable {s t u : State} {n m k : Nat}

/-! ## Stories filed in turn -/

theorem State.length_baskets_autoFile (k : Nat) : (s.autoFile k).baskets.length = s.baskets.length := by
  cases hx : s.story k with
  | none => rw [State.autoFile, hx]
  | some x =>
    rcases lt_or_ge (s.basket x.desk).length 64 with hroom | hfull
    · have hx' : (s.updStory k fun t => { t with state := .queued, owner := none }).story k = some x.asQueued := by
        rw [State.story_updStory, hx]
        rfl
      rw [State.autoFile_of_room hx hroom, State.toQueued, State.touchStory_only, State.enterBasket_only _ _ _ _ hx']
      exact List.length_modify ..
    · rw [((State.autoFiles_autoFile hx).orphaned hfull).2.1]

/-- The filing of one story leaves every story its desk and its viewers. -/
theorem State.story_autoFile_keeps {x : Story} (hx : s.story m = some x) (k : Nat) :
    ∃ y, (s.autoFile k).story m = some y ∧ y.desk = x.desk ∧ y.viewers = x.viewers := by
  by_cases hm : m = k
  · subst hm
    have hfiles := State.autoFiles_autoFile hx
    rcases lt_or_ge (s.basket x.desk).length 64 with hroom | hfull
    · exact ⟨_, (hfiles.filed hroom).1, rfl, rfl⟩
    · exact ⟨_, (hfiles.orphaned hfull).1, rfl, rfl⟩
  · cases hk : s.story k with
    | none => exact ⟨x, by rw [State.autoFile, hk]; exact hx, rfl, rfl⟩
    | some y => exact ⟨x, ((State.autoFiles_autoFile hk).others m hm).trans hx, rfl, rfl⟩

/-- What the filing of stories leaves of the host line. -/
structure HostKept (s u : State) : Prop where
  enables : u.host.enables = s.host.enables
  raised : ∀ f, s.host.raised f = true → u.host.raised f = true

theorem State.hostKept_autoFile (k : Nat) : HostKept s (s.autoFile k) := by
  cases hx : s.story k with
  | none => rw [State.autoFile, hx]; exact ⟨rfl, fun _ h => h⟩
  | some x =>
    have hfiles := State.autoFiles_autoFile hx
    rcases lt_or_ge (s.basket x.desk).length 64 with hroom | hfull
    · have hhost := (hfiles.filed hroom).2.2
      exact ⟨by rw [hhost], fun f h => by rwa [hhost]⟩
    · have hhost := (hfiles.orphaned hfull).2.2
      exact ⟨by rw [hhost]; exact State.enables_raise _, fun f h => by rw [hhost]; exact State.raised_raise_of_raised h _⟩

theorem filedInTurn_foldl {l : List Nat} (h : ∀ k ∈ l, ∃ x, s.story k = some x ∧ x.desk < s.baskets.length) :
    FiledInTurn l s (l.foldl State.autoFile s) := by
  induction l generalizing s with
  | nil => exact ⟨rfl, rfl, rfl, fun _ h => h⟩
  | cons k l ih =>
    obtain ⟨x, hx, hd⟩ := h k (by simp)
    have hfiles := State.autoFiles_autoFile hx
    have hhost := State.hostKept_autoFile (s := s) k
    refine ⟨x, s.autoFile k, hx, hfiles.filedOrOrphaned hd, hfiles.aside.clock, hhost.enables, hhost.raised,
      ih fun j hj => ?_⟩
    obtain ⟨y, hy, hyd⟩ := h j (by simp [hj])
    obtain ⟨z, hz, hzd, -⟩ := State.story_autoFile_keeps hy k
    exact ⟨z, hz, by rw [hzd, State.length_baskets_autoFile]; exact hyd⟩

theorem FiledInTurn.congr {l : List Nat} (h : FiledInTurn l s t) (hstories : u.stories = t.stories)
    (hbaskets : u.baskets = t.baskets) (hhost : HostKept t u) : FiledInTurn l s u := by
  induction l generalizing s with
  | nil =>
    obtain ⟨h1, h2, h3, h4⟩ := h
    exact ⟨hstories.trans h1, hbaskets.trans h2, hhost.enables.trans h3, fun f hf => hhost.raised f (h4 f hf)⟩
  | cons k l ih =>
    obtain ⟨x, v, hx, hfiled, hclock, henables, hraised, hrest⟩ := h
    exact ⟨x, v, hx, hfiled, hclock, henables, hraised, ih hrest⟩

/-- What the filing of stories in turn leaves. -/
structure FiledAll (s u : State) : Prop where
  aside : Aside s u
  keyTurn : u.keyTurn = s.keyTurn
  screens : ∀ m, (s.screen m).signedOn = false → (u.screen m).kept = (s.screen m).kept
  viewers : ∀ m x, s.story m = some x → ∃ y, u.story m = some y ∧ y.viewers = x.viewers

theorem State.filedAll_foldl (l : List Nat) : FiledAll s (l.foldl State.autoFile s) := by
  refine s.foldl_keeps (FiledAll s) _ (fun t k ht => ?_) l
    ⟨.refl s, rfl, fun _ _ => rfl, fun _ x hx => ⟨x, hx, rfl⟩⟩
  obtain ⟨haside, hturn, hscreens, hviewers⟩ := ht
  refine ⟨haside.trans ?_, ?_, fun m hm => ?_, fun m x hx => ?_⟩
  · rw [State.autoFile_only]
    exact .tables ..
  · rw [State.autoFile_only]
    exact hturn
  · have hkept := hscreens m hm
    have hmode : (t.screen m).mode = (s.screen m).mode := (congrArg Screen.mode hkept :)
    have hoff : (t.screen m).signedOn = false := by rw [Screen.signedOn, hmode]; exact hm
    exact (State.screen_autoFile_of_away hoff).trans hkept
  · obtain ⟨y, hy, hv⟩ := hviewers m x hx
    obtain ⟨z, hz, -, hzv⟩ := State.story_autoFile_keeps hy k
    exact ⟨z, hz, hzv.trans hv⟩

end

section
variable {s : State}

/-! ## RESET SCREENS -/

/-- The stories that screens own, in ascending order of screen (R156). -/
def State.ownedStories (s : State) : List Nat := (List.range Config.lines).filterMap fun n => (s.screen n).owned

theorem State.screensReset_eq : s.screensReset =
    s.ownedStories.foldl State.autoFile ((List.range 32).foldl State.restartKept s) := rfl

/-- What a screens reset leaves, but for the order of the filing. -/
structure ScreensReset (s u : State) : Prop where
  line_eq : ∀ n < 32, u.line n = (s.line n).again
  screen_eq : ∀ n < 32, ∀ c, (s.line n).config = some c → (u.screen n).kept = (s.freshScreen c).kept
  left : ∀ n < 32, ∀ k x, (s.line n).config ≠ none → (s.screen n).story = some (k, .viewer) → s.story k = some x →
    ∃ y, u.story k = some y ∧ n ∉ y.viewers
  only : Aside { s with lines := u.lines } u
  keyTurn : u.keyTurn = s.keyTurn

theorem State.screensReset_facts (hlines : s.lines.length = 32) (hscreens : s.screens.length = 32) :
    ScreensReset s s.screensReset := by
  have hbelow := RestartedBelow.range (n := 32) s hlines.ge hscreens.ge
  have hall := State.filedAll_foldl (s := (List.range 32).foldl State.restartKept s) s.ownedStories
  rw [State.screensReset_eq]
  generalize (List.range 32).foldl State.restartKept s = t at hbelow hall
  generalize s.ownedStories.foldl State.autoFile t = u at hall ⊢
  obtain ⟨honly, -, -, -, hl, hc, hx⟩ := hbelow
  obtain ⟨haside, hturn, hkept, hviewers⟩ := hall
  refine ⟨fun n hn => ?_, fun n hn c hconfig => ?_, fun n hn k x hconfig hview hstory => ?_, ?_, ?_⟩
  · rw [State.line_of_lines haside.lines, hl, if_pos hn]
  · have hscreen : t.screen n = s.freshScreen c := by
      rw [hc, if_pos hn, State.screenAgain, hconfig]
    have hoff : (t.screen n).signedOn = false := by
      rw [hscreen]
      rfl
    exact (hkept n hoff).trans (congrArg Screen.kept hscreen)
  · obtain ⟨y, hy, hv⟩ := hviewers k _ ((hx k).trans (congrArg _ hstory))
    refine ⟨y, hy, ?_⟩
    rw [hv]
    have hleaves : s.leavesBelow 32 k n = true := decide_eq_true ⟨hn, hconfig, hview⟩
    simp [hleaves]
  · rw [honly] at haside
    exact ⟨haside.store, haside.desks, haside.fit, haside.profiles, rfl, haside.pages, haside.settingQueue, haside.edition,
      haside.link, haside.proof, haside.clock, haside.strapPins, haside.pending⟩
  · rw [hturn, honly]

/-- In a copy that agrees with its screens every viewer has a configured line, and so leaves. -/
theorem CopyConsistent.leavesBelow (h : CopyConsistent s) {k v : Nat} {x : Story} (hx : s.story k = some x)
    (hv : v ∈ x.viewers) : s.leavesBelow 32 k v = true := by
  obtain ⟨⟨hstories, -⟩, -, -, ⟨hscreens, htied⟩, -⟩ := h
  have hk : k < 512 := by
    by_contra hk
    have hnone : s.story k = none := by
      rw [State.story, List.getD_eq_getElem?_getD, List.getElem?_eq_none (by omega)]
      rfl
    rw [hnone] at hx
    exact Option.some_ne_none x hx.symm
  obtain ⟨hlt, hview⟩ := (htied k hk x hx).2 v hv
  obtain ⟨-, ⟨-, -, -, hempty⟩, -⟩ := hscreens ⟨v, hlt⟩
  refine decide_eq_true ⟨hlt, fun hconfig => ?_, hview⟩
  rw [hempty hconfig] at hview
  exact Option.some_ne_none _ hview.symm

theorem CopyConsistent.restartKept_stories (h : CopyConsistent s) :
    ((List.range 32).foldl State.restartKept s).stories = s.stories.map (Option.map fun x => { x with viewers := [] }) := by
  obtain ⟨-, -, -, hlength, -, -, hx⟩ := RestartedBelow.range (n := 32) s h.1.2.2.2.2.1.ge h.1.2.2.2.1.ge
  refine List.ext_getElem (by rw [hlength, List.length_map]) fun k hk hk' => ?_
  have hk0 : k < s.stories.length := hlength ▸ hk
  have hstory := hx k
  rw [State.story, List.getD_eq_getElem _ _ hk] at hstory
  rw [hstory, List.getElem_map]
  have hold : s.story k = s.stories[k] := List.getD_eq_getElem _ _ hk0
  rw [← hold]
  cases hsx : s.story k with
  | none => rfl
  | some x =>
    refine congrArg some (congrArg (fun l => ({ x with viewers := l } : Story)) ?_)
    exact List.filter_eq_nil_iff.2 fun v hv => by simp [h.leavesBelow hsx hv]

/-- Each story that a screen owns has a record at a desk of the table. -/
theorem CopyConsistent.owned_desk (h : CopyConsistent s) {k : Nat} (hk : k ∈ s.ownedStories) :
    ∃ x, s.story k = some x ∧ x.desk < s.baskets.length := by
  obtain ⟨⟨-, -, hbaskets, -⟩, ⟨-, hdesks⟩, -, ⟨hscreens, -⟩, -⟩ := h
  obtain ⟨n, hn, howned⟩ := List.mem_filterMap.1 hk
  have hstory : (s.screen n).story = some (k, .owner) := by
    unfold Screen.owned at howned
    split at howned
    · next heq => rw [heq, Option.some.inj howned]
    · exact absurd howned (Option.some_ne_none _).symm
  obtain ⟨-, -, htied⟩ := hscreens ⟨n, List.mem_range.1 hn⟩
  obtain ⟨hk512, x, hx, -⟩ := htied (k, .owner) hstory
  exact ⟨x, hx, lt_of_lt_of_eq (hdesks k hk512 x hx).1 hbaskets.symm⟩

theorem CopyConsistent.filedInTurn (h : CopyConsistent s) :
    FiledInTurn s.ownedStories ((List.range 32).foldl State.restartKept s) s.screensReset := by
  have hbelow := RestartedBelow.range (n := 32) s h.1.2.2.2.2.1.ge h.1.2.2.2.1.ge
  refine filedInTurn_foldl fun k hk => ?_
  obtain ⟨x, hx, hd⟩ := h.owned_desk hk
  refine ⟨_, (hbelow.story_eq k).trans (congrArg _ hx), ?_⟩
  rw [hbelow.only]
  exact hd

end

/-- Settles O23: the lines restart in turn (`RestartedBelow.range`), and then the owned stories are filed in turn
(`filedInTurn_foldl`). -/
theorem screensResetSignsEveryScreenOff : Obligations.ScreensResetSignsEveryScreenOff := by
  intro tag s hreply hlines hscreens
  have heq := requestOutcome_of_judged (kind := 0x03) (body := [0]) tag hreply (by decide) rfl (by decide)
    (show reqReset [0] s.hunt = (s.hunt.screensReset, [0x00]) from rfl)
  obtain ⟨hline, hscreen, hleft, honly, hturn⟩ := State.screensReset_facts (s := s.hunt) hlines hscreens
  have hinTurn : CopyConsistent s → _ := fun h => CopyConsistent.filedInTurn (s := s.hunt) h
  generalize s.hunt.screensReset = v at *
  refine ⟨_, heq, fun n c hconfig => ?_, fun n hconfig => ?_, fun n k x hconfig hview hx => hleft n n.isLt k x hconfig hview hx,
    fun hcopy => ?_, honly.store, honly.desks, honly.profiles, honly.pages, honly.link, honly.settingQueue, honly.edition,
    honly.clock, hturn⟩
  · have hl : (v.line n).kept = ((s.line n).restart c).kept := congrArg Line.kept ((hline n n.isLt).trans (by
      rw [Line.again, show (s.hunt.line n).config = some c from hconfig]
      rfl))
    have hl' := (line_served v (3 + 0x80) tag [0x00] (v.host.noticesDue != 0) n).trans hl
    have hc' := (screen_served v (3 + 0x80) tag [0x00] (v.host.noticesDue != 0) n).trans (hscreen n n.isLt c hconfig)
    exact ⟨(congrArg Line.state hl' :), (congrArg Line.config hl' :), (congrArg Line.queue hl' :), (congrArg Line.holding hl' :),
      (congrArg Line.breakTimer hl' :), (congrArg Line.summary hl' :), (congrArg Screen.mode hc' :),
      (congrArg Screen.blanked hc' :), (congrArg Screen.desk hc' :), (congrArg Screen.story hc' :),
      (congrArg Screen.prompt hc' :), (congrArg Screen.ring hc' :), (congrArg Screen.newMark hc' :),
      (congrArg Screen.grace hc' :), (congrArg Screen.hostMessage hc' :), (congrArg Screen.idle hc' :)⟩
  · have hl : v.line n = s.line n := (hline n n.isLt).trans (by
      rw [Line.again, show (s.hunt.line n).config = none from hconfig]
      rfl)
    exact (congrArg Line.state ((line_served v (3 + 0x80) tag [0x00] (v.host.noticesDue != 0) n).trans (congrArg Line.kept hl)) :)
  · have hcopy' : CopyConsistent s.hunt := hcopy
    have hu := (RestartedBelow.range (n := 32) s.hunt hlines.ge hscreens.ge).only
    have hstories := hcopy'.restartKept_stories
    have hfiled := hinTurn hcopy
    generalize (List.range 32).foldl State.restartKept s.hunt = u at hu hstories hfiled
    refine ⟨u, hstories, ?_, ?_, ?_, fun f hf => ?_, hfiled.congr rfl rfl ⟨rfl, fun _ h => h⟩⟩
    all_goals rw [hu]
    · rfl
    · rfl
    · rfl
    · exact hf

end Sys2Proof.Machine
end

section
/-! SUPPORT. The three limits invariants taken apart: what of each speaks of the room of stories, baskets, screens and lines, what of the
fits, and what of the pages and the link (R22 to R24, R52, R64, R79, R82, R91, R141, R164, R187). -/

namespace Sys2Proof.Machine

/-! ## Tables read through their numbers -/

theorem forall_mem_iff_getD {α : Type} {l : List α} {d : α} {P : α → Prop} (hd : P d) : (∀ a ∈ l, P a) ↔ ∀ n, P (l.getD n d) := by
  refine ⟨fun h n => ?_, fun h a ha => ?_⟩
  · rw [List.getD_eq_getElem?_getD]
    cases hn : l[n]? with
    | none => exact hd
    | some a => exact h a (List.mem_of_getElem? hn)
  · obtain ⟨n, hn, rfl⟩ := List.getElem_of_mem ha
    have := h n
    rwa [List.getD_eq_getElem _ _ hn] at this

/-! ## The room: stories, baskets, screens and lines -/

/-- What ties a record to the baskets and the screens. -/
def Story.tie (x : Story) : Nat × StoryState × Option Nat × List Nat := (x.desk, x.state, x.owner, x.viewers)

/-- The ties of a record; none while it is EMPTY. -/
def State.tie (s : State) (k : Nat) : Option (Nat × StoryState × Option Nat × List Nat) := (s.story k).map Story.tie

/-- The stories of a basket, in its order. -/
def State.held (s : State) (d : Nat) : List Nat := (s.basket d).map Entry.story

/-- Whether a story of a state stands in its desk's basket (R22). -/
def StoryState.stored (st : StoryState) : Prop := st = .queued ∨ st = .setting

/-- The desk and the state of a record; none while it is EMPTY. -/
def State.seat (s : State) (k : Nat) : Option (Nat × StoryState) := (s.story k).map fun x => (x.desk, x.state)

/-- Screen n holds story k in a role. -/
def State.shows (s : State) (n k : Nat) (r : Role) : Prop := (s.screen n).story = some (k, r)

/-- Story k's record names screen n in a role. -/
def State.names (s : State) (n k : Nat) (r : Role) : Prop :=
  ∃ x, s.story k = some x ∧ if r = .owner then x.owner = some n else n ∈ x.viewers

/-- The room within its capacities. -/
structure RoomWide (s : State) : Prop where
  desks : s.desks.length = 16
  baskets : s.baskets.length = 16
  profiles : s.profiles.length = 4
  screens : s.screens.length = 32
  lines : s.lines.length = 32
  held : ∀ d, (s.held d).length ≤ 64
  viewers : ∀ k x, s.story k = some x → x.viewers.length ≤ 8
  queue : ∀ n, (s.line n).queue.length ≤ 8
  screen : ∀ n, (s.screen n).bells ≤ 4 ∧ (s.screen n).escape ≤ 4

/-- The room in agreement. -/
structure RoomHolds (s : State) : Prop where
  stories : s.stories.length = 512
  desks : s.desks.length = 16
  baskets : s.baskets.length = 16
  screens : s.screens.length = 32
  lines : s.lines.length = 32
  basketsHold : BasketsHold s
  screensHold : ScreensHold s

/-- A screen's ring list and buffer within their sizes, but for the length of the ring list, which its basket bounds (R64, R91, R123).
`P d n` says that story n stands in the basket of desk d. -/
structure Screen.Listed (P : Nat → Nat → Prop) (c : Screen) : Prop where
  nodup : c.ring.Nodup
  buffer : c.buffer.length ≤ 12
  signedOn : c.ring ≠ [] → c.signedOn = true
  desk : c.ring ≠ [] → ∃ d, c.desk = some d ∧ ∀ n ∈ c.ring, P d n

/-- The ring lists and the buffers within their sizes. -/
def RoomLists (s : State) : Prop := ∀ n, (s.screen n).Listed fun d k => k ∈ s.held d

/-! ## The fits -/

structure FitWide (s : State) : Prop where
  faces : s.fit.faces.length = 8
  quiet : s.fit.quiet ≤ 50

/-- The refit list and the fit queue hold each story at most once. -/
structure FitLists (s : State) : Prop where
  refit : (s.fit.refit.map RefitEntry.story).Nodup
  refit_lt : ∀ e ∈ s.fit.refit, e.story < 512
  queue : s.fit.queue.Nodup
  queue_lt : ∀ n ∈ s.fit.queue, n < 512

/-! ## The output: pages, edition, link and proof -/

structure OutWide (s : State) : Prop where
  pages : s.pages.length = 32
  queue : s.settingQueue.length ≤ 8
  window : s.link.window.length ≤ 32
  edition_pos : 1 ≤ s.edition.number
  edition_le : s.edition.number ≤ 99

structure OutHolds (s : State) : Prop where
  pages : s.pages.length = 32
  pagesHold : PagesHold s

/-- The return receiver holds no more than three bytes of a message (R209). -/
def Receiver.within (r : Receiver) : Prop :=
  match r with
  | .hunting => True
  | .assembling got => got.length ≤ 3

/-- The link's counts and its receiver within their sizes. -/
structure Link.Listed (l : Link) : Prop where
  quiet : l.quietCount ≤ 255
  active : l.activeCount ≤ 255
  config : ∀ c ∈ l.config, c.losAssert ≤ 255 ∧ c.losClear ≤ 255
  receiver : l.receiver.within

/-! ## The invariants from their parts -/

section
variable {s : State}

theorem withinLimits_iff : WithinLimits s ↔ RoomWide s ∧ FitWide s ∧ OutWide s := by
  have hheld : (∀ l ∈ s.baskets, l.length ≤ 64) ↔ ∀ d, (s.held d).length ≤ 64 := by
    rw [forall_mem_iff_getD (d := []) (P := fun l : List Entry => l.length ≤ 64) (by decide)]
    exact forall_congr' fun d => by rw [State.held, List.length_map]; rfl
  have hviewers : (∀ t ∈ s.stories, ∀ x ∈ t, x.viewers.length ≤ 8) ↔ ∀ k x, s.story k = some x → x.viewers.length ≤ 8 := by
    simp only [Option.mem_def]
    exact forall_mem_iff_getD (d := none) (P := fun t : Option Story => ∀ x, t = some x → x.viewers.length ≤ 8)
      fun x hx => absurd hx.symm (Option.some_ne_none x)
  have hqueue : (∀ l ∈ s.lines, l.queue.length ≤ 8) ↔ ∀ n, (s.line n).queue.length ≤ 8 :=
    forall_mem_iff_getD (d := Line.reset) (P := fun l : Line => l.queue.length ≤ 8) (by decide)
  have hscreen : (∀ c ∈ s.screens, c.bells ≤ 4 ∧ c.escape ≤ 4) ↔ ∀ n, (s.screen n).bells ≤ 4 ∧ (s.screen n).escape ≤ 4 :=
    forall_mem_iff_getD (d := Screen.reset) (P := fun c : Screen => c.bells ≤ 4 ∧ c.escape ≤ 4) (by decide)
  rw [WithinLimits, hheld, hviewers, hqueue, hscreen]
  constructor
  · rintro ⟨h1, h2, h3, h4, h5, h6, h7, h8, h9, h10, h11, h12, h13, h14, h15, h16⟩
    exact ⟨⟨h1, h2, h4, h5, h6, h8, h9, h10, h14⟩, ⟨h3, h11⟩, ⟨h7, h12, h13, h15, h16⟩⟩
  · rintro ⟨⟨h1, h2, h4, h5, h6, h8, h9, h10, h14⟩, ⟨h3, h11⟩, ⟨h7, h12, h13, h15, h16⟩⟩
    exact ⟨h1, h2, h3, h4, h5, h6, h7, h8, h9, h10, h11, h12, h13, h14, h15, h16⟩

theorem copyConsistent_iff : CopyConsistent s ↔ RoomHolds s ∧ FitsHold s ∧ OutHolds s := by
  constructor
  · rintro ⟨⟨h1, h2, h3, h4, h5, h6⟩, hb, hf, hs, hp⟩
    exact ⟨⟨h1, h2, h3, h4, h5, hb, hs⟩, hf, ⟨h6, hp⟩⟩
  · rintro ⟨⟨h1, h2, h3, h4, h5, hb, hs⟩, hf, ⟨h6, hp⟩⟩
    exact ⟨⟨h1, h2, h3, h4, h5, h6⟩, hb, hf, hs, hp⟩

/-- A list of different numbers below a bound is no longer than the bound. -/
theorem length_le_of_nodup_lt {l : List Nat} {n : Nat} (h : l.Nodup) (hlt : ∀ a ∈ l, a < n) : l.length ≤ n := by
  have hsub : l ⊆ List.range n := fun a ha => List.mem_range.2 (hlt a ha)
  simpa using (h.subperm hsub).length_le

/-- A ring list is no longer than the basket that holds its stories. -/
theorem Screen.Listed.ring_length {c : Screen} (h : c.Listed fun d k => k ∈ s.held d) (hw : RoomWide s) : c.ring.length ≤ 64 := by
  by_cases hring : c.ring = []
  · simp [hring]
  · obtain ⟨d, -, hd⟩ := h.desk hring
    exact ((h.nodup.subperm hd).length_le).trans (hw.held d)

theorem listsWithinLimits_iff (hw : RoomWide s) : ListsWithinLimits s ↔ RoomLists s ∧ FitLists s ∧ s.link.Listed := by
  have hreset : Screen.reset.ring.Nodup ∧ Screen.reset.ring.length ≤ 64 ∧ Screen.reset.buffer.length ≤ 12 ∧
      (Screen.reset.ring ≠ [] → Screen.reset.signedOn = true ∧
        ∃ d ∈ Screen.reset.desk, ∀ n ∈ Screen.reset.ring, ∃ e ∈ s.basket d, e.story = n) :=
    ⟨List.nodup_nil, by decide, by decide, fun h => absurd rfl h⟩
  have hscreens := forall_mem_iff_getD (l := s.screens) (d := Screen.reset) (P := fun c => c.ring.Nodup ∧ c.ring.length ≤ 64 ∧
    c.buffer.length ≤ 12 ∧ (c.ring ≠ [] → c.signedOn = true ∧ ∃ d ∈ c.desk, ∀ n ∈ c.ring, ∃ e ∈ s.basket d, e.story = n)) hreset
  have hheld : ∀ d k, k ∈ s.held d ↔ ∃ e ∈ s.basket d, e.story = k := fun d k => List.mem_map
  rw [ListsWithinLimits, hscreens]
  constructor
  · rintro ⟨h1, h2, -, h4, h5, -, h7, h8, h9, h10, h11⟩
    refine ⟨fun n => ?_, ⟨h1, h2, h4, h5⟩, ⟨h8, h9, h10, h11⟩⟩
    obtain ⟨hnodup, -, hbuffer, hring⟩ := h7 n
    refine ⟨hnodup, hbuffer, fun hne => (hring hne).1, fun hne => ?_⟩
    obtain ⟨-, d, hd, hmem⟩ := hring hne
    exact ⟨d, hd, fun m hm => (hheld d m).2 (hmem m hm)⟩
  · rintro ⟨h7, ⟨h1, h2, h4, h5⟩, ⟨h8, h9, h10, h11⟩⟩
    refine ⟨h1, h2, ?_, h4, h5, length_le_of_nodup_lt h4 h5, fun n => ?_, h8, h9, h10, h11⟩
    · have hlength := length_le_of_nodup_lt h1 (n := 512) fun a ha => by
        obtain ⟨e, he, rfl⟩ := List.mem_map.1 ha
        exact h2 e he
      rwa [List.length_map] at hlength
    · have hn := h7 n
      refine ⟨hn.nodup, hn.ring_length hw, hn.buffer, fun hne => ⟨hn.signedOn hne, ?_⟩⟩
      obtain ⟨d, hd, hmem⟩ := hn.desk hne
      exact ⟨d, hd, fun m hm => (hheld d m).1 (hmem m hm)⟩

end

/-! ## What a step keeps -/

/-- The room stays within its capacities, in agreement and, where it agrees, within its lists' sizes. -/
structure RoomKeeps (s t : State) : Prop where
  wide : RoomWide s → RoomWide t
  holds : RoomHolds s → RoomHolds t
  lists : RoomHolds s → RoomLists s → RoomLists t

/-- The fits stay so. -/
structure FitKeeps (s t : State) : Prop where
  wide : FitWide s → FitWide t
  holds : RoomHolds s → FitsHold s → FitsHold t
  lists : RoomHolds s → FitLists s → FitLists t

/-- The output stays so. -/
structure OutKeeps (s t : State) : Prop where
  wide : OutWide s → OutWide t
  holds : OutHolds s → OutHolds t
  lists : s.link.Listed → t.link.Listed

/-- All of it stays so. -/
structure Keeps (s t : State) : Prop where
  room : RoomKeeps s t
  fit : FitKeeps s t
  out : OutKeeps s t

section
variable {s t u : State}

theorem RoomKeeps.refl (s : State) : RoomKeeps s s := ⟨id, id, fun _ h => h⟩

theorem RoomKeeps.trans (h : RoomKeeps s t) (k : RoomKeeps t u) : RoomKeeps s u :=
  ⟨k.wide ∘ h.wide, k.holds ∘ h.holds, fun hs hl => k.lists (h.holds hs) (h.lists hs hl)⟩

theorem FitKeeps.refl (s : State) : FitKeeps s s := ⟨id, fun _ h => h, fun _ h => h⟩

theorem OutKeeps.refl (s : State) : OutKeeps s s := ⟨id, id, id⟩

theorem OutKeeps.trans (h : OutKeeps s t) (k : OutKeeps t u) : OutKeeps s u :=
  ⟨k.wide ∘ h.wide, k.holds ∘ h.holds, k.lists ∘ h.lists⟩

theorem Keeps.refl (s : State) : Keeps s s := ⟨.refl s, .refl s, .refl s⟩

theorem Keeps.trans (h : Keeps s t) (k : Keeps t u) : Keeps s u where
  room := h.room.trans k.room
  fit :=
    ⟨k.fit.wide ∘ h.fit.wide, fun hr hf => k.fit.holds (h.room.holds hr) (h.fit.holds hr hf),
      fun hr hl => k.fit.lists (h.room.holds hr) (h.fit.lists hr hl)⟩
  out := h.out.trans k.out

/-- What is kept of the parts is kept of the invariants. -/
theorem Keeps.invariants (h : Keeps s t) :
    (WithinLimits s → WithinLimits t) ∧ (CopyConsistent s → CopyConsistent t) ∧
      (WithinLimits s → CopyConsistent s → ListsWithinLimits s → ListsWithinLimits t) := by
  have hwide : WithinLimits s → WithinLimits t := fun hs => by
    obtain ⟨hr, hf, ho⟩ := withinLimits_iff.1 hs
    exact withinLimits_iff.2 ⟨h.room.wide hr, h.fit.wide hf, h.out.wide ho⟩
  have hholds : CopyConsistent s → CopyConsistent t := fun hs => by
    obtain ⟨hr, hf, ho⟩ := copyConsistent_iff.1 hs
    exact copyConsistent_iff.2 ⟨h.room.holds hr, h.fit.holds hr hf, h.out.holds ho⟩
  refine ⟨hwide, hholds, fun hw hc hl => ?_⟩
  have hroom := (copyConsistent_iff.1 hc).1
  obtain ⟨hr, hf, ho⟩ := (listsWithinLimits_iff (withinLimits_iff.1 hw).1).1 hl
  exact (listsWithinLimits_iff (withinLimits_iff.1 (hwide hw)).1).2
    ⟨h.room.lists hroom hr, h.fit.lists hroom hf, h.out.lists ho⟩

/-- Whatever reaches a state that meets the invariants keeps them. -/
theorem Keeps.of_meets (hw : WithinLimits t) (hc : CopyConsistent t) (hl : ListsWithinLimits t) : Keeps s t := by
  obtain ⟨hr, hf, ho⟩ := withinLimits_iff.1 hw
  obtain ⟨kr, kf, ko⟩ := copyConsistent_iff.1 hc
  obtain ⟨lr, lf, lo⟩ := (listsWithinLimits_iff hr).1 hl
  exact ⟨⟨fun _ => hr, fun _ => kr, fun _ _ => lr⟩, ⟨fun _ => hf, fun _ _ => kf, fun _ _ => lf⟩,
    ⟨fun _ => ho, fun _ => ko, fun _ => lo⟩⟩

end

end Sys2Proof.Machine
end

section
/-! SUPPORT. What a command that moves no story leaves of the screens, the lines, the ties of the stories, the fits and the output, and
that it keeps every part of the limits invariants (R22 to R24, R52, R64, R91, R123, R141). -/

namespace Sys2Proof.Machine

/-! ## A screen that keeps its place -/

/-- Screen d has the state, the desk, the story and the grace of screen c, a prompt of that state, and no more bells, keys or stories
than c or than its limits, but for the arrivals A at its desk: `A e m` says that story m arrives at desk e. -/
structure Screen.Follows (A : Nat → Nat → Prop) (c d : Screen) : Prop where
  mode : d.mode = c.mode
  desk : d.desk = c.desk
  story : d.story = c.story
  grace : d.grace.isSome = c.grace.isSome
  asks : c.mode.asks c.prompt = true → c.mode.asks d.prompt = true
  bells : c.bells ≤ 4 → d.bells ≤ 4
  escape : c.escape ≤ 4 → d.escape ≤ 4
  buffer : c.buffer.length ≤ 12 → d.buffer.length ≤ 12
  nodup : c.ring.Nodup → d.ring.Nodup
  ring : ∀ m ∈ d.ring, m ∈ c.ring ∨ (c.signedOn = true ∧ ∃ e, c.desk = some e ∧ A e m)

/-- No arrival. -/
abbrev NoArrival : Nat → Nat → Prop := fun _ _ => False

/-- What of a screen its place depends on. -/
def Screen.core (c : Screen) : Mode × Option Nat × Option (Nat × Role) × Bool × Prompt × Nat × Nat × List Byte × List Nat :=
  (c.mode, c.desk, c.story, c.grace.isSome, c.prompt, c.bells, c.escape, c.buffer, c.ring)

section
variable {A B : Nat → Nat → Prop} {c d e : Screen}

theorem Screen.Follows.refl (A : Nat → Nat → Prop) (c : Screen) : c.Follows A c :=
  ⟨rfl, rfl, rfl, rfl, id, id, id, id, id, fun _ => Or.inl⟩

theorem Screen.signedOn_of_mode (h : d.mode = c.mode) : d.signedOn = c.signedOn := by rw [Screen.signedOn, Screen.signedOn, h]

theorem Screen.Follows.signedOn (h : c.Follows A d) : d.signedOn = c.signedOn := Screen.signedOn_of_mode h.mode

theorem Screen.Follows.trans (h : c.Follows A d) (k : d.Follows A e) : c.Follows A e where
  mode := k.mode.trans h.mode
  desk := k.desk.trans h.desk
  story := k.story.trans h.story
  grace := k.grace.trans h.grace
  asks := fun hc => by
    have hd := h.asks hc
    rw [← h.mode] at hd ⊢
    exact k.asks hd
  bells := k.bells ∘ h.bells
  escape := k.escape ∘ h.escape
  buffer := k.buffer ∘ h.buffer
  nodup := k.nodup ∘ h.nodup
  ring := fun m hm => by
    rcases k.ring m hm with hd | hd
    · exact h.ring m hd
    · rw [h.signedOn, h.desk] at hd
      exact Or.inr hd

theorem Screen.Follows.mono (h : c.Follows A d) (hAB : ∀ e m, A e m → B e m) : c.Follows B d :=
  { h with ring := fun m hm => (h.ring m hm).imp_right fun ⟨hon, e, he, ha⟩ => ⟨hon, e, he, hAB e m ha⟩ }

theorem Screen.Follows.of_core (h : d.core = c.core) : c.Follows A d := by
  obtain ⟨hmode, hdesk, hstory, hgrace, hprompt, hbells, hescape, hbuffer, hring⟩ :
      d.mode = c.mode ∧ d.desk = c.desk ∧ d.story = c.story ∧ d.grace.isSome = c.grace.isSome ∧ d.prompt = c.prompt ∧
        d.bells = c.bells ∧ d.escape = c.escape ∧ d.buffer = c.buffer ∧ d.ring = c.ring := by
    simpa [Screen.core] using h
  exact ⟨hmode, hdesk, hstory, hgrace, fun hc => hprompt ▸ hc, fun hc => hbells ▸ hc, fun hc => hescape ▸ hc,
    fun hc => hbuffer ▸ hc, fun hc => hring ▸ hc, fun m hm => Or.inl (hring ▸ hm)⟩

/-- What the fields of a screen in agreement say. -/
structure Screen.Agrees (c : Screen) : Prop where
  edit : c.mode = .edit → c.story.map Prod.snd = some .owner
  view : c.mode = .view → c.story.map Prod.snd = some .viewer
  desk : c.mode = .desk → c.story = none
  away : c.mode = .down ∨ c.mode = .signedOff → c.story.isSome = true → c.grace.isSome = true
  grace : c.grace.isSome = true → (c.mode = .down ∨ c.mode = .signedOff) ∧ c.story.map Prod.snd = some .owner
  signedOn : c.signedOn = true → c.desk.isSome = true
  asks : c.mode.asks c.prompt = true

theorem Screen.holds_iff : c.holds ↔ c.Agrees := by
  constructor
  · rintro ⟨h1, h2, h3, h4, h5, h6, h7⟩
    exact ⟨h1, h2, h3, h4, h5, h6, h7⟩
  · rintro ⟨h1, h2, h3, h4, h5, h6, h7⟩
    exact ⟨h1, h2, h3, h4, h5, h6, h7⟩

theorem Screen.Follows.holds (h : c.Follows A d) (hc : c.holds) : d.holds := by
  obtain ⟨h1, h2, h3, h4, h5, h6, h7⟩ := Screen.holds_iff.1 hc
  rw [Screen.holds_iff]
  refine ⟨?_, ?_, ?_, ?_, ?_, ?_, ?_⟩
  · rwa [h.mode, h.story]
  · rwa [h.mode, h.story]
  · rwa [h.mode, h.story]
  · rwa [h.mode, h.story, h.grace]
  · rwa [h.mode, h.story, h.grace]
  · rwa [h.signedOn, h.desk]
  · rw [h.mode]
    exact h.asks h7

/-- The ring list and the buffer of a screen that keeps its place, where the basket of its desk keeps the stories of the ring list. -/
theorem Screen.Follows.listed {P Q : Nat → Nat → Prop} (h : c.Follows A d) (hc : c.Listed P)
    (hmem : ∀ e m, P e m ∨ A e m → m ∈ d.ring → Q e m) : d.Listed Q where
  nodup := h.nodup hc.nodup
  buffer := h.buffer hc.buffer
  signedOn := fun hne => by
    obtain ⟨m, hm⟩ := List.exists_mem_of_ne_nil _ hne
    rw [h.signedOn]
    rcases h.ring m hm with hring | ⟨hon, -⟩
    · exact hc.signedOn (List.ne_nil_of_mem hring)
    · exact hon
  desk := fun hne => by
    have hat : ∀ e, c.desk = some e → ∀ m ∈ d.ring, Q e m := fun e he m hm => by
      refine hmem e m ?_ hm
      rcases h.ring m hm with hring | ⟨-, f, hf, ha⟩
      · obtain ⟨f, hf, hP⟩ := hc.desk (List.ne_nil_of_mem hring)
        have hef : f = e := Option.some.inj (hf.symm.trans he)
        exact Or.inl (hef ▸ hP m hring)
      · have hef : f = e := Option.some.inj (hf.symm.trans he)
        exact Or.inr (hef ▸ ha)
    obtain ⟨m, hm⟩ := List.exists_mem_of_ne_nil _ hne
    rw [h.desk]
    rcases h.ring m hm with hring | ⟨-, e, he, -⟩
    · obtain ⟨e, he, -⟩ := hc.desk (List.ne_nil_of_mem hring)
      exact ⟨e, he, hat e he⟩
    · exact ⟨e, he, hat e he⟩

end

/-! ## A line that keeps its place -/

/-- Line m is configured and in its state as line l, with no more keys than l or than its limit. -/
structure Line.Follows (l m : Line) : Prop where
  config : m.config = none ↔ l.config = none
  state : m.state = l.state
  timer : m.breakTimer.isSome = true → l.breakTimer.isSome = true ∨ l.state = .up
  queue : l.queue.length ≤ 8 → m.queue.length ≤ 8

section
variable {l m k : Line} {c d : Screen}

theorem Line.Follows.refl (l : Line) : l.Follows l := ⟨Iff.rfl, rfl, Or.inl, id⟩

theorem Line.Follows.trans (h : l.Follows m) (h' : m.Follows k) : l.Follows k where
  config := h'.config.trans h.config
  state := h'.state.trans h.state
  timer := fun ht => by
    rcases h'.timer ht with ht | ht
    · exact h.timer ht
    · exact Or.inr (h.state ▸ ht)
  queue := h'.queue ∘ h.queue

theorem Line.Follows.of_kept (h : m.kept = l.kept) : l.Follows m := by
  have hconfig : m.config = l.config := (congrArg Line.config h :)
  have hstate : m.state = l.state := (congrArg Line.state h :)
  have htimer : m.breakTimer = l.breakTimer := (congrArg Line.breakTimer h :)
  have hqueue : m.queue = l.queue := (congrArg Line.queue h :)
  exact ⟨by rw [hconfig], hstate, fun ht => Or.inl (htimer ▸ ht), fun hq => hqueue ▸ hq⟩

/-- A line goes on agreeing with its screen while neither leaves its place, and a screen without a line gets no story. -/
theorem Line.Follows.holds (h : l.Follows m) (hl : l.holds c) (hdown : d.mode = .down ↔ c.mode = .down)
    (hstory : l.config = none → d.story = none) : m.holds d := by
  obtain ⟨h1, h2, h3, -⟩ := hl
  refine ⟨?_, ?_, fun ht => ?_, fun hm => hstory (h.config.1 hm)⟩
  · rw [h.config, h.state]
    exact h1
  · rw [h.state, h2, Ne, Ne, hdown]
  · rw [h.state]
    rcases h.timer ht with ht | ht
    · exact h3 ht
    · exact ht

end

/-! ## The whole room stirred -/

/-- The tables keep their sizes. -/
structure SameSizes (s t : State) : Prop where
  stories : t.stories.length = s.stories.length
  desks : t.desks.length = s.desks.length
  baskets : t.baskets.length = s.baskets.length
  profiles : t.profiles.length = s.profiles.length
  screens : t.screens.length = s.screens.length
  lines : t.lines.length = s.lines.length

/-- Every screen and line keeps its place, and each table its size. -/
structure Stirs (A : Nat → Nat → Prop) (s t : State) : Prop where
  sizes : SameSizes s t
  screen : ∀ n, (s.screen n).Follows A (t.screen n)
  line : ∀ n, (s.line n).Follows (t.line n)

/-- The fits, their basis and the lists of the fit engine are as they were. -/
structure FitSame (s t : State) : Prop where
  faces : t.fit.faces = s.fit.faces
  quiet : t.fit.quiet = s.fit.quiet
  refit : t.fit.refit = s.fit.refit
  queue : t.fit.queue = s.fit.queue
  story : ∀ k, (t.story k).map (fun x => (x.version, x.style, x.head, x.fit)) =
    (s.story k).map fun x => (x.version, x.style, x.head, x.fit)

/-- The states of the pages, the setting queue, the number of the edition, the link and the proof are as they were. -/
structure OutSame (s t : State) : Prop where
  pages : t.pages.map (Option.map Page.state) = s.pages.map (Option.map Page.state)
  queue : t.settingQueue = s.settingQueue
  edition : t.edition.number = s.edition.number
  link : t.link = s.link
  proof : t.proof = s.proof

/-- No story moves: the room is stirred at most. -/
structure RoomCalm (s t : State) : Prop where
  stirs : Stirs NoArrival s t
  tie : ∀ k, t.tie k = s.tie k
  held : ∀ d, (t.held d).Perm (s.held d)

/-- No story moves, and the fits and the output are as they were. -/
structure Calm (s t : State) : Prop where
  room : RoomCalm s t
  fit : FitSame s t
  out : OutSame s t

section
variable {A B : Nat → Nat → Prop} {s t u : State}

theorem SameSizes.refl (s : State) : SameSizes s s := ⟨rfl, rfl, rfl, rfl, rfl, rfl⟩

theorem SameSizes.trans (h : SameSizes s t) (k : SameSizes t u) : SameSizes s u :=
  ⟨k.stories.trans h.stories, k.desks.trans h.desks, k.baskets.trans h.baskets, k.profiles.trans h.profiles,
    k.screens.trans h.screens, k.lines.trans h.lines⟩

theorem Stirs.refl (A : Nat → Nat → Prop) (s : State) : Stirs A s s := ⟨.refl s, fun _ => .refl A _, fun _ => .refl _⟩

theorem Stirs.trans (h : Stirs A s t) (k : Stirs A t u) : Stirs A s u :=
  ⟨h.sizes.trans k.sizes, fun n => (h.screen n).trans (k.screen n), fun n => (h.line n).trans (k.line n)⟩

theorem Stirs.mono (h : Stirs A s t) (hAB : ∀ e m, A e m → B e m) : Stirs B s t :=
  { h with screen := fun n => (h.screen n).mono hAB }

theorem Stirs.of_noArrival (h : Stirs NoArrival s t) : Stirs A s t := h.mono fun _ _ => False.elim

theorem FitSame.refl (s : State) : FitSame s s := ⟨rfl, rfl, rfl, rfl, fun _ => rfl⟩

theorem FitSame.trans (h : FitSame s t) (k : FitSame t u) : FitSame s u :=
  ⟨k.faces.trans h.faces, k.quiet.trans h.quiet, k.refit.trans h.refit, k.queue.trans h.queue,
    fun n => (k.story n).trans (h.story n)⟩

theorem OutSame.refl (s : State) : OutSame s s := ⟨rfl, rfl, rfl, rfl, rfl⟩

theorem OutSame.trans (h : OutSame s t) (k : OutSame t u) : OutSame s u :=
  ⟨k.pages.trans h.pages, k.queue.trans h.queue, k.edition.trans h.edition, k.link.trans h.link, k.proof.trans h.proof⟩

theorem RoomCalm.refl (s : State) : RoomCalm s s := ⟨.refl _ s, fun _ => rfl, fun _ => .refl _⟩

theorem RoomCalm.trans (h : RoomCalm s t) (k : RoomCalm t u) : RoomCalm s u :=
  ⟨h.stirs.trans k.stirs, fun n => (k.tie n).trans (h.tie n), fun d => (k.held d).trans (h.held d)⟩

theorem Calm.refl (s : State) : Calm s s := ⟨.refl s, .refl s, .refl s⟩

theorem Calm.trans (h : Calm s t) (k : Calm t u) : Calm s u := ⟨h.room.trans k.room, h.fit.trans k.fit, h.out.trans k.out⟩

/-! ## What agrees goes on agreeing -/

theorem State.tie_eq_some {k : Nat} {y : Story} (hy : t.story k = some y) (h : t.tie k = s.tie k) :
    ∃ x, s.story k = some x ∧ x.tie = y.tie := by
  rw [State.tie, hy, State.tie] at h
  exact Option.map_eq_some_iff.1 h.symm

theorem Story.state_of_tie {x y : Story} (h : x.tie = y.tie) : x.state = y.state := congrArg (fun p => p.2.1) h

theorem Story.owner_of_tie {x y : Story} (h : x.tie = y.tie) : x.owner = y.owner := congrArg (fun p => p.2.2.1) h

theorem Story.viewers_of_tie {x y : Story} (h : x.tie = y.tie) : x.viewers = y.viewers := congrArg (fun p => p.2.2.2) h

theorem State.seat_of_tie {k : Nat} (h : t.tie k = s.tie k) : t.seat k = s.seat k := by
  have hseat : ∀ u : State, u.seat k = (u.tie k).map fun p => (p.1, p.2.1) := fun u => by
    rw [State.seat, State.tie, Option.map_map]
    rfl
  rw [hseat, hseat, h]

theorem State.names_of_tie {n k : Nat} {r : Role} (h : t.tie k = s.tie k) : t.names n k r ↔ s.names n k r := by
  constructor
  · rintro ⟨y, hy, hr⟩
    obtain ⟨x, hx, htie⟩ := State.tie_eq_some hy h
    exact ⟨x, hx, by rwa [Story.owner_of_tie htie, Story.viewers_of_tie htie]⟩
  · rintro ⟨x, hx, hr⟩
    obtain ⟨y, hy, htie⟩ := State.tie_eq_some hx h.symm
    exact ⟨y, hy, by rwa [Story.owner_of_tie htie, Story.viewers_of_tie htie]⟩

theorem State.story_beyond (hstories : s.stories.length = 512) {k : Nat} {x : Story} (hx : s.story k = some x) : k < 512 := by
  by_contra hk
  have hnone : s.story k = none := by
    rw [State.story, List.getD_eq_getElem?_getD, List.getElem?_eq_none (by omega)]
    rfl
  exact Option.some_ne_none x (hx.symm.trans hnone)

/-- A story stands in a basket exactly where its record says so, and in none twice. -/
structure Seated (s : State) : Prop where
  nodup : ∀ d, (s.held d).Nodup
  held : ∀ d k, k ∈ s.held d ↔ ∃ st, s.seat k = some (d, st) ∧ st.stored
  desk : ∀ k d st, s.seat k = some (d, st) → d < 16

theorem basketsHold_iff (hstories : s.stories.length = 512) (hbaskets : s.baskets.length = 16) : BasketsHold s ↔ Seated s := by
  have hheld : ∀ d k, k ∈ s.held d ↔ ∃ e ∈ s.basket d, e.story = k := fun d k => List.mem_map
  have hseat : ∀ k d st, s.seat k = some (d, st) ↔ ∃ x, s.story k = some x ∧ x.desk = d ∧ x.state = st := fun k d st => by
    simp [State.seat]
  have hbeyond : ∀ d, ¬d < 16 → s.held d = [] := fun d hd => by
    rw [State.held, State.basket, List.getD_eq_getElem?_getD, List.getElem?_eq_none (by omega)]
    rfl
  constructor
  · rintro ⟨h1, h2⟩
    have hdesk : ∀ k d st, s.seat k = some (d, st) → d < 16 := fun k d st h => by
      obtain ⟨x, hx, rfl, -⟩ := (hseat k d st).1 h
      exact (h2 k (State.story_beyond hstories hx) x hx).1
    refine ⟨fun d => ?_, fun d k => ⟨fun hk => ?_, ?_⟩, hdesk⟩
    · by_cases hd : d < 16
      · exact (h1 d hd).1
      · rw [hbeyond d hd]
        exact List.nodup_nil
    · have hd : d < 16 := by
        by_contra hd
        rw [hbeyond d hd] at hk
        exact List.not_mem_nil hk
      obtain ⟨e, he, rfl⟩ := (hheld d k).1 hk
      obtain ⟨x, hx, hxd, hstored⟩ := (h1 d hd).2 e he
      exact ⟨x.state, (hseat _ _ _).2 ⟨x, hx, hxd, rfl⟩, hstored⟩
    · rintro ⟨st, hk, hstored⟩
      obtain ⟨x, hx, rfl, rfl⟩ := (hseat k d st).1 hk
      exact (hheld _ k).2 ((h2 k (State.story_beyond hstories hx) x hx).2 hstored)
  · intro h
    refine ⟨fun d hd => ⟨h.nodup d, fun e he => ?_⟩, fun k hk x hx => ⟨?_, fun hstored => ?_⟩⟩
    · obtain ⟨st, hk, hstored⟩ := (h.held d e.story).1 ((hheld d e.story).2 ⟨e, he, rfl⟩)
      obtain ⟨x, hx, hxd, rfl⟩ := (hseat _ _ _).1 hk
      exact ⟨x, hx, hxd, hstored⟩
    · exact h.desk k x.desk x.state ((hseat _ _ _).2 ⟨x, hx, rfl, rfl⟩)
    · exact (hheld _ k).1 ((h.held x.desk k).2 ⟨x.state, (hseat _ _ _).2 ⟨x, hx, rfl, rfl⟩, hstored⟩)

/-- The screens hold the stories whose records name them, and agree with their lines. -/
structure Shown (s : State) : Prop where
  holds : ∀ n, (s.screen n).holds
  lines : ∀ n, (s.line n).holds (s.screen n)
  names : ∀ n k r, s.shows n k r ↔ s.names n k r
  owned : ∀ k x, s.story k = some x → x.owner.isSome = true → x.state = .open_

theorem screensHold_iff (hstories : s.stories.length = 512) (hscreens : s.screens.length = 32) (hlines : s.lines.length = 32) :
    ScreensHold s ↔ Shown s := by
  have hbeyond : ∀ n, ¬n < 32 → s.screen n = .reset := fun n hn => by
    rw [State.screen, List.getD_eq_getElem?_getD, List.getElem?_eq_none (by omega)]
    rfl
  have hline : ∀ n, ¬n < 32 → s.line n = .reset := fun n hn => by
    rw [State.line, List.getD_eq_getElem?_getD, List.getElem?_eq_none (by omega)]
    rfl
  constructor
  · rintro ⟨hs, hk⟩
    refine ⟨fun n => ?_, fun n => ?_, fun n k r => ⟨fun hshows => ?_, ?_⟩, fun k x hx ho => ?_⟩
    · by_cases hn : n < 32
      · exact (hs ⟨n, hn⟩).1
      · rw [hbeyond n hn]
        exact screenHolds_reset
    · by_cases hn : n < 32
      · exact (hs ⟨n, hn⟩).2.1
      · rw [hbeyond n hn, hline n hn]
        exact lineHolds_reset
    · have hn : n < 32 := by
        by_contra hn
        rw [State.shows, hbeyond n hn] at hshows
        cases hshows
      exact ((hs ⟨n, hn⟩).2.2 (k, r) hshows).2
    · rintro ⟨x, hx, hr⟩
      obtain ⟨howner, hviewers⟩ := hk k (State.story_beyond hstories hx) x hx
      cases r with
      | owner => exact (howner n hr).2.2
      | viewer => exact (hviewers n hr).2
    · obtain ⟨o, ho⟩ := Option.isSome_iff_exists.1 ho
      exact ((hk k (State.story_beyond hstories hx) x hx).1 o ho).1
  · intro h
    have hlt : ∀ n k r, s.names n k r → n < 32 := fun n k r hr => by
      by_contra hn
      have hshows := (h.names n k r).2 hr
      rw [State.shows, hbeyond n hn] at hshows
      cases hshows
    refine ⟨fun n => ⟨h.holds n, h.lines n, ?_⟩, fun k _ x hx => ⟨fun o ho => ?_, fun v hv => ?_⟩⟩
    · rintro ⟨k, r⟩ hshows
      obtain ⟨x, hx, hr⟩ := (h.names n k r).1 hshows
      exact ⟨State.story_beyond hstories hx, x, hx, hr⟩
    · have hnames : s.names o k .owner := ⟨x, hx, ho⟩
      exact ⟨h.owned k x hx (Option.isSome_of_mem ho), hlt _ _ _ hnames, (h.names o k .owner).2 hnames⟩
    · have hnames : s.names v k .viewer := ⟨x, hx, hv⟩
      exact ⟨hlt _ _ _ hnames, (h.names v k .viewer).2 hnames⟩

theorem RoomHolds.seated (h : RoomHolds s) : Seated s := (basketsHold_iff h.stories h.baskets).1 h.basketsHold

theorem RoomHolds.shown (h : RoomHolds s) : Shown s := (screensHold_iff h.stories h.screens h.lines).1 h.screensHold

theorem SameSizes.holds (h : SameSizes s t) (hs : RoomHolds s) (hseated : Seated t) (hshown : Shown t) : RoomHolds t := by
  have hstories := h.stories.trans hs.stories
  have hbaskets := h.baskets.trans hs.baskets
  have hscreens := h.screens.trans hs.screens
  have hlines := h.lines.trans hs.lines
  exact ⟨hstories, h.desks.trans hs.desks, hbaskets, hscreens, hlines, (basketsHold_iff hstories hbaskets).2 hseated,
    (screensHold_iff hstories hscreens hlines).2 hshown⟩

theorem Seated.of_same (h : Seated s) (hseat : ∀ k, t.seat k = s.seat k) (hheld : ∀ d, (t.held d).Perm (s.held d)) : Seated t := by
  refine ⟨fun d => (hheld d).nodup_iff.2 (h.nodup d), fun d k => ?_, fun k d st hk => ?_⟩
  · rw [(hheld d).mem_iff, hseat]
    exact h.held d k
  · rw [hseat] at hk
    exact h.desk k d st hk

/-- One story's seat changes, and the baskets follow. -/
theorem Seated.turn {k : Nat} (h : Seated s) (hseat : ∀ j, j ≠ k → t.seat j = s.seat j) (hnodup : ∀ d, (t.held d).Nodup)
    (hheld : ∀ d j, j ≠ k → (j ∈ t.held d ↔ j ∈ s.held d))
    (hk : ∀ d, k ∈ t.held d ↔ ∃ st, t.seat k = some (d, st) ∧ st.stored) (hdesk : ∀ d st, t.seat k = some (d, st) → d < 16) :
    Seated t := by
  refine ⟨hnodup, fun d j => ?_, fun j d st hj => ?_⟩
  · by_cases hjk : j = k
    · exact hjk ▸ hk d
    · rw [hheld d j hjk, hseat j hjk]
      exact h.held d j
  · by_cases hjk : j = k
    · exact hdesk d st (hjk ▸ hj)
    · rw [hseat j hjk] at hj
      exact h.desk j d st hj

theorem FitSame.keeps (h : FitSame s t) : FitKeeps s t where
  wide := fun hs => ⟨h.faces ▸ hs.faces, h.quiet ▸ hs.quiet⟩
  holds := fun _ hs n hn y hy r hr hvalid => by
    have heq := h.story n
    rw [hy] at heq
    obtain ⟨x, hx, hcast⟩ := Option.map_eq_some_iff.1 heq.symm
    obtain ⟨hversion, hstyle, hhead, hfit⟩ : x.version = y.version ∧ x.style = y.style ∧ x.head = y.head ∧ x.fit = y.fit := by
      simpa using hcast
    have hold := hs n hn x hx r (hfit ▸ hr) hvalid
    have hface : ∀ f, t.face f = s.face f := fun f => by rw [State.face, State.face, h.faces]
    rw [hversion, hstyle, hhead] at hold
    simpa only [hface] using hold
  lists := fun _ hs => ⟨h.refit ▸ hs.refit, h.refit ▸ hs.refit_lt, h.queue ▸ hs.queue, h.queue ▸ hs.queue_lt⟩

/-- The state of a page; none while it is undefined. -/
def State.pageState (s : State) (p : Nat) : Option PageState := (s.page p).map Page.state

theorem State.pageState_eq (s : State) (p : Nat) : s.pageState p = (s.pages.map (Option.map Page.state)).getD p none :=
  (getD_map_of_default (f := Option.map Page.state) (d := none) rfl p).symm

theorem OutSame.pageState (h : OutSame s t) (p : Nat) : t.pageState p = s.pageState p := by
  rw [State.pageState_eq, State.pageState_eq, h.pages]

/-- The agreement of the pages with the queue, the link and the proof, by the states of the pages. -/
structure PagesAgree (s : State) : Prop where
  nodup : s.settingQueue.Nodup
  queue_lt : ∀ p ∈ s.settingQueue, p < 32
  waiting : ∀ p < 32, p ∈ s.settingQueue ↔ s.pageState p = some .waiting
  setting : ∀ p < 32, s.pageState p = some .setting ↔ s.link.setting.map SettingPage.page = some p
  linked : ∀ x ∈ s.link.setting, x.page < 32 ∧ s.link.activity = .setting
  aborts_le : s.link.aborts ≤ 1
  aborting : s.link.aborts = 1 → s.link.setting = none ∧ s.link.activity = .setting
  proving : s.proof.state ≠ .idle → s.proof.request.isSome = true ∧ s.link.activity = .proving

theorem pagesHold_iff : PagesHold s ↔ PagesAgree s := by
  have hstate : ∀ p y, (∃ g ∈ s.page p, g.state = y) ↔ s.pageState p = some y := fun p y => Option.map_eq_some_iff.symm
  simp only [PagesHold, hstate]
  constructor
  · rintro ⟨h1, h2, h3, h4, h5, h6, h7⟩
    exact ⟨h1, h2, fun p hp => (h3 p hp).1, fun p hp => (h3 p hp).2, h4, h5, h6, h7⟩
  · rintro ⟨h1, h2, h3, h3', h4, h5, h6, h7⟩
    exact ⟨h1, h2, fun p hp => ⟨h3 p hp, h3' p hp⟩, h4, h5, h6, h7⟩

theorem OutSame.keeps (h : OutSame s t) : OutKeeps s t := by
  have hlength : t.pages.length = s.pages.length := by simpa using congrArg List.length h.pages
  refine ⟨fun hs => ⟨?_, ?_, ?_, ?_, ?_⟩, fun hs => ⟨?_, ?_⟩, fun hs => h.link ▸ hs⟩
  · exact hlength.trans hs.pages
  · exact h.queue ▸ hs.queue
  · exact h.link ▸ hs.window
  · exact h.edition ▸ hs.edition_pos
  · exact h.edition ▸ hs.edition_le
  · exact hlength.trans hs.pages
  · obtain ⟨h1, h2, h3, h4, h5, h6, h7, h8⟩ := pagesHold_iff.1 hs.pagesHold
    rw [pagesHold_iff]
    refine ⟨?_, ?_, ?_, ?_, ?_, ?_, ?_, ?_⟩ <;> simpa only [h.queue, h.link, h.proof, h.pageState]

/-- Screens and lines that keep their places agree as before. -/
theorem Stirs.holds (h : Stirs A s t) (hs : Shown s) (n : Nat) : (t.screen n).holds := (h.screen n).holds (hs.holds n)

theorem Stirs.lineHolds (h : Stirs A s t) (hs : Shown s) (n : Nat) : (t.line n).holds (t.screen n) :=
  (h.line n).holds (hs.lines n) (by rw [(h.screen n).mode]) fun hconfig => by
    rw [(h.screen n).story]
    exact (hs.lines n).2.2.2 hconfig

theorem Stirs.shows (h : Stirs A s t) (n k : Nat) (r : Role) : t.shows n k r ↔ s.shows n k r := by
  rw [State.shows, State.shows, (h.screen n).story]

/-- What a stir of the room leaves within the capacities. -/
theorem Stirs.wide (h : Stirs A s t) (hs : RoomWide s) (hheld : ∀ d, (t.held d).length ≤ 64)
    (hviewers : ∀ k x, t.story k = some x → x.viewers.length ≤ 8) : RoomWide t :=
  ⟨h.sizes.desks.trans hs.desks, h.sizes.baskets.trans hs.baskets, h.sizes.profiles.trans hs.profiles,
    h.sizes.screens.trans hs.screens, h.sizes.lines.trans hs.lines, hheld, hviewers, fun n => (h.line n).queue (hs.queue n),
    fun n => ⟨(h.screen n).bells (hs.screen n).1, (h.screen n).escape (hs.screen n).2⟩⟩

/-- A state where no story moved keeps the room. -/
theorem RoomCalm.keeps (h : RoomCalm s t) : RoomKeeps s t where
  wide := fun hs => by
    refine h.stirs.wide hs (fun d => ?_) fun k y hy => ?_
    · rw [(h.held d).length_eq]
      exact hs.held d
    · obtain ⟨x, hx, htie⟩ := State.tie_eq_some hy (h.tie k)
      rw [← Story.viewers_of_tie htie]
      exact hs.viewers k x hx
  holds := fun hs => by
    refine h.stirs.sizes.holds hs (hs.seated.of_same (fun k => State.seat_of_tie (h.tie k)) h.held)
      ⟨h.stirs.holds hs.shown, h.stirs.lineHolds hs.shown, fun n k r => ?_, fun k y hy ho => ?_⟩
    · rw [h.stirs.shows, State.names_of_tie (h.tie k)]
      exact hs.shown.names n k r
    · obtain ⟨x, hx, htie⟩ := State.tie_eq_some hy (h.tie k)
      rw [← Story.state_of_tie htie]
      exact hs.shown.owned k x hx (by rwa [Story.owner_of_tie htie])
  lists := fun _ hl n => (h.stirs.screen n).listed (hl n) fun e m hm _ =>
    (h.held e).mem_iff.2 (hm.resolve_right id)

theorem Calm.keeps (h : Calm s t) : Keeps s t := ⟨h.room.keeps, h.fit.keeps, h.out.keeps⟩

end

end Sys2Proof.Machine
end

section
/-! SUPPORT. The operations that move no story: what marks, tells, rings, lays out and reports leaves every limits invariant as it is
(R96 to R118, R204 to R206). -/

namespace Sys2Proof.Machine

section
variable {A : Nat → Nat → Prop} {s t : State} {n : Nat}

/-! ## Calm changes of one table -/

/-- A change of screens, lines, the store and what stands beside the tables is calm where each screen and line keeps its place. -/
theorem Calm.of_screens_lines (h : t = { s with
      store := t.store, screens := t.screens, lines := t.lines, keyTurn := t.keyTurn, host := t.host, clock := t.clock
      strapPins := t.strapPins, drawn := t.drawn, pending := t.pending })
    (hscreens : t.screens.length = s.screens.length) (hlines : t.lines.length = s.lines.length)
    (hscreen : ∀ n, (s.screen n).Follows NoArrival (t.screen n)) (hline : ∀ n, (s.line n).Follows (t.line n)) : Calm s t := by
  have hstories : t.stories = s.stories := (congrArg State.stories h :)
  have hbaskets : t.baskets = s.baskets := (congrArg State.baskets h :)
  have hdesks : t.desks = s.desks := (congrArg State.desks h :)
  have hprofiles : t.profiles = s.profiles := (congrArg State.profiles h :)
  have hfit : t.fit = s.fit := (congrArg State.fit h :)
  have hstory : ∀ k, t.story k = s.story k := fun k => by rw [State.story, State.story, hstories]
  refine ⟨⟨⟨⟨by rw [hstories], by rw [hdesks], by rw [hbaskets], by rw [hprofiles], hscreens, hlines⟩, hscreen, hline⟩,
    fun k => by rw [State.tie, State.tie, hstory], fun d => ?_⟩,
    ⟨by rw [hfit], by rw [hfit], by rw [hfit], by rw [hfit], fun k => by rw [hstory]⟩, ?_⟩
  · rw [State.held, State.held, State.basket, State.basket, hbaskets]
  · rw [h]
    exact ⟨rfl, rfl, rfl, rfl, rfl⟩

theorem Calm.of_screens (h : t = { s with screens := t.screens }) (hscreens : t.screens.length = s.screens.length)
    (hscreen : ∀ n, (s.screen n).Follows NoArrival (t.screen n)) : Calm s t := by
  have hlines : t.lines = s.lines := (congrArg State.lines h :)
  refine .of_screens_lines ?_ hscreens (by rw [hlines]) hscreen fun n => ?_
  · rw [h]
  · rw [State.line_of_lines hlines]
    exact .refl _

theorem Calm.updScreen {f : Screen → Screen} (h : (s.screen n).Follows NoArrival (f (s.screen n))) : Calm s (s.updScreen n f) := by
  refine .of_screens rfl (State.length_screens_updScreen n f) fun m => ?_
  rw [State.screen_updScreen_eq]
  split
  · next hm => exact hm.1 ▸ h
  · exact .refl _ _

theorem Calm.mapScreens {f : Screen → Screen} (h : ∀ c : Screen, c.Follows NoArrival (f c)) :
    Calm s { s with screens := s.screens.map f } := by
  refine .of_screens rfl (List.length_map _) fun m => ?_
  rw [State.screen_of_map (s := s) (t := { s with screens := s.screens.map f }) (f := f) rfl]
  split
  · exact h _
  · exact .refl _ _

theorem Calm.updLine {f : Line → Line} (h : (s.line n).Follows (f (s.line n))) : Calm s (s.updLine n f) := by
  refine .of_screens_lines rfl rfl (List.length_modify ..) (fun _ => .refl _ _) fun m => ?_
  by_cases hm : m = n
  · subst hm
    by_cases hin : m < s.lines.length
    · rw [State.line_updLine _ _ _ hin]
      exact h
    · have hsame : (s.updLine m f).line m = s.line m := by
        simp [State.line, State.updLine, List.getD_eq_getElem?_getD, hin]
      rw [hsame]
      exact .refl _
  · rw [State.line_updLine_of_ne _ _ _ _ hm]
    exact .refl _

/-- A change beside the tables is calm. -/
theorem Calm.beside (h : t = { s with
      store := t.store, keyTurn := t.keyTurn, host := t.host, clock := t.clock, strapPins := t.strapPins, drawn := t.drawn
      pending := t.pending }) : Calm s t := by
  have hscreens : t.screens = s.screens := (congrArg State.screens h :)
  have hlines : t.lines = s.lines := (congrArg State.lines h :)
  refine .of_screens_lines ?_ (by rw [hscreens]) (by rw [hlines]) (fun n => ?_) fun n => ?_
  · rw [h]
  · rw [State.screen, State.screen, hscreens]
    exact .refl _ _
  · rw [State.line_of_lines hlines]
    exact .refl _

theorem Calm.updHost (f : HostLine → HostLine) : Calm s (s.updHost f) := .beside rfl

theorem Calm.raise (f : Flag) : Calm s (s.raise f) := by
  rw [State.raise_only]
  exact .beside rfl

theorem Calm.raiseFor (f : Flag) (m : Nat) : Calm s (s.raiseFor f m) := by
  rw [State.raiseFor_only]
  exact .beside rfl

theorem Calm.foldl {α : Type} (f : State → α → State) (hf : ∀ t a, Calm t (f t a)) (l : List α) : Calm s (l.foldl f s) :=
  s.foldl_keeps (Calm s) f (fun t a ht => ht.trans (hf t a)) l (.refl s)

/-! ## Screens that keep their place -/

section
variable {c : Screen}

theorem Screen.follows_bell (c : Screen) : c.Follows A c.bell := by
  unfold Screen.bell
  split
  · exact .refl A c
  · exact { Screen.Follows.refl A c with bells := fun _ => Nat.min_le_left .. }

theorem core_snapTop (s : State) (c : Screen) : (snapTop s c).core = c.core := by
  rw [snapTop_only]
  rfl

theorem core_dropToType (s : State) (c : Screen) : (dropToType s c).core = c.core := by
  rw [dropToType_only]
  rfl

theorem core_settleBasket (s : State) (c : Screen) : (settleBasket s c).core = c.core := by
  unfold settleBasket
  split <;> rfl

theorem core_layOut (s : State) (c : Screen) : (layOut s c).core = c.core := by
  unfold layOut
  split
  · rfl
  · exact core_settleBasket s c

theorem core_reveal (starts : List Nat) (c : Screen) : (c.reveal starts).core = c.core := by
  unfold Screen.reveal
  dsimp only
  split <;> rfl

theorem core_follow (starts : List Nat) (c : Screen) : (c.follow starts).core = c.core := by
  unfold Screen.follow
  dsimp only
  split_ifs <;> rfl

theorem core_moveCursor (k : KeyFn) (starts : List Nat) (count : Nat) (c : Screen) :
    (c.moveCursor k starts count).core = c.core := by
  have h := core_follow starts { c.reveal starts with cursor := cursorTo k starts count (c.reveal starts).cursor }
  exact h.trans (core_reveal starts c)

theorem Screen.follows_nextItem (c : Screen) : c.Follows A (nextItem c).2 := by
  have hbells : c.Follows A { c with bells := 0 } := { Screen.Follows.refl A c with bells := fun _ => Nat.zero_le _ }
  unfold nextItem
  split
  · exact .of_core rfl
  · split
    · exact hbells
    · split
      · exact .of_core rfl
      · split
        · exact .of_core rfl
        · dsimp only
          split <;> exact .of_core rfl

theorem Screen.follows_startItem (l : Line) (c : Screen) : c.Follows A (startItem l c).2 := by
  have hnext := c.follows_nextItem (A := A)
  unfold startItem
  split
  · split
    · next h => rwa [h] at hnext
    · next h => rwa [h] at hnext
  · exact .refl A c

/-- A prompt closed asks nothing. -/
theorem Screen.follows_closePrompt (c : Screen) : c.Follows A c.closePrompt :=
  { Screen.Follows.refl A c with asks := fun _ => by cases c.mode <;> rfl, buffer := fun _ => Nat.zero_le _ }

theorem Screen.follows_breakOff (c : Screen) : c.Follows A c.breakOff :=
  { c.follows_closePrompt (A := A) with escape := fun _ => Nat.zero_le _ }

theorem Screen.follows_openPrompt {p : Prompt} {buffer : List Byte} (hasks : c.mode.asks p = true) (hbuffer : buffer.length ≤ 12) :
    c.Follows A (c.openPrompt p buffer) :=
  { Screen.Follows.refl A c with asks := fun _ => hasks, buffer := fun _ => hbuffer }

/-- A ring list that only loses stories. -/
theorem Screen.follows_of_sublist {ring : List Nat} (h : ring.Sublist c.ring) : c.Follows A { c with ring := ring } :=
  { Screen.Follows.refl A c with nodup := fun hc => hc.sublist h, ring := fun _ hm => Or.inl (h.subset hm) }

theorem Screen.follows_emptyRing (c : Screen) : c.Follows A c.emptyRing :=
  (Screen.follows_of_sublist (List.nil_sublist _)).trans (.of_core rfl)

theorem Screen.follows_acknowledge (c : Screen) : c.Follows A c.acknowledge := c.follows_emptyRing.trans (.of_core rfl)

theorem Screen.follows_leaveRing (k : Nat) (c : Screen) : c.Follows A (c.leaveRing k) := by
  have hleft : c.Follows A { c with ring := c.ring.filter (· != k) } := Screen.follows_of_sublist List.filter_sublist
  unfold Screen.leaveRing
  split
  · dsimp only
    split
    · exact hleft.trans (.of_core rfl)
    · exact hleft
  · exact .refl A c

theorem Screen.follows_escape {count : Nat} (h : count ≤ 4) : c.Follows A { c with escape := count } :=
  { Screen.Follows.refl A c with escape := fun _ => h }

theorem Screen.follows_buffer {buffer : List Byte} (h : c.buffer.length ≤ 12 → buffer.length ≤ 12) :
    c.Follows A { c with buffer := buffer } :=
  { Screen.Follows.refl A c with buffer := h }

end

/-! ## Marks, messages and reports -/

theorem Calm.touchDesk (d : Nat) : Calm s (s.touchDesk d) :=
  .mapScreens fun c => by
    split
    · exact .of_core rfl
    · exact .refl _ c

theorem Calm.touchStory (k : Nat) : Calm s (s.touchStory k) := by
  have hshown : ∀ c : Screen, c.Follows NoArrival (if c.showsStory k then { c with layoutTime := s.clock.time } else c) :=
    fun c => by
      split
      · exact .of_core rfl
      · exact .refl _ c
  unfold State.touchStory
  dsimp only
  split
  · exact (Calm.mapScreens hshown).trans (.touchDesk _)
  · exact .mapScreens hshown

theorem Calm.touchAll : Calm s s.touchAll := .mapScreens fun _ => .of_core rfl

theorem Calm.touchSignedOn : Calm s s.touchSignedOn :=
  .mapScreens fun c => by
    split
    · exact .of_core rfl
    · exact .refl _ c

theorem Calm.reportCrossing (wasLow : Bool) : Calm s (s.reportCrossing wasLow) := by
  unfold State.reportCrossing
  split
  · exact .refl s
  · split
    · exact (Calm.raise _).trans .touchSignedOn
    · exact .touchSignedOn

theorem Calm.putChain (k : Nat) (c : Chain) (free : List Nat) : Calm s (s.putChain k c free) :=
  (Calm.beside (t := { s with store := ⟨free, s.store.chains.set k c⟩ }) rfl).trans (.reportCrossing _)

theorem Calm.reportDesk (d : Nat) : Calm s (s.reportDesk d) :=
  .mapScreens fun c => by
    split
    · exact .of_core (core_settleBasket s _)
    · exact .refl _ c

theorem Calm.tell (n : Nat) (msg : List Byte) : Calm s (s.tell n msg) := .updScreen (.of_core rfl)

theorem Calm.bell (n : Nat) : Calm s (s.bell n) := .updScreen (Screen.follows_bell _)

theorem Calm.deny (n : Nat) (msg : List Byte) : Calm s (s.deny n msg) := (Calm.tell n msg).trans (.bell n)

theorem Calm.tellComposing (msg : List Byte) : Calm s (s.tellComposing msg) :=
  .mapScreens fun c => by
    split
    · exact .of_core rfl
    · exact .refl _ c

theorem Calm.settle : Calm s s.settle := by
  refine .of_screens_lines rfl ?_ ?_ (fun n => ?_) fun n => .of_kept (State.line_settle_kept s n)
  · rw [State.settle, State.startItems, List.length_mapIdx, State.layOutAll, List.length_map]
  · simpa using congrArg List.length (State.lines_settle_kept s)
  · have hlaid : (s.screen n).Follows NoArrival (s.layOutAll.screen n) := by
      rw [State.screen_of_map (s := s) (t := s.layOutAll) (f := layOut s) rfl]
      split
      · exact .of_core (core_layOut s _)
      · exact .refl _ _
    refine hlaid.trans ?_
    rw [State.settle, State.startItems, State.screen, State.screen, List.getD_eq_getElem?_getD, List.getD_eq_getElem?_getD,
      List.getElem?_mapIdx]
    cases s.layOutAll.screens[n]? with
    | none => exact .refl _ _
    | some c => exact Screen.follows_startItem _ c

theorem Calm.wake (n : Nat) : Calm s (s.wake n) := .updScreen (by
  split
  · exact .of_core (core_snapTop s _)
  · exact .refl _ _)

theorem Calm.reprofile (n : Nat) : Calm s (s.reprofile n) := .updScreen (by
  split
  · exact .of_core (core_snapTop s _)
  · exact .refl _ _)

theorem Calm.dropSetViews (k : Nat) : Calm s (s.dropSetViews k) :=
  .mapScreens fun c => by
    split
    · exact .of_core (core_dropToType s c)
    · exact .refl _ c

theorem Calm.followText (k : Nat) (by_ : Option Nat) (move ownTop : Nat → Nat) : Calm s (s.followText k by_ move ownTop) := by
  refine .of_screens rfl (List.length_mapIdx ..) fun n => ?_
  rw [State.followText, State.screen, State.screen, List.getD_eq_getElem?_getD, List.getD_eq_getElem?_getD, List.getElem?_mapIdx]
  cases s.screens[n]? with
  | none => exact .refl _ _
  | some c =>
    refine .of_core ?_
    dsimp only [Option.map_some, Option.getD_some]
    split
    · refine (core_snapTop s _).trans ?_
      unfold Screen.followText
      split <;> rfl
    · rfl

theorem Calm.leaveRings (k : Nat) : Calm s (s.leaveRings k) := .mapScreens (Screen.follows_leaveRing k)

theorem Calm.cancel (n : Nat) : Calm s (s.cancel n) := .updScreen (Screen.follows_breakOff _)

theorem Calm.acknowledge (n : Nat) : Calm s (s.acknowledge n) := .updScreen (Screen.follows_acknowledge _)

theorem Calm.keySteps (n : Nat) : Calm s (s.keySteps n) := .updScreen (.of_core rfl)

theorem Calm.ask {p : Prompt} {buffer : List Byte} (hasks : (s.screen n).mode.asks p = true) (hbuffer : buffer.length ≤ 12) :
    Calm s (s.ask n p buffer) := .updScreen (Screen.follows_openPrompt hasks hbuffer)

theorem Calm.setEscape {count : Nat} (h : count ≤ 4) : Calm s (s.setEscape n count) := .updScreen (Screen.follows_escape h)

theorem Calm.withPending (q : List Instr) : Calm s (s.withPending q) := .beside rfl

theorem Calm.reply (kind tag : Byte) (body : List Byte) (due : Bool) : Calm s (s.reply kind tag body due) := .updHost _

theorem Calm.hunt : Calm s s.hunt := .updHost _

theorem Calm.frameLost : Calm s s.frameLost := Calm.hunt.trans (.raise _)

theorem Calm.clearFlags (mask : BitVec 12) : Calm s (s.clearFlags mask) := by
  refine .of_screens_lines rfl rfl ?_ (fun _ => .refl _ _) fun n => ?_
  · unfold State.clearFlags
    dsimp only
    split
    · exact List.length_map _
    · rfl
  · unfold State.clearFlags State.line
    dsimp only
    split
    · rw [getD_map_of_default (f := Line.clearErrors) (d := Line.reset) (e := Line.reset) rfl]
      exact ⟨Iff.rfl, rfl, Or.inl, id⟩
    · exact .refl _

end

end Sys2Proof.Machine
end

section
/-! SUPPORT. The fit engine keeps the limits invariants: a stale fit, the refit list, the fit queue, the passes and the faces (R25, R69,
R70, R79 to R88). -/

namespace Sys2Proof.Machine

section
variable {s t u : State} {k n : Nat}

/-! ## Changes of the fits alone -/

/-- The faces, the quiet time and what each fit stands on are as they were. -/
structure FitBasis (s t : State) : Prop where
  faces : t.fit.faces = s.fit.faces
  quiet : t.fit.quiet = s.fit.quiet
  story : ∀ k, (t.story k).map (fun x => (x.version, x.style, x.head, x.fit)) =
    (s.story k).map fun x => (x.version, x.style, x.head, x.fit)

theorem FitBasis.keeps (h : FitBasis s t) (hlists : RoomHolds s → FitLists s → FitLists t) : FitKeeps s t := by
  have hsame : FitSame s { t with fit := { t.fit with refit := s.fit.refit, queue := s.fit.queue } } :=
    ⟨h.faces, h.quiet, rfl, rfl, h.story⟩
  exact ⟨fun hs => ⟨h.faces ▸ hs.faces, h.quiet ▸ hs.quiet⟩, hsame.keeps.holds, hlists⟩

theorem FitSame.of_screens (hfit : t.fit = s.fit) (hstories : t.stories = s.stories) : FitSame s t :=
  ⟨by rw [hfit], by rw [hfit], by rw [hfit], by rw [hfit], fun k => by rw [State.story, State.story, hstories]⟩

theorem RoomCalm.of_fit (f : FitUnit) : RoomCalm s { s with fit := f } :=
  ⟨⟨⟨rfl, rfl, rfl, rfl, rfl, rfl⟩, fun _ => .refl _ _, fun _ => .refl _⟩, fun _ => rfl, fun _ => .refl _⟩

theorem RoomHolds.of_fit {f : FitUnit} (h : RoomHolds { s with fit := f }) : RoomHolds s :=
  ⟨h.stories, h.desks, h.baskets, h.screens, h.lines, h.basketsHold, h.screensHold⟩

theorem OutSame.of_fit (f : FitUnit) : OutSame s { s with fit := f } := ⟨rfl, rfl, rfl, rfl, rfl⟩

/-- A change of the fit engine's lists alone. -/
theorem Keeps.of_lists {refit : List RefitEntry} {queue : List Nat} {pass : Option Pass}
    (h : RoomHolds s → FitLists s → FitLists { s with fit := { s.fit with refit := refit, queue := queue, pass := pass } }) :
    Keeps s { s with fit := { s.fit with refit := refit, queue := queue, pass := pass } } :=
  ⟨(RoomCalm.of_fit _).keeps, FitBasis.keeps ⟨rfl, rfl, fun _ => rfl⟩ h, (OutSame.of_fit _).keeps⟩

theorem RoomHolds.lt {x : Story} (h : RoomHolds s) (hx : s.story k = some x) : k < 512 := State.story_beyond h.stories hx

/-! ## A story's record changed, but for its ties -/

theorem State.updStory_updStory (f g : Story → Story) : (s.updStory k f).updStory k g = s.updStory k fun x => g (f x) := by
  have hcomp : (Option.map g ∘ Option.map f : Option Story → Option Story) = Option.map fun x => g (f x) := by
    funext o
    cases o <;> rfl
  rw [State.updStory, State.updStory, State.updStory, List.modify_modify_eq, hcomp]

theorem State.tie_updStory {f : Story → Story} (hf : ∀ x, (f x).tie = x.tie) (j : Nat) : (s.updStory k f).tie j = s.tie j := by
  by_cases hj : j = k
  · subst hj
    rw [State.tie, State.tie, State.story_updStory, Option.map_map]
    exact Option.map_congr fun x _ => hf x
  · rw [State.tie, State.story_updStory_of_ne _ _ _ _ hj]
    rfl

theorem RoomCalm.updStory {f : Story → Story} (hf : ∀ x, (f x).tie = x.tie) : RoomCalm s (s.updStory k f) :=
  ⟨{ Stirs.refl _ s with sizes := { SameSizes.refl s with stories := List.length_modify .. } }, State.tie_updStory hf, fun _ => .refl _⟩

theorem OutSame.updStory (f : Story → Story) : OutSame s (s.updStory k f) := ⟨rfl, rfl, rfl, rfl, rfl⟩

/-- A change of a record that its ties and its fit do not speak of. -/
theorem Calm.updStory {f : Story → Story} (hf : ∀ x, (f x).tie = x.tie)
    (hfit : ∀ x, ((f x).version, (f x).style, (f x).head, (f x).fit) = (x.version, x.style, x.head, x.fit)) :
    Calm s (s.updStory k f) := by
  refine ⟨.updStory hf, ⟨rfl, rfl, rfl, rfl, fun j => ?_⟩, .updStory f⟩
  by_cases hj : j = k
  · subst hj
    rw [State.story_updStory, Option.map_map]
    exact Option.map_congr fun x _ => hfit x
  · rw [State.story_updStory_of_ne _ _ _ _ hj]

/-! ## Stale fits (R25, R80, R82) -/

theorem placeRefit_perm (e : RefitEntry) (l : List RefitEntry) : (placeRefit e l).Perm (e :: l) := by
  have h : (placeRefit e l).Perm (e :: (l.takeWhile (fun x => x.due ≤ e.due) ++ l.dropWhile (fun x => x.due ≤ e.due))) :=
    List.perm_middle
  rwa [List.takeWhile_append_dropWhile] at h

theorem FitLists.schedule (h : FitLists s) (hk : k < 512) : FitLists (s.schedule k) := by
  obtain ⟨hrefit, hrefit_lt, hqueue, hqueue_lt⟩ := h
  have hperm := placeRefit_perm ⟨k, s.clock.steps + s.fit.quiet + 1⟩ (s.fit.refit.filter fun e => e.story != k)
  refine ⟨?_, fun e he => ?_, hqueue, hqueue_lt⟩
  · refine (hperm.map RefitEntry.story).nodup_iff.2 (List.nodup_cons.2 ⟨fun hmem => ?_, ?_⟩)
    · obtain ⟨e, he, hek⟩ := List.mem_map.1 hmem
      have hek' : e.story = k := hek
      simp [hek'] at he
    · exact hrefit.sublist (List.filter_sublist.map _)
  · rcases List.mem_cons.1 (hperm.mem_iff.1 he) with rfl | he
    · exact hk
    · exact hrefit_lt e (List.mem_of_mem_filter he)

theorem State.story_makeStale (k : Nat) : (s.makeStale k).stories = (s.updStory k Story.staleFit).stories := by
  unfold State.makeStale
  rw [State.touchStory_only]
  rfl

theorem State.fit_makeStale (k : Nat) : (s.makeStale k).fit = (s.schedule k).fit := by
  unfold State.makeStale
  rw [State.touchStory_only]
  rfl

theorem RoomCalm.makeStale (k : Nat) : RoomCalm s (s.makeStale k) :=
  ((RoomCalm.updStory (f := Story.staleFit) fun _ => rfl).trans (Calm.dropSetViews k).room).trans
    ((RoomCalm.of_fit _).trans (Calm.touchStory k).room)

/-- Story n's fit stands on its record (R79, R80). -/
def State.fitStands (s : State) (n : Nat) : Prop :=
  ∀ x ∈ s.story n, ∀ r ∈ x.fit, r.valid = true →
    r.basisVersion = x.version ∧ r.basisBody = (s.face x.style.face).generation ∧
      (r.basisHead.all fun g => x.head.any fun h => (s.face h.style.face).generation == g) = true

theorem fitsHold_iff : FitsHold s ↔ ∀ n < 512, s.fitStands n := Iff.rfl

theorem State.fitStands_congr (hfaces : t.fit.faces = s.fit.faces) (hstory : t.story n = s.story n) (h : s.fitStands n) :
    t.fitStands n := by
  have hface : ∀ f, t.face f = s.face f := fun f => by rw [State.face, State.face, hfaces]
  rw [State.fitStands, hstory]
  simp only [hface]
  exact h

theorem State.fitStands_makeStale_self (k : Nat) : (s.makeStale k).fitStands k := by
  intro x hx r hr hvalid
  have hstory : (s.makeStale k).story k = (s.story k).map Story.staleFit := by
    rw [State.story, State.story_makeStale]
    exact State.story_updStory _ _ _
  rw [hstory] at hx
  obtain ⟨y, -, rfl⟩ := Option.map_eq_some_iff.1 hx
  obtain ⟨q, -, rfl⟩ := Option.map_eq_some_iff.1 hr
  cases hvalid

theorem State.fitStands_makeStale (h : s.fitStands n) : (s.makeStale k).fitStands n := by
  by_cases hn : n = k
  · exact hn ▸ State.fitStands_makeStale_self n
  · refine State.fitStands_congr ?_ ?_ h
    · rw [State.fit_makeStale]
      rfl
    · rw [State.story, State.story_makeStale]
      exact State.story_updStory_of_ne _ _ _ _ hn

/-- A record changed, but for its ties, and its fit made stale. -/
theorem Keeps.makeStale_updStory {f : Story → Story} (hf : ∀ x, (f x).tie = x.tie) (hk : RoomHolds s → k < 512) :
    Keeps s ((s.updStory k f).makeStale k) := by
  have hfit := State.fit_makeStale (s := s.updStory k f) k
  refine ⟨((RoomCalm.updStory hf).trans (.makeStale k)).keeps, ⟨fun hs => ⟨?_, ?_⟩, fun _ hs => fitsHold_iff.2 fun n hn => ?_,
    fun hr hl => ?_⟩, ?_⟩
  · rw [hfit]
    exact hs.faces
  · rw [hfit]
    exact hs.quiet
  · by_cases hnk : n = k
    · exact hnk ▸ State.fitStands_makeStale_self n
    · exact State.fitStands_makeStale (State.fitStands_congr (s := s) (t := s.updStory k f) rfl
        (State.story_updStory_of_ne _ _ _ _ hnk) (fitsHold_iff.1 hs n hn))
  · have hlists := FitLists.schedule hl (hk hr)
    exact ⟨by rw [hfit]; exact hlists.refit, by rw [hfit]; exact hlists.refit_lt, by rw [hfit]; exact hlists.queue,
      by rw [hfit]; exact hlists.queue_lt⟩
  · rw [State.makeStale_only]
    exact OutSame.keeps ⟨rfl, rfl, rfl, rfl, rfl⟩

theorem Keeps.versionChange (hk : RoomHolds s → k < 512) : Keeps s (s.versionChange k) :=
  Keeps.makeStale_updStory (f := fun x => { x with version := x.version + 1 }) (fun _ => rfl) hk

/-- A record changed with its version, but for its ties (R25). -/
theorem Keeps.versionChange_updStory {f : Story → Story} (hf : ∀ x, (f x).tie = x.tie) (hk : RoomHolds s → k < 512) :
    Keeps s ((s.updStory k f).versionChange k) := by
  rw [State.versionChange, State.updStory_updStory]
  exact Keeps.makeStale_updStory (fun x => hf x) hk

/-! ## The fit queue and the passes (R83 to R88) -/

theorem State.queue_engineTakeFor (fuel : Nat) : ∀ s : State, (s.engineTakeFor fuel).fit.queue.Sublist s.fit.queue := by
  induction fuel with
  | zero => exact fun s => .refl _
  | succ fuel ih =>
    intro s
    unfold State.engineTakeFor
    split
    · exact .refl _
    · split
      · exact .refl _
      · next n _ =>
        have hleft : (s.leaveFitQueue n).fit.queue.Sublist s.fit.queue := List.filter_sublist
        dsimp only
        split
        · exact (ih _).trans hleft
        · split
          · exact hleft
          · exact (ih _).trans hleft

theorem FitLists.of_sublist (h : FitLists s) (hrefit : t.fit.refit.Sublist s.fit.refit)
    (hqueue : t.fit.queue.Sublist s.fit.queue) : FitLists t :=
  ⟨h.refit.sublist (hrefit.map _), fun e he => h.refit_lt e (hrefit.subset he), h.queue.sublist hqueue,
    fun n hn => h.queue_lt n (hqueue.subset hn)⟩

theorem Keeps.engineTake : Keeps s s.engineTake := by
  have hqueue : s.engineTake.fit.queue.Sublist s.fit.queue := State.queue_engineTakeFor _ s
  have h := Keeps.of_lists (s := s) (refit := s.fit.refit) (queue := s.engineTake.fit.queue) (pass := s.engineTake.fit.pass)
    fun _ hl => hl.of_sublist (.refl _) hqueue
  rw [State.engineTake_only]
  exact h

theorem FitLists.append (h : FitLists s) (hk : k < 512) (hnot : ¬s.fit.queue.contains k = true) :
    (s.fit.queue ++ [k]).Nodup ∧ ∀ n ∈ s.fit.queue ++ [k], n < 512 := by
  refine ⟨List.nodup_append.2 ⟨h.queue, List.nodup_singleton k, fun a ha b hb => ?_⟩, fun n hn => ?_⟩
  · rw [List.mem_singleton.1 hb]
    rintro rfl
    exact hnot (by simpa using ha)
  · rcases List.mem_append.1 hn with hn | hn
    · exact h.queue_lt n hn
    · exact (List.mem_singleton.1 hn) ▸ hk

/-- A story joins the queue, with the refit list cut to a part of itself. -/
theorem Keeps.joined {refit : List RefitEntry} (hrefit : refit.Sublist s.fit.refit)
    (hk : RoomHolds s → FitLists s → k < 512) :
    Keeps s (({ s with fit := { s.fit with refit := refit } } : State).joinFitQueue k) := by
  unfold State.joinFitQueue
  refine Keeps.trans ?_ .engineTake
  split
  · exact Keeps.of_lists (refit := refit) (queue := s.fit.queue) (pass := s.fit.pass)
      fun _ hl => hl.of_sublist hrefit (.refl _)
  · next hnot =>
    exact Keeps.of_lists (refit := refit) (queue := s.fit.queue ++ [k]) (pass := s.fit.pass) fun hr hl =>
      ⟨hl.refit.sublist (hrefit.map _), fun e he => hl.refit_lt e (hrefit.subset he),
        (hl.append (hk hr hl) hnot).1, (hl.append (hk hr hl) hnot).2⟩

theorem Keeps.joinFitQueue (hk : RoomHolds s → k < 512) : Keeps s (s.joinFitQueue k) :=
  Keeps.joined (refit := s.fit.refit) (.refl _) fun hr _ => hk hr

theorem Keeps.leaveRefit (k : Nat) : Keeps s (s.leaveRefit k) :=
  Keeps.of_lists (refit := s.fit.refit.filter fun e => e.story != k) (queue := s.fit.queue) (pass := s.fit.pass)
    fun _ hl => hl.of_sublist List.filter_sublist (.refl _)

theorem Keeps.leaveFitQueue (k : Nat) : Keeps s (s.leaveFitQueue k) :=
  Keeps.of_lists (refit := s.fit.refit) (queue := s.fit.queue.filter (· != k)) (pass := s.fit.pass)
    fun _ hl => hl.of_sublist (.refl _) List.filter_sublist

theorem Keeps.setPass (pass : Option Pass) : Keeps s { s with fit := { s.fit with pass := pass } } :=
  Keeps.of_lists (refit := s.fit.refit) (queue := s.fit.queue) (pass := pass) fun _ hl => ⟨hl.refit, hl.refit_lt, hl.queue, hl.queue_lt⟩

theorem Keeps.fitNow (hk : RoomHolds s → k < 512) : Keeps s (s.fitNow k) :=
  (Keeps.leaveRefit k).trans (.joinFitQueue fun h => hk h.of_fit)

theorem Keeps.forgetFit (k : Nat) : Keeps s (s.forgetFit k) := by
  have hleft : Keeps s ((s.leaveRefit k).leaveFitQueue k) := (Keeps.leaveRefit k).trans (.leaveFitQueue k)
  unfold State.forgetFit
  dsimp only
  split
  · exact (hleft.trans (.setPass none)).trans .engineTake
  · exact hleft.trans .engineTake

theorem Keeps.firstDue : Keeps s s.firstDue := by
  unfold State.firstDue
  split
  · exact .refl s
  · next e rest hrefit =>
    split
    · exact Keeps.joined (by rw [hrefit]; exact List.sublist_cons_self ..) fun _ hl => hl.refit_lt e (by simp [hrefit])
    · exact .refl s

theorem State.fitStands_matched {p : Pass} {x : Story} {f : FitFigures} (hmatch : s.passMatches p x = true) (r : FitRecord)
    (hr : r = fitRecordOf p f) : r.basisVersion = x.version ∧ r.basisBody = (s.face x.style.face).generation ∧
      (r.basisHead.all fun g => x.head.any fun h => (s.face h.style.face).generation == g) = true := by
  subst hr
  simp only [State.passMatches, Bool.and_eq_true, beq_iff_eq] at hmatch
  obtain ⟨⟨hversion, hbody⟩, hhead⟩ := hmatch
  exact ⟨hversion.symm, hbody.symm, hhead⟩

theorem Keeps.completePass : Keeps s s.completePass := by
  unfold State.completePass
  split
  · exact .refl s
  · next p _ =>
    have hended : Keeps s { s with fit := { s.fit with pass := none } } := .setPass none
    dsimp only
    refine Keeps.trans ?_ .engineTake
    split
    · next x hx =>
      split
      · next hmatch =>
        refine hended.trans (Keeps.trans ?_ (Calm.touchStory _).keeps)
        refine ⟨(RoomCalm.updStory (f := fun y => { y with fit := some (fitRecordOf p (s.storyFigures p.story x)) })
          fun _ => rfl).keeps, ⟨fun h => ⟨h.faces, h.quiet⟩, fun _ hs n hn => ?_, fun _ hl => ?_⟩,
          (OutSame.updStory _).keeps⟩
        · by_cases hnp : n = p.story
          · subst hnp
            intro y hy r hr _
            rw [State.story_updStory] at hy
            obtain ⟨z, hz, rfl⟩ := Option.map_eq_some_iff.1 hy
            have hzx : z = x := Option.some.inj (hz.symm.trans hx)
            subst hzx
            exact State.fitStands_matched (s := s) hmatch r (Option.some.inj hr).symm
          · exact State.fitStands_congr (s := { s with fit := { s.fit with pass := none } }) rfl
              (State.story_updStory_of_ne _ _ _ _ hnp) (hs n hn)
        · exact ⟨hl.refit, hl.refit_lt, hl.queue, hl.queue_lt⟩
      · exact hended
    · exact hended

/-! ## Faces and the quiet time (R69, R70, R81) -/

theorem Keeps.makeStale (hk : RoomHolds s → k < 512) : Keeps s (s.makeStale k) := by
  have h := Keeps.makeStale_updStory (s := s) (f := id) (fun _ => rfl) hk
  have hid : s.updStory k id = s := by simp [State.updStory]
  rwa [hid] at h

/-- Stories made stale one after another: each of them, and each whose fit stood, has a fit that stands. -/
theorem State.fitStands_foldl (l : List Nat) (h : n ∈ l ∨ s.fitStands n) : (l.foldl State.makeStale s).fitStands n := by
  induction l generalizing s with
  | nil => exact h.resolve_left List.not_mem_nil
  | cons k l ih =>
    refine ih ?_
    rcases h with hmem | hstands
    · rcases List.mem_cons.1 hmem with rfl | hmem
      · exact Or.inr (State.fitStands_makeStale_self n)
      · exact Or.inl hmem
    · exact Or.inr (State.fitStands_makeStale hstands)

theorem foldl_makeStale_keeps (l : List Nat) (hl : ∀ k ∈ l, k < 512) : Keeps s (l.foldl State.makeStale s) := by
  induction l generalizing s with
  | nil => exact .refl s
  | cons k l ih =>
    exact (Keeps.makeStale fun _ => hl k (by simp)).trans (ih fun j hj => hl j (by simp [hj]))

/-- The state with half a face loaded, before the stories that use it are made stale. -/
def State.faceLoaded (s : State) (f : Nat) (upper : Bool) (widths : List Nat) : State :=
  { s with fit := { s.fit with faces := s.fit.faces.modify f fun x => x.load upper widths } }

theorem State.fitStands_faceLoaded {f : Nat} {upper : Bool} {widths : List Nat} (h : s.fitStands n)
    (huses : ∀ x, s.story n = some x → x.usesFace f = false) : (s.faceLoaded f upper widths).fitStands n := by
  have hface : ∀ g, g ≠ f → (s.faceLoaded f upper widths).face g = s.face g := fun g hg => getD_modify_ne _ _ _ _ _ hg
  intro x hx r hr hvalid
  have hx' : s.story n = some x := hx
  have hnot := huses x hx'
  simp only [Story.usesFace, Bool.or_eq_false_iff, beq_eq_false_iff_ne] at hnot
  obtain ⟨hbody, hhead⟩ := hnot
  obtain ⟨hversion, hgen, hheadGen⟩ := h x hx' r hr hvalid
  rw [hface _ hbody]
  refine ⟨hversion, hgen, ?_⟩
  cases hh : x.head with
  | none => rwa [hh] at hheadGen
  | some y =>
    rw [hh] at hheadGen hhead
    have hy : y.style.face ≠ f := by simpa using hhead
    simpa [hface _ hy] using hheadGen

theorem State.loadFace_eq (f : Nat) (upper : Bool) (widths : List Nat) : (s.loadFace f upper widths).1 =
    ((s.faceLoaded f upper widths).faceStories f).foldl State.makeStale (s.faceLoaded f upper widths) := by
  rw [State.loadFace, State.faceLoaded]

theorem Keeps.loadFace (f : Nat) (upper : Bool) (widths : List Nat) : Keeps s (s.loadFace f upper widths).1 := by
  have hlt : ∀ k ∈ (s.faceLoaded f upper widths).faceStories f, k < 512 := fun k hk => by
    have hmem : k ∈ List.range Config.stories := (List.mem_filter.1 hk).1
    rwa [List.mem_range, Config.stories] at hmem
  have hstale := foldl_makeStale_keeps (s := s.faceLoaded f upper widths) _ hlt
  have hroom : RoomKeeps s (s.faceLoaded f upper widths) := (RoomCalm.of_fit _).keeps
  rw [State.loadFace_eq]
  refine ⟨hroom.trans hstale.room, ⟨fun hs => hstale.fit.wide ⟨(List.length_modify ..).trans hs.faces, hs.quiet⟩,
    fun _ hs => fitsHold_iff.2 fun n hn => ?_, fun hr hl => hstale.fit.lists (hroom.holds hr) ⟨hl.refit, hl.refit_lt, hl.queue, hl.queue_lt⟩⟩,
    (OutSame.of_fit _).keeps.trans hstale.out⟩
  refine State.fitStands_foldl (s := s.faceLoaded f upper widths) _ ?_
  by_cases huses : ∀ x, s.story n = some x → x.usesFace f = false
  · exact Or.inr (State.fitStands_faceLoaded (fitsHold_iff.1 hs n hn) huses)
  · push Not at huses
    obtain ⟨x, hx, huse⟩ := huses
    have hrange : n ∈ List.range Config.stories := by
      rw [List.mem_range, Config.stories]
      exact hn
    have hx' : (s.faceLoaded f upper widths).story n = some x := hx
    have huser : ((s.faceLoaded f upper widths).story n).any (fun t => t.usesFace f) = true := by
      rw [hx']
      simpa using huse
    exact Or.inl (List.mem_filter.2 ⟨hrange, huser⟩)

theorem Keeps.quietTime {q : Nat} (hq : q ≤ 50) : Keeps s { s with fit := { s.fit with quiet := q } } :=
  ⟨(RoomCalm.of_fit _).keeps, ⟨fun h => ⟨h.faces, hq⟩, fun _ h => h, fun _ h => ⟨h.refit, h.refit_lt, h.queue, h.queue_lt⟩⟩,
    (OutSame.of_fit _).keeps⟩

end

end Sys2Proof.Machine
end

section
/-! SUPPORT. A story that moves: what enters and leaves a basket, what screens alerted by an arrival keep, and what one acting screen
changes of the limits invariants (R22 to R24, R52 to R54, R63, R64). -/

namespace Sys2Proof.Machine

/-! ## What moves leave of the fits and the output -/

/-- The fits and the output are as they were. -/
structure Apart (s t : State) : Prop where
  fit : FitSame s t
  out : OutSame s t

section
variable {A B : Nat → Nat → Prop} {s t u : State} {n k d : Nat}

theorem Apart.refl (s : State) : Apart s s := ⟨.refl s, .refl s⟩

theorem Apart.trans (h : Apart s t) (h' : Apart t u) : Apart s u := ⟨h.fit.trans h'.fit, h.out.trans h'.out⟩

theorem Calm.apart (h : Calm s t) : Apart s t := ⟨h.fit, h.out⟩

theorem Apart.of_tables (h : t = { s with
    store := t.store, desks := t.desks, baskets := t.baskets, profiles := t.profiles, screens := t.screens, lines := t.lines
    keyTurn := t.keyTurn, host := t.host, clock := t.clock, strapPins := t.strapPins, drawn := t.drawn
    pending := t.pending }) : Apart s t := by
  have hfit : t.fit = s.fit := (congrArg State.fit h :)
  have hstories : t.stories = s.stories := (congrArg State.stories h :)
  refine ⟨.of_screens hfit hstories, ?_⟩
  rw [h]
  exact ⟨rfl, rfl, rfl, rfl, rfl⟩

theorem Apart.updStory {f : Story → Story}
    (h : ∀ x, ((f x).version, (f x).style, (f x).head, (f x).fit) = (x.version, x.style, x.head, x.fit)) :
    Apart s (s.updStory k f) := by
  refine ⟨⟨rfl, rfl, rfl, rfl, fun j => ?_⟩, .updStory f⟩
  by_cases hj : j = k
  · subst hj
    rw [State.story_updStory, Option.map_map]
    exact Option.map_congr fun x _ => h x
  · rw [State.story_updStory_of_ne _ _ _ _ hj]

/-! ## What a screen bears -/

/-- Screen d has no more bells and keys than c or than its limits, and its ring list and buffer stay within theirs, with the arrivals
A. -/
structure Screen.Bears (A : Nat → Nat → Prop) (c d : Screen) : Prop where
  bells : c.bells ≤ 4 → d.bells ≤ 4
  escape : c.escape ≤ 4 → d.escape ≤ 4
  listed : ∀ P : Nat → Nat → Prop, (∀ e m, A e m → P e m) → c.Listed P → d.Listed P

theorem Screen.Bears.refl (A : Nat → Nat → Prop) (c : Screen) : c.Bears A c := ⟨id, id, fun _ _ => id⟩

theorem Screen.Bears.trans {a b c : Screen} (h : a.Bears A b) (h' : b.Bears A c) : a.Bears A c :=
  ⟨h'.bells ∘ h.bells, h'.escape ∘ h.escape, fun P hP => h'.listed P hP ∘ h.listed P hP⟩

theorem Screen.Follows.bears {a b : Screen} (h : a.Follows A b) : a.Bears A b :=
  ⟨h.bells, h.escape, fun _ hP ha => h.listed ha fun e m hm _ => hm.elim id (hP e m)⟩

/-- A screen whose ring list is empty, or goes on at the desk it is signed on at. -/
theorem Screen.Bears.of_place {a b : Screen} (hbells : a.bells ≤ 4 → b.bells ≤ 4) (hescape : a.escape ≤ 4 → b.escape ≤ 4)
    (hbuffer : a.buffer.length ≤ 12 → b.buffer.length ≤ 12) (hring : b.ring = a.ring)
    (hplace : a.ring ≠ [] → a.signedOn = true → b.signedOn = true ∧ b.desk = a.desk) : a.Bears A b := by
  refine ⟨hbells, hescape, fun P _ h => ⟨hring ▸ h.nodup, hbuffer h.buffer, fun hne => ?_, fun hne => ?_⟩⟩
  · rw [hring] at hne
    exact (hplace hne (h.signedOn hne)).1
  · rw [hring] at hne ⊢
    rw [(hplace hne (h.signedOn hne)).2]
    exact h.desk hne

theorem Screen.Bears.of_empty {a b : Screen} (hbells : a.bells ≤ 4 → b.bells ≤ 4) (hescape : a.escape ≤ 4 → b.escape ≤ 4)
    (hbuffer : a.buffer.length ≤ 12 → b.buffer.length ≤ 12) (hring : b.ring = []) : a.Bears A b :=
  ⟨hbells, hescape, fun _ _ h => ⟨hring ▸ List.nodup_nil, hbuffer h.buffer, fun hne => absurd hring hne,
    fun hne => absurd hring hne⟩⟩

theorem Screen.Listed.mono {P Q : Nat → Nat → Prop} {c : Screen} (h : c.Listed P) (hPQ : ∀ e m, m ∈ c.ring → P e m → Q e m) :
    c.Listed Q :=
  ⟨h.nodup, h.buffer, h.signedOn, fun hne => by
    obtain ⟨e, he, hm⟩ := h.desk hne
    exact ⟨e, he, fun m hmem => hPQ e m hmem (hm m hmem)⟩⟩

/-- Every screen bears what happens, and no line gets more keys than its limit. -/
structure Bears (A : Nat → Nat → Prop) (s t : State) : Prop where
  sizes : SameSizes s t
  queue : ∀ n, (s.line n).queue.length ≤ 8 → (t.line n).queue.length ≤ 8
  screen : ∀ n, (s.screen n).Bears A (t.screen n)

theorem Stirs.bears (h : Stirs A s t) : Bears A s t := ⟨h.sizes, fun n => (h.line n).queue, fun n => (h.screen n).bears⟩

theorem Bears.trans (h : Bears A s t) (h' : Bears A t u) : Bears A s u :=
  ⟨h.sizes.trans h'.sizes, fun n => h'.queue n ∘ h.queue n, fun n => (h.screen n).trans (h'.screen n)⟩

theorem Bears.wide (h : Bears A s t) (hs : RoomWide s) (hheld : ∀ d, (t.held d).length ≤ 64)
    (hviewers : ∀ k x, t.story k = some x → x.viewers.length ≤ 8) : RoomWide t :=
  ⟨h.sizes.desks.trans hs.desks, h.sizes.baskets.trans hs.baskets, h.sizes.profiles.trans hs.profiles,
    h.sizes.screens.trans hs.screens, h.sizes.lines.trans hs.lines, hheld, hviewers, fun n => h.queue n (hs.queue n),
    fun n => ⟨(h.screen n).bells (hs.screen n).1, (h.screen n).escape (hs.screen n).2⟩⟩

theorem Bears.lists (h : Bears A s t) (hl : RoomLists s)
    (hheld : ∀ n d m, m ∈ (t.screen n).ring → m ∈ s.held d ∨ A d m → m ∈ t.held d) : RoomLists t := fun n =>
  ((h.screen n).listed (fun d m => m ∈ s.held d ∨ A d m) (fun _ _ => Or.inr) ((hl n).mono fun _ _ _ => Or.inl)).mono
    fun d m hring => hheld n d m hring

/-! ## One screen acts -/

/-- Screen n and its line act, and every other screen and line keeps its place. -/
structure ActsOn (A : Nat → Nat → Prop) (n : Nat) (s t : State) : Prop where
  bears : Bears A s t
  line : ∀ m, m ≠ n → (s.line m).Follows (t.line m)
  screen : ∀ m, m ≠ n → (s.screen m).Follows A (t.screen m)

/-- Screen n acts, and its line keeps its place too. -/
structure ActsAt (A : Nat → Nat → Prop) (n : Nat) (s t : State) : Prop extends ActsOn A n s t where
  own : (s.line n).Follows (t.line n)

theorem Stirs.acts (h : Stirs A s t) (n : Nat) : ActsAt A n s t := ⟨⟨h.bears, fun m _ => h.line m, fun m _ => h.screen m⟩, h.line n⟩

theorem ActsOn.trans (h : ActsOn A n s t) (h' : ActsOn A n t u) : ActsOn A n s u :=
  ⟨h.bears.trans h'.bears, fun m hm => (h.line m hm).trans (h'.line m hm), fun m hm => (h.screen m hm).trans (h'.screen m hm)⟩

theorem ActsAt.trans (h : ActsAt A n s t) (h' : ActsAt A n t u) : ActsAt A n s u :=
  ⟨h.toActsOn.trans h'.toActsOn, h.own.trans h'.own⟩

theorem ActsAt.updScreen {f : Screen → Screen} (h : (s.screen n).Bears A (f (s.screen n))) : ActsAt A n s (s.updScreen n f) := by
  refine ⟨⟨⟨{ SameSizes.refl s with screens := State.length_screens_updScreen n f }, fun _ => id, fun m => ?_⟩, fun _ _ => .refl _,
    fun m hm => ?_⟩, .refl _⟩
  · rw [State.screen_updScreen_eq]
    split
    · next hm => exact hm.1 ▸ h
    · exact .refl A _
  · rw [State.screen_updScreen_of_ne _ _ _ _ hm]
    exact .refl A _

/-- Story k moves with what screen n does, and the screens go on showing the stories whose records name them. -/
theorem Shown.act (h : Shown s) (hacts : ActsOn A n s t) (htie : ∀ j, j ≠ k → t.tie j = s.tie j)
    (hnames : ∀ m, m ≠ n → ∀ r, t.names m k r ↔ s.names m k r) (hself : ∀ r, t.shows n k r ↔ t.names n k r)
    (hbefore : ∀ j r, s.shows n j r → j = k) (hafter : ∀ j r, t.shows n j r → j = k) (hholds : (t.screen n).holds)
    (hline : (t.line n).holds (t.screen n)) (howned : ∀ x, t.story k = some x → x.owner.isSome = true → x.state = .open_) :
    Shown t := by
  refine ⟨fun m => ?_, fun m => ?_, fun m j r => ?_, fun j x hx ho => ?_⟩
  · by_cases hm : m = n
    · exact hm ▸ hholds
    · exact (hacts.screen m hm).holds (h.holds m)
  · by_cases hm : m = n
    · exact hm ▸ hline
    · exact (hacts.line m hm).holds (h.lines m) (by rw [(hacts.screen m hm).mode]) fun hconfig => by
        rw [(hacts.screen m hm).story]
        exact (h.lines m).2.2.2 hconfig
  · by_cases hj : j = k
    · subst hj
      by_cases hm : m = n
      · exact hm ▸ hself r
      · rw [State.shows, (hacts.screen m hm).story, hnames m hm r]
        exact h.names m j r
    · rw [State.names_of_tie (htie j hj)]
      by_cases hm : m = n
      · subst hm
        exact ⟨fun hs => absurd (hafter j r hs) hj, fun hs => absurd (hbefore j r ((h.names m j r).2 hs)) hj⟩
      · rw [State.shows, (hacts.screen m hm).story]
        exact h.names m j r
  · by_cases hj : j = k
    · subst hj
      exact howned x hx ho
    · obtain ⟨y, hy, heq⟩ := State.tie_eq_some hx (htie j hj)
      rw [← Story.state_of_tie heq]
      exact h.owned j y hy (by rwa [Story.owner_of_tie heq])

/-- Screen n acts and keeps the story that it holds, or holds none. -/
theorem Shown.act_same (h : Shown s) (hacts : ActsOn A n s t) (htie : ∀ j, t.tie j = s.tie j)
    (hstory : (t.screen n).story = (s.screen n).story) (hholds : (t.screen n).holds) (hline : (t.line n).holds (t.screen n)) :
    Shown t := by
  have hshows : ∀ m j r, t.shows m j r ↔ s.shows m j r := fun m j r => by
    by_cases hm : m = n
    · rw [State.shows, hm, hstory, State.shows]
    · rw [State.shows, (hacts.screen m hm).story, State.shows]
  refine ⟨fun m => ?_, fun m => ?_, fun m j r => ?_, fun j x hx ho => ?_⟩
  · by_cases hm : m = n
    · exact hm ▸ hholds
    · exact (hacts.screen m hm).holds (h.holds m)
  · by_cases hm : m = n
    · exact hm ▸ hline
    · exact (hacts.line m hm).holds (h.lines m) (by rw [(hacts.screen m hm).mode]) fun hconfig => by
        rw [(hacts.screen m hm).story]
        exact (h.lines m).2.2.2 hconfig
  · rw [hshows, State.names_of_tie (htie j)]
    exact h.names m j r
  · obtain ⟨y, hy, heq⟩ := State.tie_eq_some hx (htie j)
    rw [← Story.state_of_tie heq]
    exact h.owned j y hy (by rwa [Story.owner_of_tie heq])

/-- A line goes on agreeing with its screen while the screen stays UP. -/
theorem Shown.line_of_up (h : Shown s) (hacts : ActsAt A n s t) (hup : (s.screen n).mode ≠ .down) (hup' : (t.screen n).mode ≠ .down) :
    (t.line n).holds (t.screen n) := by
  obtain ⟨hoff, hmode, -, -⟩ := h.lines n
  refine hacts.own.holds (h.lines n) ⟨fun hd => absurd hd hup', fun hd => absurd hd hup⟩ fun hconfig => ?_
  have hstate := hmode.2 hup
  rw [hoff.1 hconfig] at hstate
  cases hstate

/-! ## Arrivals (R53, R63) -/

/-- Story k arrives at desk d. -/
def Arrival (d k : Nat) : Nat → Nat → Prop := fun e m => e = d ∧ m = k

theorem Stirs.updScreen {f : Screen → Screen} (h : (s.screen n).Follows A (f (s.screen n))) : Stirs A s (s.updScreen n f) := by
  refine ⟨{ SameSizes.refl s with screens := State.length_screens_updScreen n f }, fun m => ?_, fun _ => .refl _⟩
  rw [State.screen_updScreen_eq]
  split
  · next hm => exact hm.1 ▸ h
  · exact .refl A _

theorem Screen.follows_ring {c : Screen} {ring : List Nat} (hnodup : c.ring.Nodup → ring.Nodup)
    (hring : ∀ m ∈ ring, m ∈ c.ring ∨ m = k) (hon : c.signedOnAt d = true) : c.Follows (Arrival d k) { c with ring := ring } := by
  have hat : c.signedOn = true ∧ c.desk = some d := by simpa [Screen.signedOnAt] using hon
  exact { Screen.Follows.refl (Arrival d k) c with
    nodup := hnodup
    ring := fun m hm => (hring m hm).imp_right fun hmk => ⟨hat.1, d, hat.2, rfl, hmk⟩ }

theorem Stirs.joinRing (hon : (s.screen n).signedOnAt d = true) : Stirs (Arrival d k) s (s.joinRing n k) := by
  refine .updScreen ?_
  split
  · exact .refl _ _
  · next hnot =>
    have hnot' : k ∉ (s.screen n).ring := by simpa using hnot
    split
    · exact (Screen.follows_ring (ring := [k]) (fun _ => List.nodup_singleton k) (by simp) hon).trans (.of_core rfl)
    · refine Screen.follows_ring (fun hn => ?_) (fun m hm => ?_) hon
      · refine List.nodup_append.2 ⟨hn, List.nodup_singleton k, fun a ha b hb => ?_⟩
        rw [List.mem_singleton.1 hb]
        exact ne_of_mem_of_not_mem ha hnot'
      · simpa using hm

theorem Stirs.alertScreen (hon : (s.screen n).signedOnAt d = true) (p : Priority) :
    Stirs (Arrival d k) s (s.alertScreen n k p) := by
  cases p with
  | flash => exact (Stirs.joinRing hon).trans (Calm.wake n).room.stirs.of_noArrival
  | bulletin => exact (Calm.bell n).room.stirs.of_noArrival
  | urgent => exact .updScreen (.of_core rfl)
  | routine => exact .updScreen (.of_core rfl)

theorem Stirs.alert (d k : Nat) (p : Priority) (cause : Option Nat) : Stirs (Arrival d k) s (s.alert d k p cause) := by
  refine s.foldl_keeps (Stirs (Arrival d k) s) _ (fun u m hu => ?_) _ (.refl _ s)
  split
  · next hon =>
    exact hu.trans (.alertScreen (by simpa using (Bool.and_eq_true _ _ ▸ hon).1) p)
  · exact hu

theorem Stirs.enterBasket {x : Story} (hx : s.story k = some x) (cause : Option Nat) :
    Stirs (Arrival x.desk k) s (s.enterBasket k cause) := by
  rw [State.enterBasket_eq_of_cause hx]
  have hput : Stirs (Arrival x.desk k) s (s.updBasket x.desk (placeEntry s.rank ⟨k, s.clock.time, false⟩)) :=
    ⟨{ SameSizes.refl s with baskets := List.length_modify .. }, fun _ => .refl _ _, fun _ => .refl _⟩
  exact hput.trans ((Stirs.alert ..).trans (Calm.reportDesk x.desk).room.stirs.of_noArrival)

theorem placeEntry_perm (rank : Entry → Nat) (e : Entry) (l : List Entry) : (placeEntry rank e l).Perm (e :: l) := by
  obtain ⟨a, b, hl, hplaced, -, -⟩ := placeEntry_eq rank e l
  rw [hplaced, hl]
  exact List.perm_middle

theorem State.held_of_baskets (h : t.baskets = s.baskets) (d : Nat) : t.held d = s.held d := by
  rw [State.held, State.held, State.basket, State.basket, h]

theorem State.held_updBasket (f : List Entry → List Entry) (e : Nat) : (s.updBasket d f).held e =
    if e = d ∧ d < s.baskets.length then (f (s.basket d)).map Entry.story else s.held e := by
  split
  · next h =>
    obtain ⟨rfl, hd⟩ := h
    rw [State.held, State.basket_updBasket s _ _ hd]
  · next h =>
    by_cases hed : e = d
    · subst hed
      have hd : ¬e < s.baskets.length := fun hd => h ⟨rfl, hd⟩
      simp [State.held, State.basket, State.updBasket, List.getD_eq_getElem?_getD, hd]
    · rw [State.held, State.basket_updBasket_of_ne s _ _ _ hed, State.held]

/-- A story that enters its desk's basket stands there once more. -/
theorem State.held_enterBasket {x : Story} (hx : s.story k = some x) (cause : Option Nat) (e : Nat) :
    ((s.enterBasket k cause).held e).Perm (if e = x.desk ∧ x.desk < s.baskets.length then k :: s.held e else s.held e) := by
  rw [State.held_of_baskets (s := s.updBasket x.desk (placeEntry s.rank ⟨k, s.clock.time, false⟩))
    (by rw [State.enterBasket_only s k cause x hx]; rfl), State.held_updBasket]
  split
  · next h => exact h.1 ▸ ((placeEntry_perm ..).map Entry.story)
  · exact .refl _

theorem Apart.enterBasket (cause : Option Nat) : Apart s (s.enterBasket k cause) := by
  cases hx : s.story k with
  | none =>
    rw [State.enterBasket, hx]
    exact .refl s
  | some x =>
    rw [State.enterBasket_only s k cause x hx]
    exact .of_tables rfl

theorem State.story_enterBasket (cause : Option Nat) (j : Nat) : (s.enterBasket k cause).story j = s.story j := by
  cases hx : s.story k with
  | none => rw [State.enterBasket, hx]
  | some x => rw [State.story, State.stories_enterBasket hx, State.story]

/-! ## Withdrawals (R54) -/

theorem Stirs.leaveBasket (k : Nat) : Stirs NoArrival s (s.leaveBasket k) := by
  unfold State.leaveBasket
  split
  · exact .refl _ s
  · next x _ =>
    have hcut : Stirs NoArrival s (s.updBasket x.desk fun l => l.filter fun e => e.story != k) :=
      ⟨{ SameSizes.refl s with baskets := List.length_modify .. }, fun _ => .refl _ _, fun _ => .refl _⟩
    exact hcut.trans ((Calm.leaveRings k).room.stirs.trans (Calm.reportDesk x.desk).room.stirs)

theorem State.held_leaveBasket {x : Story} (hx : s.story k = some x) (e : Nat) :
    (s.leaveBasket k).held e = if e = x.desk then (s.held e).filter (· != k) else s.held e := by
  rw [State.held_of_baskets (s := s.updBasket x.desk (List.filter fun e => e.story != k)) (State.baskets_leaveBasket hx),
    State.held_updBasket]
  by_cases he : e = x.desk
  · subst he
    rw [if_pos rfl]
    have hfilter : ((s.basket x.desk).filter fun e => e.story != k).map Entry.story = (s.held x.desk).filter (· != k) := by
      rw [State.held, List.filter_map]
      rfl
    split
    · exact hfilter
    · next hd =>
      have hempty : s.held x.desk = [] := by
        have hlen : ¬x.desk < s.baskets.length := fun h => hd ⟨rfl, h⟩
        simp [State.held, State.basket, List.getD_eq_getElem?_getD, hlen]
      rw [hempty]
      rfl
  · rw [if_neg he, if_neg fun h => he h.1]

theorem Apart.leaveBasket (k : Nat) : Apart s (s.leaveBasket k) := by
  rw [State.leaveBasket_only]
  exact .of_tables rfl

end

end Sys2Proof.Machine
end

section
/-! SUPPORT. One story turns: what its new record, its basket and its screen must say for the limits invariants to be kept (R22 to R24,
R52, R64, R91). -/

namespace Sys2Proof.Machine

/-! ## The place of a screen -/

/-- What of a screen its agreement depends on. -/
def Screen.place (c : Screen) : Mode × Option Nat × Option (Nat × Role) × Bool × Prompt :=
  (c.mode, c.desk, c.story, c.grace.isSome, c.prompt)

section
variable {c d : Screen} {k e : Nat} {o : Option Nat} {st : Option (Nat × Role)} {g : Bool} {p : Prompt} {m : Mode}

theorem Screen.place_of_task (h : d.task = c.task) : d.place = c.place := by
  have hmode : d.mode = c.mode := (congrArg Screen.mode h :)
  have hdesk : d.desk = c.desk := (congrArg Screen.desk h :)
  have hstory : d.story = c.story := (congrArg Screen.story h :)
  have hgrace : d.grace = c.grace := (congrArg Screen.grace h :)
  have hprompt : d.prompt = c.prompt := (congrArg Screen.prompt h :)
  rw [Screen.place, Screen.place, hmode, hdesk, hstory, hgrace, hprompt]

theorem Screen.place_iff : c.place = (m, o, st, g, p) ↔
    c.mode = m ∧ c.desk = o ∧ c.story = st ∧ c.grace.isSome = g ∧ c.prompt = p := by simp [Screen.place]

theorem Screen.holds_of_desk (h : c.place = (.desk, some e, none, false, p)) (hasks : Mode.desk.asks p = true) : c.holds := by
  obtain ⟨hmode, hdesk, hstory, hgrace, hprompt⟩ := Screen.place_iff.1 h
  rw [Screen.holds_iff]
  constructor <;> simp [Screen.signedOn, hmode, hdesk, hstory, hgrace, hprompt, hasks]

theorem Screen.holds_of_edit (h : c.place = (.edit, some e, some (k, .owner), false, p)) (hasks : Mode.edit.asks p = true) :
    c.holds := by
  obtain ⟨hmode, hdesk, hstory, hgrace, hprompt⟩ := Screen.place_iff.1 h
  rw [Screen.holds_iff]
  constructor <;> simp [Screen.signedOn, hmode, hdesk, hstory, hgrace, hprompt, hasks]

theorem Screen.holds_of_view (h : c.place = (.view, some e, some (k, .viewer), false, p)) (hasks : Mode.view.asks p = true) :
    c.holds := by
  obtain ⟨hmode, hdesk, hstory, hgrace, hprompt⟩ := Screen.place_iff.1 h
  rw [Screen.holds_iff]
  constructor <;> simp [Screen.signedOn, hmode, hdesk, hstory, hgrace, hprompt, hasks]

theorem Screen.holds_of_away (h : c.place = (m, o, none, false, p)) (hm : m = .down ∨ m = .signedOff) (hasks : m.asks p = true) :
    c.holds := by
  obtain ⟨hmode, hdesk, hstory, hgrace, hprompt⟩ := Screen.place_iff.1 h
  rw [Screen.holds_iff]
  rcases hm with rfl | rfl <;> constructor <;> simp [Screen.signedOn, hmode, hstory, hgrace, hprompt, hasks]

theorem Screen.holds_of_grace (h : c.place = (m, o, some (k, .owner), true, p)) (hm : m = .down ∨ m = .signedOff)
    (hasks : m.asks p = true) : c.holds := by
  obtain ⟨hmode, hdesk, hstory, hgrace, hprompt⟩ := Screen.place_iff.1 h
  rw [Screen.holds_iff]
  rcases hm with rfl | rfl <;> constructor <;> simp [Screen.signedOn, hmode, hstory, hgrace, hprompt, hasks]

/-- A signed-on screen in agreement has a desk and no grace. -/
theorem Screen.Agrees.place_of_signedOn (h : c.Agrees) (hon : c.signedOn = true) :
    ∃ e, c.place = (c.mode, some e, c.story, false, c.prompt) := by
  obtain ⟨e, he⟩ := Option.isSome_iff_exists.1 (h.signedOn hon)
  have hgrace : c.grace.isSome = false := by
    by_contra hg
    have hmode := (h.grace (eq_true_of_ne_false hg)).1
    rw [Screen.signedOn] at hon
    rcases hmode with hmode | hmode <;> simp [hmode] at hon
  exact ⟨e, by rw [Screen.place, he, hgrace]⟩

theorem Screen.Agrees.place_of_desk (h : c.Agrees) (hmode : c.mode = .desk) : ∃ e, c.place = (.desk, some e, none, false, c.prompt) := by
  obtain ⟨e, he⟩ := h.place_of_signedOn (by rw [Screen.signedOn, hmode])
  exact ⟨e, by rw [he, hmode, h.desk hmode]⟩

theorem Screen.Agrees.place_of_edit (h : c.Agrees) (hmode : c.mode = .edit) :
    ∃ e k, c.place = (.edit, some e, some (k, .owner), false, c.prompt) := by
  obtain ⟨e, he⟩ := h.place_of_signedOn (by rw [Screen.signedOn, hmode])
  obtain ⟨⟨k, r⟩, hstory, hr⟩ := Option.map_eq_some_iff.1 (h.edit hmode)
  obtain rfl : r = .owner := hr
  exact ⟨e, k, by rw [he, hmode, hstory]⟩

theorem Screen.Agrees.place_of_view (h : c.Agrees) (hmode : c.mode = .view) :
    ∃ e k, c.place = (.view, some e, some (k, .viewer), false, c.prompt) := by
  obtain ⟨e, he⟩ := h.place_of_signedOn (by rw [Screen.signedOn, hmode])
  obtain ⟨⟨k, r⟩, hstory, hr⟩ := Option.map_eq_some_iff.1 (h.view hmode)
  obtain rfl : r = .viewer := hr
  exact ⟨e, k, by rw [he, hmode, hstory]⟩

/-- A screen in agreement that views a story is in VIEW. -/
theorem Screen.Agrees.mode_of_viewer (h : c.Agrees) (hstory : c.story = some (k, .viewer)) : c.mode = .view := by
  cases hmode : c.mode with
  | down =>
    have hgrace := h.away (Or.inl hmode) (by rw [hstory]; rfl)
    exact absurd (h.grace hgrace).2 (by simp [hstory])
  | signedOff =>
    have hgrace := h.away (Or.inr hmode) (by rw [hstory]; rfl)
    exact absurd (h.grace hgrace).2 (by simp [hstory])
  | desk => exact absurd (hstory.symm.trans (h.desk hmode)) (Option.some_ne_none _)
  | edit => exact absurd (h.edit hmode) (by simp [hstory])
  | view => rfl

/-- A screen in agreement that owns a story is in EDIT or under a grace. -/
theorem Screen.Agrees.mode_of_owner (h : c.Agrees) (hstory : c.story = some (k, .owner)) :
    c.mode = .edit ∨ c.grace.isSome = true ∧ (c.mode = .down ∨ c.mode = .signedOff) := by
  cases hmode : c.mode with
  | down => exact Or.inr ⟨h.away (Or.inl hmode) (by rw [hstory]; rfl), Or.inl rfl⟩
  | signedOff => exact Or.inr ⟨h.away (Or.inr hmode) (by rw [hstory]; rfl), Or.inr rfl⟩
  | desk => exact absurd (hstory.symm.trans (h.desk hmode)) (Option.some_ne_none _)
  | edit => exact Or.inl rfl
  | view => exact absurd (h.view hmode) (by simp [hstory])

end

/-! ## One story turns -/

/-- Story k's record turns from x to y, and no other record's ties change. -/
structure Turn (k : Nat) (s t : State) (x y : Story) : Prop where
  apart : Apart s t
  before : s.story k = some x
  after : t.tie k = some y.tie
  others : ∀ j, j ≠ k → t.tie j = s.tie j

section
variable {A : Nat → Nat → Prop} {s t : State} {n k : Nat} {x y : Story}

theorem State.names_iff (hx : s.tie k = some x.tie) (m : Nat) (r : Role) :
    s.names m k r ↔ if r = .owner then x.owner = some m else m ∈ x.viewers := by
  obtain ⟨z, hz, heq⟩ := Option.map_eq_some_iff.1 hx
  rw [← Story.owner_of_tie heq, ← Story.viewers_of_tie heq]
  constructor
  · rintro ⟨w, hw, hr⟩
    obtain rfl := Option.some.inj (hz.symm.trans hw)
    exact hr
  · exact fun hr => ⟨z, hz, hr⟩

theorem State.tie_eq (hx : s.story k = some x) : s.tie k = some x.tie := by rw [State.tie, hx]; rfl

theorem State.seat_eq (hx : s.tie k = some x.tie) : s.seat k = some (x.desk, x.state) := by
  obtain ⟨z, hz, heq⟩ := Option.map_eq_some_iff.1 hx
  have hdesk : z.desk = x.desk := congrArg Prod.fst heq
  rw [State.seat, hz, Option.map_some, hdesk, Story.state_of_tie heq]

theorem Turn.tie (h : Turn k s t x y) : s.tie k = some x.tie := State.tie_eq h.before

theorem Turn.seat (h : Turn k s t x y) (j : Nat) (hj : j ≠ k) : t.seat j = s.seat j := State.seat_of_tie (h.others j hj)

/-- The screens go on showing the stories where the turned record names those it named, but for screen n, which it names as that screen
now holds the story. -/
theorem Turn.shown {a b : Option Role} (h : Turn k s t x y) (hs : Shown s) (hacts : ActsOn A n s t)
    (hb : (s.screen n).story = b.map fun r => (k, r)) (ha : (t.screen n).story = a.map fun r => (k, r))
    (howner : ∀ m, y.owner = some m ↔ if m = n then a = some .owner else x.owner = some m)
    (hviewers : ∀ m, m ∈ y.viewers ↔ if m = n then a = some .viewer else m ∈ x.viewers) (hholds : (t.screen n).holds)
    (hline : (t.line n).holds (t.screen n)) (hopen : y.owner.isSome = true → y.state = .open_) : Shown t := by
  refine hs.act hacts h.others (fun m hm r => ?_) (fun r => ?_) (fun j r hj => ?_) (fun j r hj => ?_) hholds hline
    fun z hz ho => ?_
  · rw [State.names_iff h.after, State.names_iff h.tie, howner m, hviewers m, if_neg hm, if_neg hm]
  · rw [State.names_iff h.after, howner n, hviewers n, if_pos rfl, if_pos rfl, State.shows, ha]
    cases a <;> cases r <;> simp
  · rw [State.shows, hb] at hj
    cases b <;> simp at hj
    exact hj.1.symm
  · rw [State.shows, ha] at hj
    cases a <;> simp at hj
    exact hj.1.symm
  · have heq : y.tie = z.tie := Option.some.inj (h.after.symm.trans (State.tie_eq hz))
    rw [← Story.state_of_tie heq]
    exact hopen (by rwa [Story.owner_of_tie heq])

/-- What the records and the screens in agreement say of an owner and of a viewer. -/
theorem Shown.owner_iff (h : Shown s) (hx : s.tie k = some x.tie) (m : Nat) :
    x.owner = some m ↔ (s.screen m).story = some (k, .owner) := by
  have hn := h.names m k .owner
  rw [State.names_iff hx, if_pos rfl] at hn
  exact hn.symm

theorem Shown.viewer_iff (h : Shown s) (hx : s.tie k = some x.tie) (m : Nat) :
    m ∈ x.viewers ↔ (s.screen m).story = some (k, .viewer) := by
  have hn := h.names m k .viewer
  rw [State.names_iff hx, if_neg (by decide)] at hn
  exact hn.symm

theorem Shown.owner_of_not_open (h : Shown s) (hx : s.story k = some x) (hstate : x.state ≠ .open_) : x.owner = none := by
  cases ho : x.owner with
  | none => rfl
  | some o => exact absurd (h.owned k x hx (by rw [ho]; rfl)) hstate

/-- Screen n becomes the owner of a story without one. -/
theorem Turn.shown_own (h : Turn k s t x y) (hs : Shown s) (hacts : ActsOn A n s t) (hb : (s.screen n).story = none)
    (ha : (t.screen n).story = some (k, .owner)) (hx : x.owner = none) (howner : y.owner = some n) (hstate : y.state = .open_)
    (hviewers : y.viewers = x.viewers) (hholds : (t.screen n).holds) (hline : (t.line n).holds (t.screen n)) : Shown t := by
  have hviewer : n ∉ x.viewers := fun hv => absurd (hb.symm.trans ((hs.viewer_iff h.tie n).1 hv)) nofun
  refine h.shown (a := some .owner) (b := none) hs hacts hb ha (fun m => ?_) (fun m => ?_) hholds hline fun _ => hstate
  · simp [howner, hx, eq_comm]
  · by_cases hm : m = n <;> simp [hviewers, hm, hviewer]

/-- Screen n, the owner, leaves its story, which has no owner then. -/
theorem Turn.shown_disown (h : Turn k s t x y) (hs : Shown s) (hacts : ActsOn A n s t) (hb : (s.screen n).story = some (k, .owner))
    (ha : (t.screen n).story = none) (howner : y.owner = none) (hviewers : y.viewers = x.viewers) (hholds : (t.screen n).holds)
    (hline : (t.line n).holds (t.screen n)) : Shown t := by
  have hx : x.owner = some n := (hs.owner_iff h.tie n).2 hb
  have hviewer : n ∉ x.viewers := fun hv => by
    have hshows := hb.symm.trans ((hs.viewer_iff h.tie n).1 hv)
    simp at hshows
  refine h.shown (a := none) (b := some .owner) hs hacts hb ha (fun m => ?_) (fun m => ?_) hholds hline fun ho => ?_
  · by_cases hm : m = n
    · simp [howner, hm]
    · simp [howner, hx, hm, Ne.symm hm]
  · by_cases hm : m = n <;> simp [hviewers, hm, hviewer]
  · rw [howner] at ho
    cases ho

/-- Screen n becomes a viewer. -/
theorem Turn.shown_view (h : Turn k s t x y) (hs : Shown s) (hacts : ActsOn A n s t) (hb : (s.screen n).story = none)
    (ha : (t.screen n).story = some (k, .viewer)) (howner : y.owner = x.owner) (hstate : y.state = x.state)
    (hviewers : y.viewers = insertNum n x.viewers) (hholds : (t.screen n).holds) (hline : (t.line n).holds (t.screen n)) :
    Shown t := by
  have hx : x.owner ≠ some n := fun ho => absurd (hb.symm.trans ((hs.owner_iff h.tie n).1 ho)) nofun
  refine h.shown (a := some .viewer) (b := none) hs hacts hb ha (fun m => ?_) (fun m => ?_) hholds hline fun ho => ?_
  · by_cases hm : m = n <;> simp [howner, hm, hx]
  · by_cases hm : m = n <;> simp [hviewers, mem_insertNum, hm]
  · rw [hstate]
    exact hs.owned k x h.before (howner ▸ ho)

/-- Screen n, a viewer, leaves its story. -/
theorem Turn.shown_unview (h : Turn k s t x y) (hs : Shown s) (hacts : ActsOn A n s t) (hb : (s.screen n).story = some (k, .viewer))
    (ha : (t.screen n).story = none) (howner : y.owner = x.owner) (hstate : y.state = x.state)
    (hviewers : y.viewers = eraseNum n x.viewers) (hholds : (t.screen n).holds) (hline : (t.line n).holds (t.screen n)) :
    Shown t := by
  have hx : x.owner ≠ some n := fun ho => by
    have hshows := hb.symm.trans ((hs.owner_iff h.tie n).1 ho)
    simp at hshows
  refine h.shown (a := none) (b := some .viewer) hs hacts hb ha (fun m => ?_) (fun m => ?_) hholds hline fun ho => ?_
  · by_cases hm : m = n <;> simp [howner, hm, hx]
  · by_cases hm : m = n <;> simp [hviewers, eraseNum, hm]
  · rw [hstate]
    exact hs.owned k x h.before (howner ▸ ho)

/-- A story turns at no screen. -/
theorem Turn.shown_still (h : Turn k s t x y) (hs : Shown s) (hstirs : Stirs A s t) (howner : y.owner = x.owner)
    (hviewers : y.viewers = x.viewers) (hopen : y.owner.isSome = true → y.state = .open_) : Shown t := by
  refine ⟨hstirs.holds hs, hstirs.lineHolds hs, fun m j r => ?_, fun j z hz ho => ?_⟩
  · rw [hstirs.shows, hs.names]
    by_cases hj : j = k
    · rw [hj, State.names_iff h.tie, State.names_iff h.after, howner, hviewers]
    · exact (State.names_of_tie (h.others j hj)).symm
  · by_cases hj : j = k
    · subst hj
      have heq : y.tie = z.tie := Option.some.inj (h.after.symm.trans (State.tie_eq hz))
      rw [← Story.state_of_tie heq]
      exact hopen (by rwa [Story.owner_of_tie heq])
    · obtain ⟨w, hw, heq⟩ := State.tie_eq_some hz (h.others j hj)
      rw [← Story.state_of_tie heq]
      exact hs.owned j w hw (by rwa [Story.owner_of_tie heq])

/-- The turned story stands where it stood, or goes on standing nowhere. -/
theorem Turn.seated_stay (h : Turn k s t x y) (hs : Seated s) (hdesk : y.desk = x.desk) (hstored : y.state.stored ↔ x.state.stored)
    (hheld : ∀ d, (t.held d).Perm (s.held d)) : Seated t := by
  have hmem : ∀ d j, j ∈ t.held d ↔ j ∈ s.held d := fun d j => (hheld d).mem_iff
  refine hs.turn (k := k) h.seat (fun d => (hheld d).nodup_iff.2 (hs.nodup d)) (fun d j _ => hmem d j) (fun d => ?_)
    fun d st hk => ?_
  · rw [hmem, hs.held d k, State.seat_eq h.tie, State.seat_eq h.after, hdesk]
    constructor
    · rintro ⟨st, hst, hx⟩
      obtain ⟨rfl, rfl⟩ : x.desk = d ∧ x.state = st := by simpa using hst
      exact ⟨y.state, rfl, hstored.2 hx⟩
    · rintro ⟨st, hst, hy⟩
      obtain ⟨rfl, rfl⟩ : x.desk = d ∧ y.state = st := by simpa using hst
      exact ⟨x.state, rfl, hstored.1 hy⟩
  · rw [State.seat_eq h.after, hdesk] at hk
    obtain ⟨rfl, rfl⟩ : x.desk = d ∧ y.state = st := by simpa using hk
    exact hs.desk k x.desk x.state (State.seat_eq h.tie)

theorem Seated.not_mem (hs : Seated s) (hx : s.tie k = some x.tie) (hstored : ¬x.state.stored) (d : Nat) : k ∉ s.held d := fun hk => by
  obtain ⟨st, hst, hst'⟩ := (hs.held d k).1 hk
  rw [State.seat_eq hx] at hst
  obtain ⟨-, rfl⟩ : x.desk = d ∧ x.state = st := by simpa using hst
  exact hstored hst'

/-- The turned story arrives at its desk's basket. -/
theorem Turn.seated_arrive (h : Turn k s t x y) (hs : Seated s) (hx : ¬x.state.stored) (hy : y.state.stored) (hdesk : y.desk < 16)
    (hheld : ∀ d, (t.held d).Perm (if d = y.desk then k :: s.held d else s.held d)) : Seated t := by
  have hfree := hs.not_mem h.tie hx
  have hmem : ∀ d j, j ∈ t.held d ↔ (d = y.desk ∧ j = k) ∨ j ∈ s.held d := fun d j => by
    rw [(hheld d).mem_iff]
    split <;> simp [*]
  refine hs.turn (k := k) h.seat (fun d => ?_) (fun d j hj => ?_) (fun d => ?_) fun d st hk => ?_
  · rw [(hheld d).nodup_iff]
    split
    · exact List.nodup_cons.2 ⟨hfree d, hs.nodup d⟩
    · exact hs.nodup d
  · rw [hmem]
    simp [hj]
  · rw [hmem, State.seat_eq h.after]
    constructor
    · rintro (⟨rfl, -⟩ | hk)
      · exact ⟨y.state, rfl, hy⟩
      · exact absurd hk (hfree d)
    · rintro ⟨st, hst, -⟩
      obtain ⟨rfl, -⟩ : y.desk = d ∧ y.state = st := by simpa using hst
      exact Or.inl ⟨rfl, rfl⟩
  · rw [State.seat_eq h.after] at hk
    obtain ⟨rfl, -⟩ : y.desk = d ∧ y.state = st := by simpa using hk
    exact hdesk

/-- The turned story leaves its desk's basket. -/
theorem Turn.seated_depart (h : Turn k s t x y) (hs : Seated s) (hy : ¬y.state.stored) (hdesk : y.desk = x.desk)
    (hheld : ∀ d, t.held d = if d = x.desk then (s.held d).filter (· != k) else s.held d) : Seated t := by
  have hother : ∀ d, d ≠ x.desk → k ∉ s.held d := fun d hd hk => by
    obtain ⟨st, hst, -⟩ := (hs.held d k).1 hk
    rw [State.seat_eq h.tie] at hst
    exact hd (congrArg Prod.fst (Option.some.inj hst)).symm
  have hgone : ∀ d, k ∉ t.held d := fun d => by
    rw [hheld]
    split
    · simp
    · next hd => exact hother d hd
  refine hs.turn (k := k) h.seat (fun d => ?_) (fun d j hj => ?_) (fun d => ?_) fun d st hk => ?_
  · rw [hheld]
    split
    · exact (hs.nodup d).sublist List.filter_sublist
    · exact hs.nodup d
  · rw [hheld]
    split <;> simp [hj]
  · refine ⟨fun hk => absurd hk (hgone d), ?_⟩
    rintro ⟨st, hst, hstored⟩
    rw [State.seat_eq h.after] at hst
    obtain ⟨-, rfl⟩ : y.desk = d ∧ y.state = st := by simpa using hst
    exact absurd hstored hy
  · rw [State.seat_eq h.after, hdesk] at hk
    obtain ⟨rfl, -⟩ : x.desk = d ∧ y.state = st := by simpa using hk
    exact hs.desk k x.desk x.state (State.seat_eq h.tie)

/-- The viewers of a turned story within their limit. -/
theorem Turn.viewers (h : Turn k s t x y) (hs : RoomWide s) (hy : x.viewers.length ≤ 8 → y.viewers.length ≤ 8) (j : Nat) (z : Story)
    (hz : t.story j = some z) : z.viewers.length ≤ 8 := by
  by_cases hj : j = k
  · subst hj
    have heq : y.tie = z.tie := Option.some.inj (h.after.symm.trans (State.tie_eq hz))
    rw [← Story.viewers_of_tie heq]
    exact hy (hs.viewers j x h.before)
  · obtain ⟨w, hw, heq⟩ := State.tie_eq_some hz (h.others j hj)
    rw [← Story.viewers_of_tie heq]
    exact hs.viewers j w hw

/-- What moves stories alone keeps the limits where each part of the room agrees again. -/
theorem Apart.keeps (h : Apart s t) (hwide : RoomWide s → RoomWide t) (hbears : RoomHolds s → Bears A s t)
    (hseated : RoomHolds s → Seated t) (hshown : RoomHolds s → Shown t)
    (hring : RoomHolds s → ∀ n d m, m ∈ (t.screen n).ring → m ∈ s.held d ∨ A d m → m ∈ t.held d) : Keeps s t where
  room := ⟨hwide, fun hs => (hbears hs).sizes.holds hs (hseated hs) (hshown hs), fun hs hl => (hbears hs).lists hl (hring hs)⟩
  fit := h.fit.keeps
  out := h.out.keeps

end

end Sys2Proof.Machine
end

section
/-! SUPPORT. A story opened, spiked or filed keeps the limits invariants, with what the screen that asks for it becomes (R22 to R31, R33,
R57). -/

namespace Sys2Proof.Machine

section
variable {A : Nat → Nat → Prop} {s t u : State} {n k d : Nat} {x y : Story} {cause : Option Nat}

/-! ## Changes around a turn -/

/-- No record's ties change, and the fits and the output are as they were. -/
structure Still (s t : State) : Prop where
  apart : Apart s t
  tie : ∀ j, t.tie j = s.tie j

theorem Still.refl (s : State) : Still s s := ⟨.refl s, fun _ => rfl⟩

theorem Still.trans (h : Still s t) (h' : Still t u) : Still s u := ⟨h.apart.trans h'.apart, fun j => (h'.tie j).trans (h.tie j)⟩

theorem Calm.still (h : Calm s t) : Still s t := ⟨h.apart, h.room.tie⟩

theorem Still.updScreen (n : Nat) (f : Screen → Screen) : Still s (s.updScreen n f) := ⟨.of_tables rfl, fun _ => rfl⟩

theorem Still.enterBasket (cause : Option Nat) : Still s (s.enterBasket k cause) :=
  ⟨.enterBasket cause, fun j => by rw [State.tie, State.tie, State.story_enterBasket]⟩

theorem Still.leaveBasket (k : Nat) : Still s (s.leaveBasket k) :=
  ⟨.leaveBasket k, fun j => by rw [State.tie, State.tie, State.story_leaveBasket]⟩

theorem Turn.still (h : Turn k s t x y) (h' : Still t u) : Turn k s u x y :=
  ⟨h.apart.trans h'.apart, h.before, (h'.tie k).trans h.after, fun j hj => (h'.tie j).trans (h.others j hj)⟩

theorem Still.turn (h : Still s t) (hx : s.story k = some x) (h' : Turn k t u x y) : Turn k s u x y :=
  ⟨h.apart.trans h'.apart, hx, h'.after, fun j hj => (h'.others j hj).trans (h.tie j)⟩

/-- A record changed, but for what its fit stands on. -/
theorem Turn.updStory {f : Story → Story} (hx : s.story k = some x)
    (hf : ∀ x, ((f x).version, (f x).style, (f x).head, (f x).fit) = (x.version, x.style, x.head, x.fit)) :
    Turn k s (s.updStory k f) x (f x) := by
  refine ⟨.updStory hf, hx, State.tie_eq (by rw [State.story_updStory, hx]; rfl), fun j hj => ?_⟩
  rw [State.tie, State.story_updStory_of_ne _ _ _ _ hj, State.tie]

theorem Stirs.updStory (f : Story → Story) : Stirs A s (s.updStory k f) :=
  ⟨{ SameSizes.refl s with stories := List.length_modify .. }, fun _ => .refl _ _, fun _ => .refl _⟩

theorem StoryState.stored_iff {st : StoryState} : st.stored ↔ st = .queued ∨ st = .setting := Iff.rfl

theorem StoryState.not_stored_open : ¬StoryState.stored .open_ := by rw [StoryState.stored_iff]; decide

theorem StoryState.not_stored_spiked : ¬StoryState.stored .spiked := by rw [StoryState.stored_iff]; decide

theorem StoryState.not_stored_set : ¬StoryState.stored .set_ := by rw [StoryState.stored_iff]; decide

/-! ## Screens that enter a story, or their desk -/

theorem State.place_updScreen {f : Screen → Screen} (hn : n < s.screens.length) :
    ((s.updScreen n f).screen n).place = (f (s.screen n)).place := by rw [State.screen_updScreen _ _ _ hn]

/-- The state of a screen that holds a story in a role. -/
def Role.mode : Role → Mode
  | .owner => .edit
  | .viewer => .view

theorem Screen.signedOn_of_role {c : Screen} {r : Role} (h : c.mode = r.mode) : c.signedOn = true := by
  rw [Screen.signedOn, h]
  cases r <;> rfl

theorem State.enterStory_eq (n k : Nat) (r : Role) : s.enterStory n k r = s.updScreen n fun c =>
    { c.dropStory with mode := r.mode, story := some (k, r), selection := none, basketTop := 0 } := by
  cases r <;> rfl

theorem State.place_enterStory (hn : n < s.screens.length) (r : Role) : ((s.enterStory n k r).screen n).place =
    (r.mode, (s.screen n).desk, some (k, r), (s.screen n).grace.isSome, (s.screen n).prompt) := by
  rw [State.enterStory_eq, State.place_updScreen hn]
  rfl

theorem ActsAt.enterStory (r : Role) : ActsAt A n s (s.enterStory n k r) := by
  rw [State.enterStory_eq]
  exact .updScreen (.of_place id id id rfl fun _ _ => ⟨Screen.signedOn_of_role (r := r) rfl, rfl⟩)

theorem Still.enterStory (r : Role) : Still s (s.enterStory n k r) := .updScreen ..

theorem State.place_backToDesk (hn : n < s.screens.length) (hd : (s.screen n).desk = some d) :
    ((s.backToDesk n).screen n).place = (.desk, some d, none, (s.screen n).grace.isSome, (s.screen n).prompt) := by
  rw [State.backToDesk, hd]
  exact State.place_updScreen hn

theorem ActsAt.backToDesk : ActsAt A n s (s.backToDesk n) := by
  unfold State.backToDesk
  split
  · next e he => exact .updScreen (.of_place id id id rfl fun _ _ => ⟨rfl, he.symm⟩)
  · exact (Stirs.refl A s).acts n

theorem Still.backToDesk : Still s (s.backToDesk n) := by
  unfold State.backToDesk
  split
  · exact .updScreen ..
  · exact .refl s

/-! ## A story withdrawn from its basket (R27, R33, R54) -/

/-- The stories a basket holds, and the ring lists, without a QUEUED story that leaves. -/
structure Withdrawal (k : Nat) (s t : State) (x y : Story) : Prop extends Turn k s t x y where
  held : ∀ d, t.held d = if x.state = .queued ∧ d = x.desk then (s.held d).filter (· != k) else s.held d
  unrung : x.state = .queued → ∀ n, k ∉ (t.screen n).ring

theorem Withdrawal.withdrawn {f : Story → Story} (hx : s.story k = some x)
    (hf : ∀ x, ((f x).version, (f x).style, (f x).head, (f x).fit) = (x.version, x.style, x.head, x.fit)) :
    Withdrawal k s ((s.withdrawn k x).updStory k f) x (f x) := by
  have hstill : Still s (s.withdrawn k x) := by
    unfold State.withdrawn
    split
    · exact .leaveBasket k
    · exact .refl s
  refine ⟨hstill.turn hx (.updStory ((State.story_withdrawn k).trans hx) hf), fun d => ?_, fun hq m => ?_⟩
  · rw [State.held_of_baskets (s := s.withdrawn k x) (State.updStory_baskets ..)]
    unfold State.withdrawn
    split
    · next hq => simpa [hq] using State.held_leaveBasket hx d
    · next hq => rw [if_neg fun h => hq h.1]
  · have hleft : (s.withdrawn k x) = s.leaveBasket k := if_pos hq
    rw [hleft]
    exact State.not_mem_ring_leaveBasket hx m

theorem Stirs.withdrawn : Stirs NoArrival s (s.withdrawn k x) := by
  unfold State.withdrawn
  split
  · exact .leaveBasket k
  · exact .refl _ s

/-- A change that leaves the baskets and brings no story to a ring list. -/
theorem Withdrawal.still (h : Withdrawal k s t x y) (hstill : Still t u) (hbaskets : u.baskets = t.baskets)
    (hring : ∀ n, ∀ m ∈ (u.screen n).ring, m ∈ (t.screen n).ring) : Withdrawal k s u x y :=
  ⟨h.toTurn.still hstill, fun d => (State.held_of_baskets hbaskets d).trans (h.held d), fun hq n hk =>
    h.unrung hq n (hring n k hk)⟩

theorem Calm.ring_subset (h : Calm s t) (n : Nat) : ∀ m ∈ (t.screen n).ring, m ∈ (s.screen n).ring := fun m hm =>
  ((h.room.stirs.screen n).ring m hm).resolve_right fun ⟨_, _, _, hno⟩ => hno

theorem Withdrawal.calm (h : Withdrawal k s t x y) (hcalm : Calm t u) (hbaskets : u.baskets = t.baskets) : Withdrawal k s u x y :=
  h.still hcalm.still hbaskets hcalm.ring_subset

theorem Withdrawal.touched (h : Withdrawal k s t x y) : Withdrawal k s (t.touchStory k) x y :=
  h.calm (.touchStory k) (congrArg State.baskets (State.touchStory_only t k) :)

theorem State.ring_updScreen {f : Screen → Screen} (hf : ∀ c, (f c).ring = c.ring) (n m : Nat) :
    ((s.updScreen n f).screen m).ring = (s.screen m).ring := by
  rw [State.screen_updScreen_eq]
  split
  · exact hf _
  · rfl

theorem Withdrawal.updScreen {f : Screen → Screen} (h : Withdrawal k s t x y) (hf : ∀ c, (f c).ring = c.ring) (n : Nat) :
    Withdrawal k s (t.updScreen n f) x y :=
  h.still (.updScreen n f) rfl fun m j hj => by rwa [State.ring_updScreen hf] at hj

theorem Withdrawal.backToDesk (h : Withdrawal k s t x y) (n : Nat) : Withdrawal k s (t.backToDesk n) x y := by
  unfold State.backToDesk
  split
  · exact h.updScreen (f := fun c => { c.dropStory with
      mode := .desk, desk := some _, basketTop := 0, selection := (t.basketView _).head?.map fun x => (x, 0) }) (fun _ => rfl) n
  · exact h

/-- A withdrawal keeps the limits where the screens agree with the new record. -/
theorem Withdrawal.keeps (h : Withdrawal k s t x y) (hwide : Bears NoArrival s t ∨ (RoomWide s → RoomWide t))
    (hbears : RoomHolds s → Bears NoArrival s t) (hx : x.state = .queued ∨ ¬x.state.stored) (hy : ¬y.state.stored)
    (hdesk : y.desk = x.desk) (hviewers : y.viewers = x.viewers) (hshown : RoomHolds s → Shown t) : Keeps s t := by
  have hlength : ∀ d, (t.held d).length ≤ (s.held d).length := fun d => by
    rw [h.held]
    split
    · exact List.length_filter_le ..
    · exact le_rfl
  have hwide' : RoomWide s → RoomWide t := fun hs => by
    rcases hwide with hbears | hwide
    · exact hbears.wide hs (fun d => (hlength d).trans (hs.held d)) (h.viewers hs fun hv => hviewers ▸ hv)
    · exact hwide hs
  refine h.apart.keeps hwide' hbears (fun hs => ?_) hshown fun hs m d j hring hj => ?_
  · by_cases hq : x.state = .queued
    · exact h.seated_depart hs.seated hy hdesk fun d => by simpa [hq] using h.held d
    · have hstored := hx.resolve_left hq
      refine h.seated_stay hs.seated hdesk (iff_of_false hy hstored) fun d => ?_
      rw [h.held, if_neg fun hc => hq hc.1]
  · have hj' := hj.resolve_right id
    rw [h.held]
    split
    · next hc =>
      have hjk : j ≠ k := fun hjk => h.unrung hc.1 m (hjk ▸ hring)
      simpa [hjk] using hj'
    · exact hj'

/-! ## OPEN (R27) -/

theorem Withdrawal.toOpen (hx : s.story k = some x) : Withdrawal k s (s.toOpen k n) x (x.openedAt n) := by
  rw [State.toOpen_eq hx]
  exact ((Withdrawal.withdrawn (f := Story.openedAt n) hx fun _ => rfl).calm (.reportDesk _) rfl).touched

theorem Stirs.toOpen (hx : s.story k = some x) : Stirs NoArrival s (s.toOpen k n) := by
  rw [State.toOpen_eq hx]
  exact (Stirs.withdrawn.trans (.updStory _)).trans ((Calm.reportDesk _).trans (.touchStory k)).room.stirs

theorem Keeps.openAt (hat : RoomHolds s → (s.screen n).mode = .desk ∧ (s.screen n).prompt = .closed) : Keeps s (s.openAt n k) := by
  unfold State.openAt
  split
  · exact (Calm.deny n _).keeps
  · next x hx =>
    split
    · next hopen =>
      obtain ⟨hdesk, hstate⟩ : (s.screen n).desk = some x.desk ∧ (x.state = .queued ∨ x.state = .open_ ∧ x.owner = none) := by
        simpa [Story.openableAt, Option.isNone_iff_eq_none] using hopen
      have hn := State.lt_of_desk hdesk
      have hacts : ActsAt NoArrival n s ((s.toOpen k n).enterStory n k .owner) := ((Stirs.toOpen hx).acts n).trans (.enterStory _)
      have hn' : n < (s.toOpen k n).screens.length := by rwa [(Stirs.toOpen hx).sizes.screens]
      have hturn : Withdrawal k s ((s.toOpen k n).enterStory n k .owner) x (x.openedAt n) := by
        exact (Withdrawal.toOpen hx).still (.enterStory _) rfl fun m j hj => by rwa [State.ring_enterStory] at hj
      refine hturn.keeps (Or.inl hacts.bears) (fun _ => hacts.bears) (hstate.imp id fun h => ?_) StoryState.not_stored_open rfl rfl
        fun hs => ?_
      · rw [h.1]
        exact StoryState.not_stored_open
      · obtain ⟨hmode, hprompt⟩ := hat hs
        obtain ⟨e, he⟩ := (Screen.holds_iff.1 (hs.shown.holds n)).place_of_desk hmode
        rw [hprompt] at he
        have hplace := State.place_enterStory (k := k) hn' .owner
        have hplaced : ((s.toOpen k n).screen n).place = (.desk, some e, none, false, .closed) :=
          (Screen.place_of_task (State.task_toOpen hx n)).trans he
        obtain ⟨-, hdesk', -, hgrace', hprompt'⟩ := Screen.place_iff.1 hplaced
        obtain ⟨-, -, hstory, -, -⟩ := Screen.place_iff.1 he
        rw [hdesk', hgrace', hprompt'] at hplace
        obtain ⟨hedit, -, hshows, -, -⟩ := Screen.place_iff.1 hplace
        have howner : x.owner = none := by
          rcases hstate with hq | hopen
          · exact hs.shown.owner_of_not_open hx (by rw [hq]; decide)
          · exact hopen.2
        exact hturn.shown_own hs.shown hacts.toActsOn hstory hshows howner rfl rfl rfl (Screen.holds_of_edit hplace rfl)
          (hs.shown.line_of_up hacts (by rw [hmode]; decide) (by rw [hedit]; decide))
    · exact (Calm.deny n _).keeps

end

end Sys2Proof.Machine
end

section
/-! SUPPORT. A story spiked, filed, sent, revised, orphaned and moved keeps the limits invariants (R28, R29, R31, R33, R41, R43). -/

namespace Sys2Proof.Machine

section
variable {A : Nat → Nat → Prop} {s t u : State} {n k d : Nat} {x y z : Story} {cause : Option Nat}

/-! ## A spike (R33) -/

theorem Withdrawal.toSpiked (hx : s.story k = some x) : Withdrawal k s (s.toSpiked k) x x.asSpiked := by
  rw [State.toSpiked_eq hx]
  exact ((Withdrawal.withdrawn (f := Story.asSpiked) hx fun _ => rfl).calm (.reportDesk _) rfl).touched

theorem Stirs.toSpiked (hx : s.story k = some x) : Stirs NoArrival s (s.toSpiked k) := by
  rw [State.toSpiked_eq hx]
  exact (Stirs.withdrawn.trans (.updStory _)).trans ((Calm.reportDesk _).trans (.touchStory k)).room.stirs

theorem State.spikable_iff (h : s.spikable x = true) : x.state = .queued ∨ x.state = .open_ := by
  simp only [State.spikable, Bool.and_eq_true, Bool.or_eq_true, beq_iff_eq] at h
  exact h.1.symm

theorem StoryState.queued_or_not_stored (h : x.state = .queued ∨ x.state = .open_) : x.state = .queued ∨ ¬x.state.stored :=
  h.imp id fun h => by
    rw [h]
    exact StoryState.not_stored_open

/-- Screen n is in EDIT of story k, with no prompt open. -/
def State.edits (s : State) (n k : Nat) : Prop :=
  (s.screen n).mode = .edit ∧ (s.screen n).prompt = .closed ∧ (s.screen n).story = some (k, .owner)

/-- Where a screen in EDIT of a story stands after it is sent back to its desk. -/
theorem Shown.backToDesk (hs : Shown s) (hat : s.edits n k) (htask : ∀ m, (t.screen m).task = (s.screen m).task)
    (hacts : ActsAt A n s (t.backToDesk n)) : ((t.backToDesk n).screen n).story = none ∧ ((t.backToDesk n).screen n).holds ∧
      ((t.backToDesk n).line n).holds ((t.backToDesk n).screen n) := by
  obtain ⟨hmode, hprompt, hstory⟩ := hat
  obtain ⟨e, j, he⟩ := (Screen.holds_iff.1 (hs.holds n)).place_of_edit hmode
  rw [hprompt] at he
  have hplaced := (Screen.place_of_task (htask n)).trans he
  obtain ⟨-, hdesk, -, hgrace, hprompt'⟩ := Screen.place_iff.1 hplaced
  have hplace := State.place_backToDesk (State.lt_of_desk hdesk) hdesk
  rw [hgrace, hprompt'] at hplace
  obtain ⟨hdeskMode, -, hshows, -, -⟩ := Screen.place_iff.1 hplace
  exact ⟨hshows, Screen.holds_of_desk hplace rfl, hs.line_of_up hacts (by rw [hmode]; decide) (by rw [hdeskMode]; decide)⟩

theorem Keeps.spikeAt (hat : RoomHolds s → s.edits n k) : Keeps s (s.spikeAt n k) := by
  unfold State.spikeAt
  split
  · exact .refl s
  · next x hx =>
    split
    · next hspikable =>
      have hacts : ActsAt NoArrival n s ((s.toSpiked k).backToDesk n) := ((Stirs.toSpiked hx).acts n).trans .backToDesk
      have hturn := (Withdrawal.toSpiked hx).backToDesk n
      refine hturn.keeps (Or.inl hacts.bears) (fun _ => hacts.bears) (StoryState.queued_or_not_stored (State.spikable_iff hspikable))
        StoryState.not_stored_spiked rfl rfl fun hs => ?_
      obtain ⟨hshows, hholds, hline⟩ := hs.shown.backToDesk (hat hs) (State.task_toSpiked hx) hacts
      exact hturn.shown_disown hs.shown hacts.toActsOn (hat hs).2.2 hshows rfl rfl hholds hline
    · exact (Calm.deny n _).keeps

/-! ## Arrivals (R22, R53) -/

theorem Turn.trans (h : Turn k s t x y) (h' : Turn k t u y z) : Turn k s u x z :=
  ⟨h.apart.trans h'.apart, h.before, h'.after, fun j hj => (h'.others j hj).trans (h.others j hj)⟩

/-- The turned story stands in its new desk's basket once more. -/
structure Arriving (k : Nat) (s t : State) (x y : Story) : Prop extends Turn k s t x y where
  held : ∀ d, (t.held d).Perm (if d = y.desk ∧ y.desk < s.baskets.length then k :: s.held d else s.held d)

theorem Arriving.still (h : Arriving k s t x y) (hstill : Still t u) (hbaskets : u.baskets = t.baskets) : Arriving k s u x y :=
  ⟨h.toTurn.still hstill, fun d => by
    rw [State.held_of_baskets hbaskets]
    exact h.held d⟩

theorem Arriving.backToDesk (h : Arriving k s t x y) (n : Nat) : Arriving k s (t.backToDesk n) x y :=
  h.still .backToDesk (by rw [State.backToDesk_only])

theorem Turn.arriving (h : Turn k s t x y) (hbaskets : t.baskets = s.baskets) (h' : Arriving k t u y z) : Arriving k s u x z :=
  ⟨h.trans h'.toTurn, fun d => by
    rw [← State.held_of_baskets hbaskets, ← hbaskets]
    exact h'.held d⟩

theorem Arriving.enterBasket (hx : s.story k = some x) (cause : Option Nat) : Arriving k s (s.enterBasket k cause) x x :=
  ⟨⟨.enterBasket cause, hx, ((Still.enterBasket cause).tie k).trans (State.tie_eq hx), fun j _ => (Still.enterBasket cause).tie j⟩,
    State.held_enterBasket hx cause⟩

theorem State.toQueued_eq (k : Nat) (cause : Option Nat) :
    s.toQueued k cause = ((s.updStory k Story.asQueued).enterBasket k cause).touchStory k := rfl

theorem State.story_asQueued (hx : s.story k = some x) : (s.updStory k Story.asQueued).story k = some x.asQueued := by
  rw [State.story_updStory, hx]
  rfl

theorem Arriving.toQueued (hx : s.story k = some x) (cause : Option Nat) : Arriving k s (s.toQueued k cause) x x.asQueued := by
  rw [State.toQueued_eq]
  refine Turn.arriving (Turn.updStory (f := Story.asQueued) hx fun _ => rfl) rfl
    ((Arriving.enterBasket (State.story_asQueued hx) cause).still (Calm.touchStory k).still ?_)
  exact (congrArg State.baskets (State.touchStory_only _ k) :)

theorem Stirs.toQueued (hx : s.story k = some x) (cause : Option Nat) : Stirs (Arrival x.desk k) s (s.toQueued k cause) := by
  rw [State.toQueued_eq]
  exact ((Stirs.updStory _).trans (.enterBasket (State.story_asQueued hx) cause)).trans
    (Calm.touchStory k).room.stirs.of_noArrival

theorem State.task_toQueued (hx : s.story k = some x) (cause : Option Nat) (m : Nat) :
    ((s.toQueued k cause).screen m).task = (s.screen m).task := (State.arrives_toQueued hx).task m

theorem State.roomAt_held (h : s.roomAt d = true) : (s.held d).length < 64 := by
  rw [State.held, List.length_map]
  exact State.roomAt_eq_true.1 h

/-- An arrival where there is room keeps the limits, where the screens agree with the new record. -/
theorem Arriving.keeps (h : Arriving k s t x y) (hwide : Bears (Arrival y.desk k) s t ∨ (RoomWide s → RoomWide t))
    (hbears : RoomHolds s → Bears (Arrival y.desk k) s t) (hroom : (s.held y.desk).length < 64)
    (hx : RoomHolds s → ¬x.state.stored) (hy : y.state.stored) (hdesk : RoomHolds s → y.desk < 16) (hviewers : y.viewers = x.viewers)
    (hshown : RoomHolds s → Shown t) : Keeps s t := by
  have hwide' : RoomWide s → RoomWide t := fun hs => by
    rcases hwide with hbears | hwide
    · refine hbears.wide hs (fun d => ?_) (h.viewers hs fun hv => hviewers ▸ hv)
      rw [(h.held d).length_eq]
      split
      · next hd => exact hd.1 ▸ hroom
      · exact hs.held d
    · exact hwide hs
  have hheld : RoomHolds s → ∀ d, (t.held d).Perm (if d = y.desk then k :: s.held d else s.held d) := fun hs d => by
    have hlt : y.desk < s.baskets.length := by
      rw [hs.baskets]
      exact hdesk hs
    simpa [hlt] using h.held d
  refine h.apart.keeps hwide' hbears (fun hs => h.seated_arrive hs.seated (hx hs) hy (hdesk hs) (hheld hs)) hshown
    fun hs m d j _ hj => ?_
  rw [(hheld hs d).mem_iff]
  rcases hj with hj | ⟨rfl, rfl⟩
  · split
    · exact List.mem_cons_of_mem _ hj
    · exact hj
  · rw [if_pos rfl]
    exact List.mem_cons_self

theorem StoryState.stored_queued : StoryState.stored .queued := Or.inl rfl

theorem RoomHolds.desk_lt (h : RoomHolds s) (hx : s.story k = some x) : x.desk < 16 :=
  h.seated.desk k x.desk x.state (State.seat_eq (State.tie_eq hx))

/-- The state of a story that a screen edits. -/
theorem Shown.open_of_edits (hs : Shown s) (hat : s.edits n k) (hx : s.story k = some x) : x.state = .open_ := by
  have ho := (hs.owner_iff (State.tie_eq hx) n).2 hat.2.2
  exact hs.owned k x hx (by rw [ho]; rfl)

/-- A story that its owner's screen queues at a desk, and leaves. -/
theorem Keeps.sentBack {g : Story → Story} (hat : RoomHolds s → s.edits n k) (hx : s.story k = some x)
    (hg : ∀ x, ((g x).version, (g x).style, (g x).head, (g x).fit) = (x.version, x.style, x.head, x.fit))
    (hviewers : (g x).viewers = x.viewers) (hroom : s.roomAt (g x).desk = true) (hdesk : RoomHolds s → (g x).desk < 16) :
    Keeps s (((s.updStory k g).toQueued k (some n)).backToDesk n) := by
  have hgx : (s.updStory k g).story k = some (g x) := by
    rw [State.story_updStory, hx]
    rfl
  have harriving : Arriving k s (((s.updStory k g).toQueued k (some n)).backToDesk n) x (g x).asQueued :=
    Turn.arriving (Turn.updStory hx hg) rfl ((Arriving.toQueued hgx _).backToDesk n)
  have hacts : ActsAt (Arrival (g x).desk k) n s (((s.updStory k g).toQueued k (some n)).backToDesk n) :=
    (((Stirs.updStory g).trans (.toQueued hgx _)).acts n).trans .backToDesk
  refine harriving.keeps (Or.inl hacts.bears) (fun _ => hacts.bears) (State.roomAt_held hroom) (fun hs => ?_) StoryState.stored_queued
    hdesk hviewers fun hs => ?_
  · rw [hs.shown.open_of_edits (hat hs) hx]
    exact StoryState.not_stored_open
  · obtain ⟨hshows, hholds, hline⟩ := hs.shown.backToDesk (hat hs)
      (fun m => (State.task_toQueued (s := s.updStory k g) hgx (some n) m)) hacts
    exact harriving.shown_disown hs.shown hacts.toActsOn (hat hs).2.2 hshows rfl hviewers hholds hline

theorem State.updStory_id : s.updStory k id = s := by simp [State.updStory]

theorem Keeps.fileAt (hat : RoomHolds s → s.edits n k) : Keeps s (s.fileAt n k) := by
  unfold State.fileAt
  split
  · exact .refl s
  · next x hx =>
    split
    · next hroom =>
      have h := Keeps.sentBack (g := id) hat hx (fun _ => rfl) rfl hroom fun hs => hs.desk_lt hx
      rwa [State.updStory_id] at h
    · exact (Calm.deny n _).keeps

theorem State.sendTo_eq_ok {buffer : List Byte} (h : s.sendTo x buffer = .ok d) : (s.desk d).isSome = true ∧ s.roomAt d = true := by
  unfold State.sendTo at h
  dsimp only at h
  split at h
  · cases h
  · split_ifs at h with h1 h2 h3
    cases h
    exact ⟨by simpa [Option.isSome_iff_ne_none] using h2, by simpa using h3⟩

theorem RoomHolds.lt_of_desk (hs : RoomHolds s) (h : (s.desk d).isSome = true) : d < 16 := by
  by_contra hd
  have hnone : s.desk d = none := by
    rw [State.desk, List.getD_eq_getElem?_getD, List.getElem?_eq_none (by rw [hs.desks]; omega)]
    rfl
  rw [hnone] at h
  cases h

theorem Keeps.sendAt {buffer : List Byte} (hat : RoomHolds s → s.edits n k) : Keeps s (s.sendAt n k buffer) := by
  unfold State.sendAt
  split
  · exact .refl s
  · next x hx =>
    split
    · exact (Calm.deny n _).keeps
    · next d hd =>
      obtain ⟨hdesk, hroom⟩ := State.sendTo_eq_ok hd
      exact Keeps.sentBack (g := fun x => { x with desk := d }) hat hx (fun _ => rfl) rfl hroom fun hs => hs.lt_of_desk hdesk

/-! ## A story queued at no screen: revised, filed or orphaned (R31, R43) -/

theorem Keeps.toQueued (hx : s.story k = some x) (hroom : s.roomAt x.desk = true) (howner : RoomHolds s → x.owner = none)
    (hstored : RoomHolds s → ¬x.state.stored) : Keeps s (s.toQueued k cause) := by
  have hstirs := Stirs.toQueued hx cause
  have harriving := Arriving.toQueued hx cause
  exact harriving.keeps (Or.inl hstirs.bears) (fun _ => hstirs.bears) (State.roomAt_held hroom) hstored StoryState.stored_queued
    (fun hs => hs.desk_lt (x := x) hx) rfl fun hs => harriving.shown_still hs.shown hstirs (howner hs).symm rfl fun ho => by cases ho

theorem Keeps.revise (hx : s.story k = some x) (hstate : x.state = .set_) (hroom : s.roomAt x.desk = true) :
    Keeps s (s.revise k) := by
  have hqueued : Keeps s (s.toQueued k none) := Keeps.toQueued hx hroom
    (fun hs => hs.shown.owner_of_not_open hx (by rw [hstate]; decide)) fun _ => hstate ▸ StoryState.not_stored_set
  exact hqueued.trans (.versionChange fun hs => hs.lt (State.story_toQueued hx))

theorem Calm.priorityAt (p : Priority) : Calm s (s.priorityAt k p) :=
  (Calm.updStory (f := fun t => { t with priority := p }) (fun _ => rfl) fun _ => rfl).trans (.touchStory k)

/-! ## A move to another desk (R41) -/

theorem State.updStory_congr {f g : Story → Story} (hx : s.story k = some x) (h : f x = g x) : s.updStory k f = s.updStory k g := by
  have hmodify : s.stories.modify k (Option.map f) = s.stories.modify k (Option.map g) := modify_congr_getD (d := none) (by
    have hx' : s.stories.getD k none = some x := hx
    rw [hx', Option.map_some, Option.map_some, h])
  rw [State.updStory, hmodify, State.updStory]

/-- A record that is SPIKED, as the move of a story leaves it between its two baskets. -/
def Story.uprooted (x : Story) : Story := { x with state := .spiked }

/-- A record QUEUED at a desk. -/
def Story.queuedAt (d : Nat) (x : Story) : Story := { x with state := .queued, desk := d }

/-- A story taken out of its basket, before it arrives at another. -/
def State.uprooted (s : State) (k : Nat) (x : Story) : State := (s.withdrawn k x).updStory k Story.uprooted

theorem State.story_uprooted (hx : s.story k = some x) : (s.uprooted k x).story k = some x.uprooted := by
  rw [State.uprooted, State.story_updStory, State.story_withdrawn, hx]
  rfl

theorem Keeps.uprooted (hx : s.story k = some x) (hstate : x.state = .queued) : Keeps s (s.uprooted k x) := by
  have hturn : Withdrawal k s (s.uprooted k x) x x.uprooted := .withdrawn (f := Story.uprooted) hx fun _ => rfl
  have hstirs : Stirs NoArrival s (s.uprooted k x) := Stirs.withdrawn.trans (.updStory _)
  refine hturn.keeps (Or.inl hstirs.bears) (fun _ => hstirs.bears) (Or.inl hstate) StoryState.not_stored_spiked rfl rfl
    fun hs => hturn.shown_still hs.shown hstirs rfl rfl fun ho => ?_
  have hnone : x.owner = none := hs.shown.owner_of_not_open hx (by rw [hstate]; decide)
  have ho' : x.owner.isSome = true := ho
  rw [hnone] at ho'
  cases ho'

theorem State.moved_eq (hx : s.story k = some x) (hstate : x.state = .queued) :
    s.moved k d cause = (((s.uprooted k x).updStory k (Story.queuedAt d)).enterBasket k cause).touchStory k := by
  have hleft : s.withdrawn k x = s.leaveBasket k := if_pos hstate
  have hsame : (s.uprooted k x).updStory k (Story.queuedAt d) = (s.leaveBasket k).updStory k fun x => { x with desk := d } := by
    rw [State.uprooted, hleft, State.updStory_updStory]
    refine State.updStory_congr ((State.story_leaveBasket k k).trans hx) ?_
    simp [Story.queuedAt, Story.uprooted, ← hstate]
  rw [hsame, State.moved]

theorem Keeps.moved (hx : s.story k = some x) (hstate : x.state = .queued) (hne : d ≠ x.desk) (hroom : s.roomAt d = true)
    (hd : d < 16) : Keeps s (s.moved k d cause) := by
  have hup := Keeps.uprooted hx hstate
  have hx' := State.story_uprooted hx
  rw [State.moved_eq hx hstate]
  generalize hu : s.uprooted k x = u at hup hx' ⊢
  have hheld : u.held d = s.held d := by
    have hturn : Withdrawal k s (s.uprooted k x) x x.uprooted := .withdrawn (f := Story.uprooted) hx fun _ => rfl
    rw [← hu, hturn.held, if_neg fun h => hne h.2]
  have hput : (u.updStory k (Story.queuedAt d)).story k = some (x.uprooted.queuedAt d) := by
    rw [State.story_updStory, hx']
    rfl
  have harriving : Arriving k u (((u.updStory k (Story.queuedAt d)).enterBasket k cause).touchStory k) x.uprooted
      (x.uprooted.queuedAt d) :=
    Turn.arriving (Turn.updStory (f := Story.queuedAt d) hx' fun _ => rfl) rfl ((Arriving.enterBasket hput cause).still
      (Calm.touchStory k).still (congrArg State.baskets (State.touchStory_only _ k) :))
  have hstirs : Stirs (Arrival d k) u (((u.updStory k (Story.queuedAt d)).enterBasket k cause).touchStory k) :=
    ((Stirs.updStory _).trans (Stirs.enterBasket hput cause)).trans (Calm.touchStory k).room.stirs.of_noArrival
  refine hup.trans (harriving.keeps (Or.inl hstirs.bears) (fun _ => hstirs.bears) ?_
    (fun _ => StoryState.not_stored_spiked) StoryState.stored_queued (fun _ => hd) rfl fun hs =>
      harriving.shown_still hs.shown hstirs rfl rfl fun ho => ?_)
  · rw [show (x.uprooted.queuedAt d).desk = d from rfl, hheld]
    exact State.roomAt_held hroom
  · have hnone : x.uprooted.owner = none := hs.shown.owner_of_not_open hx' nofun
    have ho' : x.uprooted.owner.isSome = true := ho
    rw [hnone] at ho'
    cases ho'

theorem Keeps.moveStory {t : State} (h : s.moveStory k d cause = .ok t) (hd : d < 16) : Keeps s t := by
  unfold State.moveStory at h
  split at h
  · cases h
  · next x hx =>
    split_ifs at h with h1 h2 h3
    · cases h
      exact .refl s
    · cases h
      exact Keeps.moved hx (by simpa using h1) h2 (by simpa using h3) hd

end

end Sys2Proof.Machine
end

section
/-! SUPPORT. Screens that begin and stop viewing, sign off, create a story or take one keep the limits invariants (R24, R26, R32, R116,
R134). -/

namespace Sys2Proof.Machine

section
variable {A : Nat → Nat → Prop} {s t u : State} {n k d p : Nat} {x y z : Story}

/-! ## A viewer leaves (R24) -/

theorem State.stopViewing_of_not_viewer (h : ∀ k, (s.screen n).story ≠ some (k, .viewer)) : s.stopViewing n = s := by
  unfold State.stopViewing
  split
  · next k hk => exact absurd hk (h k)
  · rfl

/-- A record without a viewer. -/
def Story.unviewed (n : Nat) (x : Story) : Story := { x with viewers := eraseNum n x.viewers }

theorem State.stopViewing_cases (s : State) (n : Nat) :
    s.stopViewing n = s ∨ ∃ k, (s.screen n).story = some (k, .viewer) ∧ s.stopViewing n = s.updStory k (Story.unviewed n) := by
  by_cases h : ∃ k, (s.screen n).story = some (k, .viewer)
  · obtain ⟨k, hk⟩ := h
    exact Or.inr ⟨k, hk, State.stopViewing_of_viewer hk⟩
  · exact Or.inl (State.stopViewing_of_not_viewer fun k hk => h ⟨k, hk⟩)

theorem Stirs.stopViewing (n : Nat) : Stirs A s (s.stopViewing n) := by
  rcases s.stopViewing_cases n with h | ⟨k, -, h⟩ <;> rw [h]
  · exact .refl A s
  · exact .updStory _

theorem Apart.stopViewing (n : Nat) : Apart s (s.stopViewing n) := by
  rcases s.stopViewing_cases n with h | ⟨k, -, h⟩ <;> rw [h]
  · exact .refl s
  · exact .updStory (f := Story.unviewed n) fun _ => rfl

theorem State.seat_updStory {f : Story → Story} (hf : ∀ x, ((f x).desk, (f x).state) = (x.desk, x.state)) (j : Nat) :
    (s.updStory k f).seat j = s.seat j := by
  by_cases hj : j = k
  · subst hj
    rw [State.seat, State.seat, State.story_updStory, Option.map_map]
    exact Option.map_congr fun x _ => hf x
  · rw [State.seat, State.story_updStory_of_ne _ _ _ _ hj, State.seat]

theorem State.seat_stopViewing (n j : Nat) : (s.stopViewing n).seat j = s.seat j := by
  rcases s.stopViewing_cases n with h | ⟨k, -, h⟩ <;> rw [h]
  exact State.seat_updStory (f := Story.unviewed n) (fun _ => rfl) j

theorem State.baskets_stopViewing (n : Nat) : (s.stopViewing n).baskets = s.baskets := by rw [State.stopViewing_only]

/-- Every story has at most eight viewers. -/
def State.viewersFit (s : State) : Prop := ∀ k x, s.story k = some x → x.viewers.length ≤ 8

theorem State.viewersFit_of_tie (h : s.viewersFit) (htie : ∀ j, t.tie j = s.tie j) : t.viewersFit := fun j y hy => by
  obtain ⟨x, hx, heq⟩ := State.tie_eq_some hy (htie j)
  rw [← Story.viewers_of_tie heq]
  exact h j x hx

theorem State.viewersFit_updStory {f : Story → Story} (h : s.viewersFit)
    (hf : ∀ x, s.story k = some x → x.viewers.length ≤ 8 → (f x).viewers.length ≤ 8) : (s.updStory k f).viewersFit := fun j y hy => by
  by_cases hj : j = k
  · subst hj
    rw [State.story_updStory] at hy
    obtain ⟨x, hx, rfl⟩ := Option.map_eq_some_iff.1 hy
    exact hf x hx (h j x hx)
  · rw [State.story_updStory_of_ne _ _ _ _ hj] at hy
    exact h j y hy

theorem State.viewersFit_stopViewing (h : s.viewersFit) (n : Nat) : (s.stopViewing n).viewersFit := by
  rcases s.stopViewing_cases n with heq | ⟨k, -, heq⟩ <;> rw [heq]
  · exact h
  · exact State.viewersFit_updStory h fun x _ hx => (List.length_filter_le ..).trans hx

/-- Screen n, which owns no story, leaves the one that it views. -/
theorem Shown.leaves (hs : Shown s) (hapart : Apart s t) (hacts : ActsOn A n s t) (htie : ∀ j, t.tie j = (s.stopViewing n).tie j)
    (hnot : ∀ k, (s.screen n).story ≠ some (k, .owner)) (ha : (t.screen n).story = none) (hholds : (t.screen n).holds)
    (hline : (t.line n).holds (t.screen n)) : Shown t := by
  cases hstory : (s.screen n).story with
  | none =>
    rw [State.stopViewing_of_not_viewer fun k hk => absurd (hstory.symm.trans hk) nofun] at htie
    exact hs.act_same hacts htie (ha.trans hstory.symm) hholds hline
  | some q =>
    obtain ⟨k, r⟩ := q
    cases r with
    | owner => exact absurd hstory (hnot k)
    | viewer =>
      obtain ⟨x, hx, -⟩ := (hs.names n k .viewer).1 hstory
      rw [State.stopViewing_of_viewer hstory] at htie
      have hturn : Turn k s t x (x.unviewed n) := by
        refine ⟨hapart, hx, (htie k).trans (State.tie_eq (State.story_leaveViewers hx)), fun j hj => (htie j).trans ?_⟩
        rw [State.tie, State.story_leaveViewers_of_ne hj, State.tie]
      exact hturn.shown_unview hs hacts hstory ha rfl rfl rfl hholds hline

theorem Keeps.leaves (hstill : Still (s.stopViewing n) t) (hbaskets : t.baskets = s.baskets) (hacts : ActsOn NoArrival n s t)
    (hat : RoomHolds s → (∀ k, (s.screen n).story ≠ some (k, .owner)) ∧ (t.screen n).story = none ∧ (t.screen n).holds ∧
      (t.line n).holds (t.screen n)) : Keeps s t := by
  have hapart := (Apart.stopViewing n).trans hstill.apart
  have hheld := State.held_of_baskets hbaskets
  refine hapart.keeps (fun hs => hacts.bears.wide hs (fun d => ?_) ?_) (fun _ => hacts.bears) (fun hs => ?_) (fun hs => ?_)
    fun _ _ d j _ hj => ?_
  · rw [hheld]
    exact hs.held d
  · exact State.viewersFit_of_tie (State.viewersFit_stopViewing hs.viewers n) hstill.tie
  · refine hs.seated.of_same (fun j => (State.seat_of_tie (hstill.tie j)).trans (State.seat_stopViewing n j)) fun d => ?_
    rw [hheld]
  · obtain ⟨hnot, ha, hholds, hline⟩ := hat hs
    exact hs.shown.leaves hapart hacts hstill.tie hnot ha hholds hline
  · rw [hheld]
    exact hj.resolve_right id

theorem Screen.Agrees.not_owner {c : Screen} (h : c.Agrees) (hmode : c.mode = .desk ∨ c.mode = .view) (k : Nat) :
    c.story ≠ some (k, .owner) := fun hstory => by
  rcases hmode with hmode | hmode
  · exact absurd (hstory.symm.trans (h.desk hmode)) nofun
  · exact absurd (h.view hmode) (by simp [hstory])

theorem State.screens_stopViewing_screen (n m : Nat) : (s.stopViewing n).screen m = s.screen m := by
  rw [State.screen, State.screens_stopViewing, State.screen]

theorem State.lt_of_mode (h : (s.screen n).mode ≠ .down) : n < s.screens.length :=
  State.lt_of_screen_ne fun hreset => h (by rw [hreset]; rfl)

/-! ## CLOSE and sign-off (R116, R134) -/

theorem Keeps.closeView (hat : RoomHolds s → (s.screen n).mode = .view ∧ (s.screen n).prompt = .closed) :
    Keeps s (s.closeView n) := by
  have hacts : ActsAt NoArrival n s (s.closeView n) := ((Stirs.stopViewing n).acts n).trans .backToDesk
  refine Keeps.leaves .backToDesk ?_ hacts.toActsOn fun hs => ?_
  · rw [State.closeView, State.backToDesk_only]
    exact State.baskets_stopViewing n
  · obtain ⟨hmode, hprompt⟩ := hat hs
    have hagrees := Screen.holds_iff.1 (hs.shown.holds n)
    obtain ⟨e, k, he⟩ := hagrees.place_of_view hmode
    rw [hprompt] at he
    have hplaced : ((s.stopViewing n).screen n).place = (.view, some e, some (k, .viewer), false, .closed) := by
      rw [State.screens_stopViewing_screen]
      exact he
    obtain ⟨-, hdesk, -, hgrace, hprompt'⟩ := Screen.place_iff.1 hplaced
    have hplace := State.place_backToDesk (State.lt_of_desk hdesk) hdesk
    rw [hgrace, hprompt'] at hplace
    obtain ⟨hdeskMode, -, hshows, -, -⟩ := Screen.place_iff.1 hplace
    exact ⟨hagrees.not_owner (Or.inr hmode), hshows, Screen.holds_of_desk hplace rfl,
      hs.shown.line_of_up hacts (by rw [hmode]; decide) (by rw [State.closeView, hdeskMode]; decide)⟩

/-- A screen signed off. -/
def Screen.signedOut (time : Nat) (c : Screen) : Screen :=
  { (c.dropStory.breakOff.emptyRing) with
    mode := .signedOff, desk := none, selection := none, basketTop := 0, newMark := false
    partMessage := none, bells := 0, layoutTime := time }

theorem Keeps.signOff (hat : RoomHolds s → (s.screen n).mode = .desk ∨ (s.screen n).mode = .view) : Keeps s (s.signOff n) := by
  have heq : s.signOff n = (s.stopViewing n).updScreen n (Screen.signedOut s.clock.time) := by
    rw [State.signOff, State.stopViewing_only]
    rfl
  have hacts : ActsAt NoArrival n s (s.signOff n) := by
    rw [heq]
    exact ((Stirs.stopViewing n).acts n).trans (.updScreen (.of_empty (fun _ => Nat.zero_le _) (fun _ => Nat.zero_le _)
      (fun _ => Nat.zero_le _) rfl))
  refine Keeps.leaves (by rw [heq]; exact .updScreen ..) (by rw [heq]; exact State.baskets_stopViewing n) hacts.toActsOn fun hs => ?_
  have hmode : (s.screen n).mode ≠ .down := by rcases hat hs with h | h <;> rw [h] <;> decide
  have hin : n < (s.stopViewing n).screens.length := by
    rw [State.screens_stopViewing]
    exact State.lt_of_mode hmode
  have hagrees := Screen.holds_iff.1 (hs.shown.holds n)
  have hgrace : (s.screen n).grace.isSome = false := by
    by_contra hg
    rcases (hagrees.grace (eq_true_of_ne_false hg)).1 with h | h <;> rcases hat hs with h' | h' <;> rw [h] at h' <;> cases h'
  have hplace : ((s.signOff n).screen n).place = (.signedOff, none, none, false, .closed) := by
    rw [heq, State.place_updScreen hin, State.screens_stopViewing_screen, ← hgrace]
    rfl
  obtain ⟨hoff, -, hshows, -, -⟩ := Screen.place_iff.1 hplace
  exact ⟨hagrees.not_owner (hat hs), hshows, Screen.holds_of_away hplace (Or.inr rfl) rfl,
    hs.shown.line_of_up hacts hmode (by rw [hoff]; decide)⟩

/-! ## VIEW (R24) -/

theorem length_insertNum_le (n : Nat) (l : List Nat) : (insertNum n l).length ≤ l.length + 1 := by
  unfold insertNum
  split
  · omega
  · have hsplit := congrArg List.length (List.takeWhile_append_dropWhile (p := (· < n)) (l := l))
    simp only [List.length_append, List.length_cons] at hsplit ⊢
    omega

/-- A record with a viewer. -/
def Story.viewedAt (n : Nat) (x : Story) : Story := { x with viewers := insertNum n x.viewers }

theorem Keeps.viewAt (hat : RoomHolds s → (s.screen n).mode = .desk ∧ (s.screen n).prompt = .closed) : Keeps s (s.viewAt n k) := by
  unfold State.viewAt
  split
  · exact (Calm.deny n _).keeps
  · next x hx =>
    split
    · exact (Calm.deny n _).keeps
    · next hroom =>
      have hlt : x.viewers.length < 8 := by simpa [Config.maxViewers] using hroom
      have hturn : Turn k s ((s.updStory k (Story.viewedAt n)).enterStory n k .viewer) x (x.viewedAt n) :=
        (Turn.updStory (f := Story.viewedAt n) hx fun _ => rfl).still (.enterStory _)
      have hacts : ActsAt NoArrival n s ((s.updStory k (Story.viewedAt n)).enterStory n k .viewer) :=
        ((Stirs.updStory _).acts n).trans (.enterStory _)
      refine hturn.apart.keeps (fun hs => hacts.bears.wide hs hs.held (hturn.viewers hs fun _ => ?_)) (fun _ => hacts.bears)
        (fun hs => hturn.seated_stay hs.seated rfl Iff.rfl fun _ => .refl _) (fun hs => ?_) fun _ _ _ _ _ hj => hj.resolve_right id
      · exact (length_insertNum_le n _).trans hlt
      · obtain ⟨hmode, hprompt⟩ := hat hs
        obtain ⟨e, he⟩ := (Screen.holds_iff.1 (hs.shown.holds n)).place_of_desk hmode
        rw [hprompt] at he
        obtain ⟨-, hdesk, hstory, hgrace, -⟩ := Screen.place_iff.1 he
        have hplace := State.place_enterStory (s := s.updStory k (Story.viewedAt n)) (k := k) (State.lt_of_desk hdesk) .viewer
        have hsame : (s.updStory k (Story.viewedAt n)).screen n = s.screen n := rfl
        rw [hsame, hdesk, hgrace, hprompt] at hplace
        obtain ⟨hview, -, hshows, -, -⟩ := Screen.place_iff.1 hplace
        exact hturn.shown_view hs.shown hacts.toActsOn hstory hshows rfl rfl rfl (Screen.holds_of_view hplace rfl)
          (hs.shown.line_of_up hacts (by rw [hmode]; decide) (by rw [hview]; decide))

end

end Sys2Proof.Machine
end

section
/-! SUPPORT. A story taken from a screen by the host or by a supervisor keeps the limits invariants, with what becomes of its owner's
screen (R32, R33, R139). -/

namespace Sys2Proof.Machine

section
variable {A : Nat → Nat → Prop} {s t u : State} {n k d p : Nat} {x y z : Story} {msg : List Byte}

/-! ## Where the state before disagrees -/

/-- Where the state before does not agree, only the capacities are to be kept. -/
theorem Apart.keeps_of (hapart : Apart s t) (hwide : RoomWide s → RoomWide t) (h : RoomHolds s → Keeps s t) : Keeps s t where
  room := ⟨hwide, fun hs => (h hs).room.holds hs, fun hs hl => (h hs).room.lists hs hl⟩
  fit := hapart.fit.keeps
  out := hapart.out.keeps

theorem RoomWide.updScreen {f : Screen → Screen} (hs : RoomWide s)
    (hf : ∀ c, c.bells ≤ 4 ∧ c.escape ≤ 4 → (f c).bells ≤ 4 ∧ (f c).escape ≤ 4) : RoomWide (s.updScreen n f) :=
  { hs with
    screens := (State.length_screens_updScreen n f).trans hs.screens
    screen := fun m => by
      rw [State.screen_updScreen_eq]
      split
      · exact hf _ (hs.screen _)
      · exact hs.screen m }

theorem RoomWide.updStory {f : Story → Story} (hs : RoomWide s) (hf : ∀ x, s.story k = some x → x.viewers.length ≤ 8 →
    (f x).viewers.length ≤ 8) : RoomWide (s.updStory k f) :=
  { hs with viewers := State.viewersFit_updStory hs.viewers hf }

theorem RoomWide.backToDesk (hs : RoomWide s) : RoomWide (s.backToDesk n) := by
  unfold State.backToDesk
  split
  · exact hs.updScreen fun c hc => hc
  · exact hs

theorem RoomWide.sendToDesk (hs : RoomWide s) : RoomWide (s.sendToDesk n msg) :=
  (hs.backToDesk.updScreen (f := Screen.breakOff) fun _ hc => ⟨hc.1, Nat.zero_le _⟩).updScreen
    (f := fun c => { c with partMessage := some msg, layoutTime := ((s.backToDesk n).updScreen n Screen.breakOff).clock.time })
    fun _ hc => hc

theorem RoomWide.stopViewing (hs : RoomWide s) : RoomWide (s.stopViewing n) := by
  rcases s.stopViewing_cases n with h | ⟨k, -, h⟩ <;> rw [h]
  · exact hs
  · exact hs.updStory fun x _ hx => (List.length_filter_le ..).trans hx

/-! ## Screens sent to DESK, or whose grace ends -/

theorem ActsAt.sendToDesk : ActsAt A n s (s.sendToDesk n msg) :=
  ActsAt.backToDesk.trans ((ActsAt.updScreen (Screen.follows_breakOff _).bears).trans
    ((Calm.tell n msg).room.stirs.of_noArrival.acts n))

theorem State.place_sendToDesk (hd : (s.screen n).desk = some d) :
    ((s.sendToDesk n msg).screen n).place = (.desk, some d, none, (s.screen n).grace.isSome, .closed) := by
  have hn := State.lt_of_desk hd
  rw [State.sendToDesk_of_desk hd, State.tell, State.place_updScreen (by simpa [State.enterDesk] using hn),
    State.screen_updScreen _ _ _ (by simpa [State.enterDesk] using hn), State.enterDesk, State.screen_updScreen _ _ _ hn]
  rfl

theorem ActsAt.dropGrace (h : (s.screen n).signedOn = false) : ActsAt A n s (s.updScreen n Screen.dropGrace) :=
  .updScreen (.of_place id id id rfl fun _ hon => absurd hon (by rw [h]; decide))

/-- A change of the screens alone. -/
theorem Still.of_screens (h : t = { s with screens := t.screens }) : Still s t := by
  have hstories : t.stories = s.stories := (congrArg State.stories h :)
  refine ⟨.of_tables ?_, fun j => by rw [State.tie, State.tie, State.story, State.story, hstories]⟩
  rw [h]

/-- What becomes of the screen of an owner whose story goes: it is sent to DESK with a message, or its grace ends. -/
def State.ownerParts (s : State) (p : Nat) (msg : List Byte) : State :=
  if (s.screen p).grace.isSome then s.updScreen p Screen.dropGrace else s.sendToDesk p msg

theorem State.ownerParts_only (p : Nat) (msg : List Byte) : s.ownerParts p msg = { s with screens := (s.ownerParts p msg).screens } := by
  unfold State.ownerParts
  split
  · rfl
  · exact State.sendToDesk_only ..

theorem RoomWide.ownerParts (hs : RoomWide s) : RoomWide (s.ownerParts p msg) := by
  unfold State.ownerParts
  split
  · exact hs.updScreen fun c hc => hc
  · exact hs.sendToDesk

theorem State.ring_sendToDesk (m : Nat) : ((s.sendToDesk n msg).screen m).ring = (s.screen m).ring := by
  have hback : ∀ m, ((s.backToDesk n).screen m).ring = (s.screen m).ring := fun m => by
    unfold State.backToDesk
    split
    · exact State.ring_updScreen (f := fun c => { c.dropStory with mode := .desk, desk := some _, basketTop := 0, selection := _ })
        (fun _ => rfl) n m
    · rfl
  have htold := State.ring_updScreen (s := (s.backToDesk n).updScreen n Screen.breakOff) (f := fun c =>
    { c with partMessage := some msg, layoutTime := ((s.backToDesk n).updScreen n Screen.breakOff).clock.time }) (fun _ => rfl) n m
  exact htold.trans ((State.ring_updScreen (f := Screen.breakOff) (fun _ => rfl) n m).trans (hback m))

theorem State.ring_ownerParts (m : Nat) : ((s.ownerParts p msg).screen m).ring = (s.screen m).ring := by
  unfold State.ownerParts
  split
  · exact State.ring_updScreen (f := Screen.dropGrace) (fun _ => rfl) p m
  · exact State.ring_sendToDesk m

/-- An owner's screen in agreement, once its story has gone. -/
structure Parted (s t : State) (p : Nat) : Prop where
  acts : ActsAt NoArrival p s t
  story : (t.screen p).story = none
  holds : (t.screen p).holds
  line : (t.line p).holds (t.screen p)

theorem State.signedOn_of_grace {c : Screen} (h : c.Agrees) (hgrace : c.grace.isSome = true) : c.signedOn = false := by
  rcases (h.grace hgrace).1 with hmode | hmode <;> rw [Screen.signedOn, hmode]

/-- An owner's screen parts from its story, after other commands have moved the story. -/
theorem Shown.ownerParts (hs : Shown s) (hstory : (s.screen p).story = some (k, .owner)) (hstirs : Stirs NoArrival s u)
    (hplace : (u.screen p).place = (s.screen p).place) (msg : List Byte) : Parted s (u.ownerParts p msg) p := by
  have hagrees := Screen.holds_iff.1 (hs.holds p)
  obtain ⟨hmode, hdesk, hstory', hgrace, hprompt⟩ := Screen.place_iff.1 hplace
  have hin : p < u.screens.length := State.lt_of_screen_ne fun hreset => by
    rw [hreset, hstory] at hstory'
    cases hstory'
  have hline : ∀ t : State, ActsAt NoArrival p s t → ((t.screen p).mode = .down ↔ (s.screen p).mode = .down) →
      (t.screen p).story = none → (t.line p).holds (t.screen p) := fun t hacts hdown hnone =>
    hacts.own.holds (hs.lines p) hdown fun _ => hnone
  unfold State.ownerParts
  by_cases hg : (s.screen p).grace.isSome = true
  · rw [if_pos (hgrace.trans hg)]
    have hoff : (u.screen p).signedOn = false := by
      rw [Screen.signedOn_of_mode hmode]
      exact State.signedOn_of_grace hagrees hg
    have hacts : ActsAt NoArrival p s (u.updScreen p Screen.dropGrace) := (hstirs.acts p).trans (.dropGrace hoff)
    have hplaced : ((u.updScreen p Screen.dropGrace).screen p).place =
        ((s.screen p).mode, none, none, false, (s.screen p).prompt) := by
      rw [State.place_updScreen hin, ← hmode, ← hprompt]
      rfl
    obtain ⟨hmode', -, hnone, -, -⟩ := Screen.place_iff.1 hplaced
    exact ⟨hacts, hnone, Screen.holds_of_away hplaced (hagrees.grace hg).1 hagrees.asks, hline _ hacts (by rw [hmode']) hnone⟩
  · have hedit := (hagrees.mode_of_owner hstory).resolve_right fun h => hg h.1
    rw [if_neg (by rw [hgrace]; exact hg)]
    obtain ⟨e, j, he⟩ := hagrees.place_of_edit hedit
    obtain ⟨-, hdesk', -, hgrace', -⟩ := Screen.place_iff.1 (hplace.trans he)
    have hacts : ActsAt NoArrival p s (u.sendToDesk p msg) := (hstirs.acts p).trans .sendToDesk
    have hplaced := State.place_sendToDesk (msg := msg) hdesk'
    rw [hgrace'] at hplaced
    obtain ⟨hmode', -, hnone, -, -⟩ := Screen.place_iff.1 hplaced
    exact ⟨hacts, hnone, Screen.holds_of_desk hplaced rfl, hline _ hacts (by rw [hmode', hedit]; decide) hnone⟩

/-! ## STORY_SPIKE (R33) -/

theorem Keeps.spiked (hx : s.story k = some x) (hspikable : s.spikable x = true) (howner : x.owner = none) :
    Keeps s (s.toSpiked k) := by
  have hturn := Withdrawal.toSpiked hx
  have hstirs := Stirs.toSpiked hx
  exact hturn.keeps (Or.inl hstirs.bears) (fun _ => hstirs.bears) (StoryState.queued_or_not_stored (State.spikable_iff hspikable))
    StoryState.not_stored_spiked rfl rfl fun hs => hturn.shown_still hs.shown hstirs howner.symm rfl nofun

theorem State.place_toSpiked (hx : s.story k = some x) (m : Nat) : ((s.toSpiked k).screen m).place = (s.screen m).place :=
  Screen.place_of_task (State.task_toSpiked hx m)

theorem Keeps.spikedFrom (hx : s.story k = some x) (hspikable : s.spikable x = true) (howner : x.owner = some p) :
    Keeps s ((s.toSpiked k).ownerParts p msg) := by
  have hstirs := Stirs.toSpiked hx
  have hturn : Withdrawal k s ((s.toSpiked k).ownerParts p msg) x x.asSpiked :=
    (Withdrawal.toSpiked hx).still (.of_screens (State.ownerParts_only p msg)) (by rw [State.ownerParts_only]) fun m j hj => by
      rwa [State.ring_ownerParts] at hj
  have hparted := fun hs : RoomHolds s => hs.shown.ownerParts ((hs.shown.owner_iff (State.tie_eq hx) p).1 howner) hstirs
    (State.place_toSpiked hx p) msg
  refine hturn.keeps (Or.inr fun hs => ?_) (fun hs => (hparted hs).acts.bears)
    (StoryState.queued_or_not_stored (State.spikable_iff hspikable)) StoryState.not_stored_spiked rfl rfl fun hs => ?_
  · refine RoomWide.ownerParts (hstirs.wide hs (fun d => ?_) ((Withdrawal.toSpiked hx).viewers hs id))
    rw [(Withdrawal.toSpiked hx).held]
    split
    · exact (List.length_filter_le ..).trans (hs.held d)
    · exact hs.held d
  · obtain ⟨hacts, hnone, hholds, hline⟩ := hparted hs
    exact hturn.shown_disown hs.shown hacts.toActsOn ((hs.shown.owner_iff (State.tie_eq hx) p).1 howner) hnone rfl rfl hholds hline

/-! ## A screen that becomes an owner -/

theorem State.story_updated (f : Story → Story) (hx : s.story k = some x) : (s.updStory k f).story k = some (f x) := by
  rw [State.story_updStory, hx]
  rfl

/-- A record owned by a screen. -/
def Story.ownedBy (n : Nat) (x : Story) : Story := { x with owner := some n }

/-- A record without an owner. -/
def Story.disowned (x : Story) : Story := { x with owner := none }

/-- A screen in DESK becomes the owner of a story that stands in no basket. -/
theorem Keeps.ownAt {g : Story → Story} {G : Screen → Screen} (hx : s.story k = some x)
    (hg : ∀ x, ((g x).version, (g x).style, (g x).head, (g x).fit) = (x.version, x.style, x.head, x.fit))
    (hgx : (g x).tie = (x.desk, .open_, some n, x.viewers)) (hbears : ∀ c : Screen, c.Bears NoArrival (G c))
    (hplace : ∀ c : Screen, (G c).place = (.edit, c.desk, some (k, .owner), c.grace.isSome, c.prompt))
    (howner : RoomHolds s → x.owner = none ∧ ¬x.state.stored)
    (hat : RoomHolds s → (s.screen n).mode = .desk ∧ (s.screen n).prompt = .closed) :
    Keeps s ((s.updStory k g).updScreen n G) := by
  obtain ⟨hdesk, hstate, hown, hviewers⟩ : (g x).desk = x.desk ∧ (g x).state = .open_ ∧ (g x).owner = some n ∧
      (g x).viewers = x.viewers := by simpa [Story.tie] using hgx
  have hturn : Turn k s ((s.updStory k g).updScreen n G) x (g x) := (Turn.updStory hx hg).still (.updScreen n G)
  have hacts : ActsAt NoArrival n s ((s.updStory k g).updScreen n G) := ((Stirs.updStory g).acts n).trans (.updScreen (hbears _))
  refine hturn.apart.keeps (fun hs => hacts.bears.wide hs hs.held (hturn.viewers hs (hviewers ▸ id))) (fun _ => hacts.bears)
    (fun hs => hturn.seated_stay hs.seated hdesk ?_ fun _ => .refl _) (fun hs => ?_) fun _ _ _ _ _ hj => hj.resolve_right id
  · rw [hstate]
    exact iff_of_false StoryState.not_stored_open (howner hs).2
  · obtain ⟨hmode, hprompt⟩ := hat hs
    obtain ⟨e, he⟩ := (Screen.holds_iff.1 (hs.shown.holds n)).place_of_desk hmode
    rw [hprompt] at he
    obtain ⟨-, hdesk, hstory, hgrace, -⟩ := Screen.place_iff.1 he
    have hplaced : (((s.updStory k g).updScreen n G).screen n).place = (.edit, some e, some (k, .owner), false, .closed) := by
      rw [State.place_updScreen (s := s.updStory k g) (State.lt_of_desk hdesk), hplace]
      have hsame : (s.updStory k g).screen n = s.screen n := rfl
      rw [hsame, hdesk, hgrace, hprompt]
    obtain ⟨hedit, -, hshows, -, -⟩ := Screen.place_iff.1 hplaced
    exact hturn.shown_own hs.shown hacts.toActsOn hstory hshows (howner hs).1 hown hstate hviewers
      (Screen.holds_of_edit hplaced rfl) (hs.shown.line_of_up hacts (by rw [hmode]; decide) (by rw [hedit]; decide))

/-! ## A take (R32, R139) -/

/-- The state of a take once its screen has left the story that it viewed, and stands in DESK until it enters the story it takes. -/
def State.freed (s : State) (n : Nat) : State := (s.stopViewing n).updScreen n fun c => { c with mode := .desk, story := none }

theorem Keeps.freed (hmode : (s.screen n).mode = .desk ∨ (s.screen n).mode = .view) (hprompt : (s.screen n).prompt = .closed) :
    Keeps s (s.freed n) := by
  have hacts : ActsAt NoArrival n s (s.freed n) :=
    ((Stirs.stopViewing n).acts n).trans (.updScreen (.of_place id id id rfl fun _ _ => ⟨rfl, rfl⟩))
  refine Keeps.leaves (.updScreen ..) (State.baskets_stopViewing n) hacts.toActsOn fun hs => ?_
  have hagrees := Screen.holds_iff.1 (hs.shown.holds n)
  obtain ⟨e, he⟩ := hagrees.place_of_signedOn (by rcases hmode with h | h <;> rw [Screen.signedOn, h])
  obtain ⟨-, hdesk, -, hgrace, -⟩ := Screen.place_iff.1 he
  have hplace : ((s.freed n).screen n).place = (.desk, some e, none, false, .closed) := by
    rw [State.freed, State.place_updScreen (by rw [State.screens_stopViewing]; exact State.lt_of_desk hdesk),
      State.screens_stopViewing_screen, ← hdesk, ← hgrace, ← hprompt]
    rfl
  obtain ⟨hdeskMode, -, hnone, -, -⟩ := Screen.place_iff.1 hplace
  exact ⟨hagrees.not_owner hmode, hnone, Screen.holds_of_desk hplace rfl,
    hs.shown.line_of_up hacts (by rcases hmode with h | h <;> rw [h] <;> decide) (by rw [hdeskMode]; decide)⟩

/-- A story's owner, once the story has gone, leaves it without one. -/
theorem Keeps.ownerParts (hx : s.story k = some x) (howner : x.owner = some p) :
    Keeps s ((s.ownerParts p msg).updStory k Story.disowned) := by
  have hstill : Still s (s.ownerParts p msg) := .of_screens (State.ownerParts_only p msg)
  have hx' : (s.ownerParts p msg).story k = some x := by
    rw [State.story, State.ownerParts_only]
    exact hx
  have hturn : Turn k s ((s.ownerParts p msg).updStory k Story.disowned) x x.disowned :=
    hstill.turn hx (Turn.updStory (f := Story.disowned) hx' fun _ => rfl)
  have hheld := State.held_of_baskets (s := s) (t := (s.ownerParts p msg).updStory k Story.disowned) (by
    rw [State.updStory_baskets, State.ownerParts_only])
  have hstory := fun hs : RoomHolds s => (hs.shown.owner_iff (State.tie_eq hx) p).1 howner
  have hparted := fun hs : RoomHolds s => hs.shown.ownerParts (hstory hs) (.refl _ s) rfl msg
  have hacts := fun hs : RoomHolds s => (hparted hs).acts.trans ((Stirs.updStory (k := k) Story.disowned).acts p)
  refine hturn.apart.keeps (fun hs => hs.ownerParts.updStory fun _ _ => id) (fun hs => (hacts hs).bears)
    (fun hs => hturn.seated_stay hs.seated rfl Iff.rfl fun d => by rw [hheld]) (fun hs => ?_) fun _ _ d _ _ hj => ?_
  · exact hturn.shown_disown hs.shown (hacts hs).toActsOn (hstory hs) (hparted hs).story rfl rfl (hparted hs).holds (hparted hs).line
  · rw [hheld]
    exact hj.resolve_right id

/-- A story's owner becomes a viewer, and leaves it without an owner. -/
theorem Keeps.demoted (hx : s.story k = some x) (howner : x.owner = some p) (hgrace : (s.screen p).grace.isSome = false)
    (hroom : x.viewers.length < 8) (time : Nat) :
    Keeps s (((s.viewed p k).updScreen p (Screen.demoted k time)).updStory k Story.disowned) := by
  have hturn : Turn k s (((s.viewed p k).updScreen p (Screen.demoted k time)).updStory k Story.disowned) x (x.viewedAt p).disowned :=
    Turn.trans ((Turn.updStory (f := Story.viewedAt p) hx fun _ => rfl).still (.updScreen p (Screen.demoted k time)))
      (Turn.updStory (f := Story.disowned) (State.story_viewed hx) fun _ => rfl)
  have hacts : ActsAt NoArrival p s (((s.viewed p k).updScreen p (Screen.demoted k time)).updStory k Story.disowned) :=
    (((Stirs.updStory (Story.viewedAt p)).acts p).trans (.updScreen (.of_place id (fun _ => Nat.zero_le _) (fun _ => Nat.zero_le _)
      rfl fun _ _ => ⟨rfl, rfl⟩))).trans ((Stirs.updStory Story.disowned).acts p)
  refine hturn.apart.keeps (fun hs => hacts.bears.wide hs hs.held (hturn.viewers hs fun _ => (length_insertNum_le p _).trans hroom))
    (fun _ => hacts.bears) (fun hs => hturn.seated_stay hs.seated rfl Iff.rfl fun _ => .refl _) (fun hs => ?_)
    fun _ _ _ _ _ hj => hj.resolve_right id
  have hstory := (hs.shown.owner_iff (State.tie_eq hx) p).1 howner
  have hagrees := Screen.holds_iff.1 (hs.shown.holds p)
  have hedit := (hagrees.mode_of_owner hstory).resolve_right fun h => by simp [hgrace] at h
  obtain ⟨e, j, he⟩ := hagrees.place_of_edit hedit
  obtain ⟨-, hdesk, -, -, -⟩ := Screen.place_iff.1 he
  have hplace : ((((s.viewed p k).updScreen p (Screen.demoted k time)).updStory k Story.disowned).screen p).place =
      (.view, some e, some (k, .viewer), false, .closed) := by
    have hplaced := State.place_updScreen (s := s.viewed p k) (f := Screen.demoted k time) (State.lt_of_desk hdesk)
    refine hplaced.trans ?_
    rw [← hdesk, ← hgrace]
    rfl
  obtain ⟨hview, -, hshows, -, -⟩ := Screen.place_iff.1 hplace
  refine hturn.shown (b := some .owner) (a := some .viewer) hs.shown hacts.toActsOn hstory hshows (fun m => ?_) (fun m => ?_)
    (Screen.holds_of_view hplace rfl) (hs.shown.line_of_up hacts (by rw [hedit]; decide) (by rw [hview]; decide)) nofun
  · by_cases hm : m = p
    · simp [Story.disowned, hm]
    · simp [Story.disowned, howner, hm, Ne.symm hm]
  · by_cases hm : m = p <;> simp [Story.disowned, Story.viewedAt, mem_insertNum, hm]

theorem State.updScreen_comm {f g : Screen → Screen} (h : p ≠ n) :
    (s.updScreen n f).updScreen p g = (s.updScreen p g).updScreen n f := by
  simp only [State.updScreen, List.modify_modify_ne f g s.screens (Ne.symm h)]

theorem State.sendToDesk_updScreen {f : Screen → Screen} (h : p ≠ n) :
    (s.updScreen n f).sendToDesk p msg = (s.sendToDesk p msg).updScreen n f := by
  have hdesk : ((s.updScreen n f).screen p).desk = (s.screen p).desk := by rw [State.screen_updScreen_of_ne _ _ _ _ h]
  have hback : (s.updScreen n f).backToDesk p = (s.backToDesk p).updScreen n f := by
    unfold State.backToDesk
    rw [hdesk]
    cases (s.screen p).desk with
    | none => rfl
    | some d => exact State.updScreen_comm h
  rw [State.sendToDesk, hback, State.updScreen_comm h, State.tell, State.updScreen_comm h, State.sendToDesk, State.tell]
  rfl

theorem State.takenFrom_updScreen {f : Screen → Screen} {o : Option Nat} (ho : o ≠ some n) :
    (s.updScreen n f).takenFrom k o = (s.takenFrom k o).updScreen n f := by
  cases o with
  | none => rfl
  | some p =>
    have hp : p ≠ n := fun h => ho (h ▸ rfl)
    have hgrace : (s.updScreen n f).screen p = s.screen p := State.screen_updScreen_of_ne _ _ _ _ hp
    have hstory : (s.updScreen n f).story k = s.story k := rfl
    rw [State.takenFrom, State.takenFrom, State.ownerTaken, State.ownerTaken, hgrace, hstory]
    split_ifs
    · exact State.updScreen_comm hp
    · exact State.sendToDesk_updScreen hp
    · rw [State.tell, State.tell]
      exact (congrArg (fun u => State.updScreen u p _) (State.updScreen_comm (s := s.viewed p k) hp)).trans (State.updScreen_comm hp)

/-- The owner of a story, if it has one, leaves it without an owner. -/
theorem Keeps.takenFrom (hx : s.story k = some x) : Keeps s ((s.takenFrom k x.owner).updStory k Story.disowned) := by
  cases howner : x.owner with
  | none =>
    rw [State.takenFrom, State.updStory_congr (g := id) hx (by rw [Story.disowned, ← howner]; rfl), State.updStory_id]
    exact .refl s
  | some p =>
    have hparts := Keeps.ownerParts (msg := str "TAKEN") hx howner
    rw [State.takenFrom]
    by_cases hgrace : (s.screen p).grace.isSome = true
    · rw [State.ownerParts, if_pos hgrace] at hparts
      rwa [State.ownerTaken_of_grace hgrace]
    · rw [State.ownerParts, if_neg hgrace] at hparts
      rw [Bool.not_eq_true] at hgrace
      by_cases hroom : x.viewers.length < 8
      · rw [State.ownerTaken_of_room hx hgrace hroom]
        exact .demoted hx howner hgrace hroom _
      · rwa [State.ownerTaken_of_full hx hgrace (Nat.not_lt.1 hroom)]

theorem RoomWide.takenFrom (hs : RoomWide s) (hx : s.story k = some x) (o : Option Nat) : RoomWide (s.takenFrom k o) := by
  cases o with
  | none => exact hs
  | some p =>
    rw [State.takenFrom]
    by_cases hgrace : (s.screen p).grace.isSome = true
    · rw [State.ownerTaken_of_grace hgrace]
      exact hs.updScreen fun _ hc => hc
    · rw [Bool.not_eq_true] at hgrace
      by_cases hroom : x.viewers.length < 8
      · rw [State.ownerTaken_of_room hx hgrace hroom]
        have hviewed : RoomWide (s.viewed p k) := hs.updStory (f := Story.viewedAt p) fun y hy _ => by
          obtain rfl := Option.some.inj (hx.symm.trans hy)
          exact (length_insertNum_le p _).trans hroom
        exact hviewed.updScreen fun _ hc => ⟨hc.1, Nat.zero_le _⟩
      · rw [State.ownerTaken_of_full hx hgrace (Nat.not_lt.1 hroom)]
        exact hs.sendToDesk

theorem Screen.bears_asOwner (k : Nat) (kept : Bool) (c : Screen) : c.Bears A (c.asOwner k kept) := by
  cases kept <;> exact .of_place id id id rfl fun _ _ => ⟨rfl, rfl⟩

theorem Screen.place_asOwner (k : Nat) (kept : Bool) (c : Screen) :
    (c.asOwner k kept).place = (.edit, c.desk, some (k, .owner), c.grace.isSome, c.prompt) := by cases kept <;> rfl

theorem Screen.bells_asOwner (k : Nat) (kept : Bool) (c : Screen) :
    (c.asOwner k kept).bells = c.bells ∧ (c.asOwner k kept).escape = c.escape := by cases kept <;> exact ⟨rfl, rfl⟩

/-- The take, but for what it reports. -/
def State.taken (s : State) (n k : Nat) (o : Option Nat) (kept : Bool) : State :=
  (((s.stopViewing n).takenFrom k o).updStory k (Story.ownedBy n)).updScreen n (Screen.asOwner k kept)

theorem State.taken_eq {o : Option Nat} (ho : o ≠ some n) (kept : Bool) : s.taken n k o kept =
    ((((s.freed n).takenFrom k o).updStory k Story.disowned).updStory k (Story.ownedBy n)).updScreen n (Screen.asOwner k kept) := by
  have hstory : ∀ u : State, (u.updStory k Story.disowned).updStory k (Story.ownedBy n) = u.updStory k (Story.ownedBy n) := fun u =>
    State.updStory_updStory ..
  have hscreen : ∀ c : Screen, ({ c with mode := .desk, story := none } : Screen).asOwner k kept = c.asOwner k kept := fun c => by
    cases kept <;> rfl
  rw [hstory, State.freed, State.takenFrom_updScreen ho, State.taken]
  have hcomp : Screen.asOwner k kept ∘ (fun c => { c with mode := .desk, story := none }) = Screen.asOwner k kept := funext hscreen
  simp only [State.updScreen, State.updStory, List.modify_modify_eq, hcomp]

theorem Apart.takenFrom (hx : s.story k = some x) (o : Option Nat) : Apart s (s.takenFrom k o) := by
  cases o with
  | none => exact .refl _
  | some p =>
    rw [State.takenFrom]
    by_cases hgrace : (s.screen p).grace.isSome = true
    · rw [State.ownerTaken_of_grace hgrace]
      exact .of_tables rfl
    · rw [Bool.not_eq_true] at hgrace
      by_cases hroom : x.viewers.length < 8
      · rw [State.ownerTaken_of_room hx hgrace hroom]
        exact (Apart.updStory (f := Story.viewedAt p) fun _ => rfl).trans (.of_tables rfl)
      · rw [State.ownerTaken_of_full hx hgrace (Nat.not_lt.1 hroom), State.sendToDesk_only]
        exact .of_tables rfl

theorem Apart.taken (hx : s.story k = some x) (o : Option Nat) (kept : Bool) : Apart s (s.taken n k o kept) :=
  ((Apart.stopViewing n).trans (.takenFrom (State.story_stopped hx) o)).trans
    ((Apart.updStory (f := Story.ownedBy n) fun _ => rfl).trans (.of_tables rfl))

theorem RoomWide.taken (hs : RoomWide s) (hx : s.story k = some x) (o : Option Nat) (kept : Bool) : RoomWide (s.taken n k o kept) := by
  have htaken := (hs.stopViewing (n := n)).takenFrom (State.story_stopped hx) o
  refine (htaken.updStory (f := Story.ownedBy n) fun _ _ => id).updScreen fun c hc => ?_
  obtain ⟨hbells, hescape⟩ := c.bells_asOwner k kept
  rwa [hbells, hescape]

theorem Keeps.taken (hx : s.story k = some x) (hopen : x.state = .open_) (hprompt : (s.screen n).prompt = .closed)
    (hat : RoomHolds s → (s.screen n).mode = .desk ∨ (s.screen n).mode = .view) (kept : Bool) :
    Keeps s (s.taken n k x.owner kept) := by
  have hstop := State.story_stopped (n := n) hx
  refine (Apart.taken hx x.owner kept).keeps_of (fun hs => hs.taken hx x.owner kept) fun hs => ?_
  have hmode := hat hs
  have ho : x.owner ≠ some n := fun ho =>
    (Screen.holds_iff.1 (hs.shown.holds n)).not_owner hmode k ((hs.shown.owner_iff (State.tie_eq hx) n).1 ho)
  have hfreed := Keeps.freed hmode hprompt
  have hscreen : (s.freed n).screen n = { s.screen n with mode := .desk, story := none } := by
    rw [State.freed, State.screen_updScreen, State.screens_stopViewing_screen]
    rw [State.screens_stopViewing]
    exact State.lt_of_mode (by rcases hmode with h | h <;> rw [h] <;> decide)
  rw [State.taken_eq ho]
  have hleft := Keeps.takenFrom (s := s.freed n) (k := k) hstop
  have hstory := State.story_takenFrom (s := s.freed n) hstop x.owner
  have hother := State.screen_takenFrom_of_ne (s := s.freed n) hstop ho
  refine (hfreed.trans hleft).trans (Keeps.ownAt (State.story_updated Story.disowned hstory) (fun _ => rfl) ?_ (Screen.bears_asOwner k kept)
    (Screen.place_asOwner k kept) (fun _ => ⟨rfl, ?_⟩) fun _ => ?_)
  · exact congrArg (fun st => (x.desk, st, some n, _)) hopen
  · exact (congrArg StoryState.stored hopen).mp.mt StoryState.not_stored_open
  · have hsame : (((s.freed n).takenFrom k x.owner).updStory k Story.disowned).screen n = (s.freed n).screen n := hother
    rw [hsame, hscreen]
    exact ⟨rfl, hprompt⟩

theorem Keeps.take (hx : s.story k = some x) (hopen : x.state = .open_) (hprompt : (s.screen n).prompt = .closed)
    (hat : RoomHolds s → (s.screen n).mode = .desk ∨ (s.screen n).mode = .view) : Keeps s (s.take k n) := by
  rw [State.take_eq hx]
  exact (Keeps.taken hx hopen hprompt hat _).trans ((Calm.reportDesk x.desk).trans (.touchStory k)).keeps

end

end Sys2Proof.Machine
end

section
/-! SUPPORT. Stories created, loaded, changed, purged and put on pages keep the limits invariants (R20, R26, R34, R36 to R42, R131, R164). -/

namespace Sys2Proof.Machine

section
variable {A : Nat → Nat → Prop} {s t u w : State} {n k d p : Nat} {x y z : Story} {msg : List Byte}

/-- The room is kept where each part of it agrees again. -/
theorem RoomKeeps.of_parts (hwide : RoomWide s → RoomWide t) (hbears : RoomHolds s → Bears A s t)
    (hseated : RoomHolds s → Seated t) (hshown : RoomHolds s → Shown t)
    (hring : RoomHolds s → ∀ n d m, m ∈ (t.screen n).ring → m ∈ s.held d ∨ A d m → m ∈ t.held d) : RoomKeeps s t :=
  ⟨hwide, fun hs => (hbears hs).sizes.holds hs (hseated hs) (hshown hs), fun hs hl => (hbears hs).lists hl (hring hs)⟩

/-- Where the state before does not agree, only the capacities and the output are to be kept. -/
theorem Keeps.of_holds (hwide : RoomWide s → RoomWide t) (hfit : FitWide s → FitWide t) (hout : OutKeeps s t)
    (h : RoomHolds s → Keeps s t) : Keeps s t where
  room := ⟨hwide, fun hs => (h hs).room.holds hs, fun hs hl => (h hs).room.lists hs hl⟩
  fit := ⟨hfit, fun hs hf => (h hs).fit.holds hs hf, fun hs hl => (h hs).fit.lists hs hl⟩
  out := hout

theorem Keeps.foldl {α : Type} {f : State → α → State} (hf : ∀ t a, Keeps t (f t a)) (l : List α) : Keeps s (l.foldl f s) :=
  s.foldl_keeps (Keeps s) f (fun t a ht => ht.trans (hf t a)) l (.refl s)

/-! ## Records filled and emptied (R20, R42) -/

theorem State.setStory_beyond (h : ¬k < s.stories.length) (o : Option Story) : s.setStory k o = s := by
  rw [State.setStory, List.set_eq_of_length_le (Nat.le_of_not_lt h)]

theorem State.story_setStory_of_ne {j : Nat} (h : j ≠ k) (o : Option Story) : (s.setStory k o).story j = s.story j := by
  rw [State.story, State.setStory, State.story, List.getD_eq_getElem?_getD, List.getD_eq_getElem?_getD,
    List.getElem?_set_ne (Ne.symm h)]

theorem State.setStory_updStory (f : Story → Story) : (s.setStory k (some z)).updStory k f = s.setStory k (some (f z)) := by
  have hset : (s.stories.set k (some z)).modify k (Option.map f) = s.stories.set k (some (f z)) := by
    refine List.ext_getElem? fun i => ?_
    rw [List.getElem?_modify, List.getElem?_set, List.getElem?_set]
    by_cases hi : k = i
    · subst hi
      by_cases hk : k < s.stories.length <;> simp [hk]
    · simp [hi]
  rw [State.updStory, State.setStory, State.setStory, hset]

theorem SameSizes.setStory (o : Option Story) : SameSizes s (s.setStory k o) := { SameSizes.refl s with stories := List.length_set .. }

theorem Stirs.setStory (o : Option Story) : Stirs A s (s.setStory k o) := ⟨.setStory o, fun _ => .refl _ _, fun _ => .refl _⟩

theorem OutSame.setStory (o : Option Story) : OutSame s (s.setStory k o) := ⟨rfl, rfl, rfl, rfl, rfl⟩

/-- A record without a fit filled in, after what leaves the fits as they were. -/
theorem FitSame.setStory {o : Option Story} (h : FitSame s w) (hlength : w.stories.length = s.stories.length)
    (ho : ∀ z ∈ o, z.fit = none) : FitKeeps s (w.setStory k o) := by
  have hw : FitKeeps s w := h.keeps
  refine ⟨fun hs => ⟨(hw.wide hs).faces, (hw.wide hs).quiet⟩, fun hr hs j hj => ?_, fun hr hl => ?_⟩
  case refine_2 =>
    obtain ⟨hrefit, hrefit_lt, hqueue, hqueue_lt⟩ := hw.lists hr hl
    exact ⟨hrefit, hrefit_lt, hqueue, hqueue_lt⟩
  by_cases hjk : j = k
  · subst hjk
    intro x hx r hfit
    rw [State.story_setStory _ _ _ _ (by rwa [hlength, hr.stories]), if_pos rfl] at hx
    rw [ho x hx] at hfit
    cases hfit
  · exact State.fitStands_congr (s := w) rfl (State.story_setStory_of_ne hjk o) (h.keeps.holds hr hs j hj)

/-- A record created in no basket and at no screen. -/
theorem Keeps.created (hnone : s.story k = none) (hstate : ¬z.state.stored) (howner : z.owner = none) (hviewers : z.viewers = [])
    (hfit : z.fit = none) (hdesk : RoomHolds s → z.desk < 16) : Keeps s (s.setStory k (some z)) := by
  by_cases hk : k < s.stories.length
  · have hst := fun j => State.story_setStory s k j (some z) hk
    have hself : (s.setStory k (some z)).story k = some z := by rw [hst, if_pos rfl]
    have hother : ∀ j, j ≠ k → (s.setStory k (some z)).story j = s.story j := fun j hj => State.story_setStory_of_ne hj _
    have hempty : ∀ {u : State} {m r}, u = s → ¬u.names m k r := by
      rintro u m r rfl ⟨y, hy, -⟩
      exact Option.some_ne_none y (hy.symm.trans hnone)
    have hunnamed : ∀ m r, ¬(s.setStory k (some z)).names m k r := by
      rintro m r ⟨y, hy, hr⟩
      obtain rfl := Option.some.inj (hself.symm.trans hy)
      cases r <;> simp [howner, hviewers] at hr
    refine ⟨RoomKeeps.of_parts (A := NoArrival) (fun hs => (Stirs.setStory (A := NoArrival) _).wide hs hs.held fun j y hy => ?_)
      (fun _ => (Stirs.setStory _).bears) (fun hs => ?_) (fun hs => ⟨hs.shown.holds, hs.shown.lines, fun m j r => ?_, fun j y hy ho => ?_⟩)
      fun _ _ _ _ _ hj => hj.resolve_right id, FitSame.setStory (.refl s) rfl (by simpa using hfit), (OutSame.setStory _).keeps⟩
    · by_cases hj : j = k
      · obtain rfl := Option.some.inj ((hself.symm.trans (hj ▸ hy)))
        rw [hviewers]
        exact Nat.zero_le _
      · exact hs.viewers j y ((hother j hj).symm.trans hy)
    · have hseat : (s.setStory k (some z)).seat k = some (z.desk, z.state) := by
        rw [State.seat, hself]
        rfl
      have hfree : ∀ d, k ∉ s.held d := fun d hmem => by
        obtain ⟨st, hst, -⟩ := (hs.seated.held d k).1 hmem
        rw [State.seat, hnone] at hst
        cases hst
      refine hs.seated.turn (k := k) (fun j hj => by rw [State.seat, State.seat, hother j hj]) hs.seated.nodup (fun _ _ _ => Iff.rfl)
        (fun d => iff_of_false (hfree d) ?_) fun d st hst => ?_
      · rintro ⟨st, hst, hstored⟩
        rw [hseat] at hst
        obtain ⟨-, rfl⟩ : z.desk = d ∧ z.state = st := by simpa using hst
        exact hstate hstored
      · rw [hseat] at hst
        obtain ⟨rfl, -⟩ : z.desk = d ∧ z.state = st := by simpa using hst
        exact hdesk hs
    · by_cases hj : j = k
      · subst hj
        exact iff_of_false (fun hshows => hempty rfl ((hs.shown.names m j r).1 hshows)) (hunnamed m r)
      · rw [State.names_of_tie (s := s) (by rw [State.tie, State.tie, hother j hj])]
        exact hs.shown.names m j r
    · by_cases hj : j = k
      · obtain rfl := Option.some.inj ((hself.symm.trans (hj ▸ hy)))
        rw [howner] at ho
        cases ho
      · exact hs.shown.owned j y ((hother j hj).symm.trans hy) ho
  · rw [State.setStory_beyond hk]
    exact .refl s

theorem RoomWide.setStory (hs : RoomWide s) (o : Option Story) (ho : ∀ z ∈ o, z.viewers.length ≤ 8) : RoomWide (s.setStory k o) := by
  refine (Stirs.setStory (A := NoArrival) o).wide hs hs.held fun j y hy => ?_
  by_cases hj : j = k
  · subst hj
    by_cases hin : j < s.stories.length
    · rw [State.story_setStory _ _ _ _ hin, if_pos rfl] at hy
      exact ho y hy
    · rw [State.setStory_beyond hin] at hy
      exact hs.viewers j y hy
  · rw [State.story_setStory_of_ne hj] at hy
    exact hs.viewers j y hy

/-! ## NEW (R26, R128) -/

theorem State.createAt_eq (d : Nat) (desk : Desk) (slug : List Byte) : s.createAt n d k desk slug =
    ((s.setStory k (some (newStory slug .spiked .routine d none desk.style s.clock.time))).updStory k (Story.openedAt n)).updScreen n
      fun c => { c.dropStory with mode := Role.owner.mode, story := some (k, .owner), selection := none, basketTop := 0 } := by
  rw [State.setStory_updStory, State.createAt, State.enterStory_eq]
  rfl

theorem RoomHolds.story_created (hs : RoomHolds s) (hk : k < 512) : (s.setStory k (some z)).story k = some z := by
  rw [State.story_setStory _ _ _ _ (by rwa [hs.stories]), if_pos rfl]

theorem Keeps.createAt {desk : Desk} {slug : List Byte} (hnone : s.story k = none) (hk : k < 512)
    (hat : RoomHolds s → d < 16 ∧ (s.screen n).mode = .desk ∧ (s.screen n).prompt = .closed) : Keeps s (s.createAt n d k desk slug) := by
  refine .of_holds (fun hs => ?_) (fun hs => ⟨hs.faces, hs.quiet⟩) (OutSame.keeps ⟨rfl, rfl, rfl, rfl, rfl⟩) fun hs => ?_
  · rw [State.createAt, State.enterStory_eq]
    exact (hs.setStory _ fun z hz => by cases hz; exact Nat.zero_le _).updScreen fun _ hc => hc
  · obtain ⟨hd, hscreen⟩ := hat hs
    have hblank : Keeps s (s.setStory k (some (newStory slug .spiked .routine d none desk.style s.clock.time))) :=
      .created hnone StoryState.not_stored_spiked rfl rfl rfl fun _ => hd
    rw [State.createAt_eq]
    refine hblank.trans (Keeps.ownAt (hs.story_created hk) (fun _ => rfl) rfl (fun c => ?_) (fun _ => rfl)
      (fun _ => ⟨rfl, StoryState.not_stored_spiked⟩) fun _ => hscreen)
    exact .of_place id id id rfl fun _ _ => ⟨rfl, rfl⟩

theorem Keeps.newAt {buffer : List Byte} (hat : RoomHolds s → (s.screen n).mode = .desk ∧ (s.screen n).prompt = .closed) :
    Keeps s (s.newAt n buffer) := by
  unfold State.newAt
  split
  · split
    · exact (Calm.deny n _).keeps
    · split
      · next story desk hempty hdesk =>
        split
        · exact (Calm.deny n _).keeps
        · obtain ⟨hlt, hnone⟩ := State.emptyRecord_eq_some hempty
          exact .createAt hnone hlt fun hs => ⟨hs.lt_of_desk (by rw [hdesk]; rfl), hat hs⟩
      · exact (Calm.deny n _).keeps
  · exact (Calm.deny n _).keeps

/-! ## Texts (R12 to R14, R25, R37, R131) -/

/-- A change of chains, with the reports it makes, moves no story and changes no record and no basket. -/
structure Stored (s t : State) : Prop where
  calm : Calm s t
  stories : t.stories = s.stories
  baskets : t.baskets = s.baskets

theorem Stored.putChain (c : Chain) (free : List Nat) : Stored s (s.putChain k c free) :=
  ⟨.putChain k c free, by rw [State.putChain_only], by rw [State.putChain_only]⟩

theorem Stored.story (h : Stored s t) (j : Nat) : t.story j = s.story j := by rw [State.story, h.stories, State.story]

theorem Stored.insertChar {i : Nat} {c : Byte} (h : s.insertChar k i c = .ok t) : Stored s t := by
  unfold State.insertChar at h
  split at h
  · cases h
  · split at h
    · cases h
    · cases h
      exact .putChain ..

theorem Stored.deleteChar {i : Nat} (h : s.deleteChar k i = some t) : Stored s t := by
  unfold State.deleteChar at h
  split at h
  · cases h
    exact .putChain ..
  · cases h

theorem Stored.appendRun {run : List Byte} (h : s.appendRun k run = .ok t) : Stored s t := by
  unfold State.appendRun at h
  split at h
  · cases h
  · split at h
    · cases h
    · cases h
      exact .putChain ..

/-- A text changed, with the screens that follow it and the version it takes. -/
theorem Stored.changed (h : Stored s t) (hx : s.story k = some x) (by_ : Option Nat) (move ownTop : Nat → Nat) :
    Keeps s ((t.followText k by_ move ownTop).versionChange k) := by
  have hx' : (t.followText k by_ move ownTop).story k = some x := (h.story k).trans hx
  exact (h.calm.trans (.followText k by_ move ownTop)).keeps.trans (.versionChange fun hs => hs.lt hx')

theorem Keeps.hostAppend {run : List Byte} (h : s.hostAppend k run = .ok t) (hx : s.story k = some x) : Keeps s t := by
  unfold State.hostAppend at h
  split at h
  · cases h
  · next u hu =>
    cases h
    exact (Stored.appendRun hu).changed hx ..

theorem Keeps.keyInsert {i : Nat} {c : Byte} (h : s.keyInsert n k i c = .ok t) (hx : s.story k = some x) : Keeps s t := by
  unfold State.keyInsert at h
  split at h
  · cases h
  · next u hu =>
    cases h
    exact (Stored.insertChar hu).changed hx ..

theorem Keeps.keyDelete {i : Nat} (h : s.keyDelete n k i = some t) (hx : s.story k = some x) : Keeps s t := by
  obtain ⟨u, hu, rfl⟩ := Option.map_eq_some_iff.1 h
  exact (Stored.deleteChar hu).changed hx ..

theorem State.story_of_owns (h : ¬(!s.owns n k) = true) : ∃ x, s.story k = some x :=
  Option.ne_none_iff_exists'.1 (State.owns_ne_none h)

theorem Calm.readyToEdit (n : Nat) : Calm s (s.readyToEdit n) :=
  .updScreen (.of_core ((core_reveal ..).trans (core_dropToType s _)))

theorem Calm.editedTo (n i : Nat) : Calm s (s.editedTo n i) :=
  .updScreen (.of_core (core_follow _ { s.screen n with cursor := i }))

theorem Keeps.insertKey (c : Byte) : Keeps s (s.insertKey n k c) := by
  unfold State.insertKey
  refine (Calm.readyToEdit n).keeps.trans ?_
  generalize s.readyToEdit n = t
  dsimp only
  split
  · exact (Calm.deny n _).keeps
  · next howns =>
    obtain ⟨x, hx⟩ := State.story_of_owns howns
    split
    · exact (Calm.deny n _).keeps
    · next u hu => exact (Keeps.keyInsert hu hx).trans (Calm.editedTo n _).keeps

theorem Keeps.deleteKeyAt (i : Nat) : Keeps s (s.deleteKeyAt n k i) := by
  unfold State.deleteKeyAt
  split
  · exact (Calm.deny n _).keeps
  · next howns =>
    obtain ⟨x, hx⟩ := State.story_of_owns howns
    split
    · exact (Calm.bell n).keeps
    · next u hu => exact (Keeps.keyDelete hu hx).trans (Calm.editedTo n _).keeps

theorem Keeps.ruboutKey : Keeps s (s.ruboutKey n k) := by
  unfold State.ruboutKey
  refine (Calm.readyToEdit n).keeps.trans ?_
  dsimp only
  split
  · exact (Calm.bell n).keeps
  · exact .deleteKeyAt _

theorem Keeps.deleteKey : Keeps s (s.deleteKey n k) := (Calm.readyToEdit n).keeps.trans (.deleteKeyAt _)

/-! ## STORY_LOAD (R36) -/

theorem Keeps.schedule (hk : RoomHolds s → k < 512) : Keeps s (s.schedule k) :=
  Keeps.of_lists (refit := placeRefit ⟨k, s.clock.steps + s.fit.quiet + 1⟩ (s.fit.refit.filter fun e => e.story != k))
    (queue := s.fit.queue) (pass := s.fit.pass) fun hr hl => hl.schedule (hk hr)

/-- A story loaded with its text enters its desk's basket. -/
theorem Keeps.loaded {slug : List Byte} {priority : Priority} {style : Style} {time : Nat} (hnone : s.story k = none) (hk : k < 512)
    (hd : RoomHolds s → d < 16) (h : Stored (s.setStory k (some (newStory slug .queued priority d none style time))) t)
    (hroom : t.roomAt d = true) : Keeps s ((t.enterBasket k none).schedule k) := by
  refine Keeps.trans ?_ (.schedule fun _ => hk)
  by_cases hin : k < s.stories.length
  · have hblank : Keeps s (s.setStory k (some (newStory slug .spiked priority d none style time))) :=
      .created hnone StoryState.not_stored_spiked rfl rfl rfl hd
    refine hblank.trans ?_
    have hx : (s.setStory k (some (newStory slug .spiked priority d none style time))).story k =
        some (newStory slug .spiked priority d none style time) := by rw [State.story_setStory _ _ _ _ hin, if_pos rfl]
    have hput : (s.setStory k (some (newStory slug .spiked priority d none style time))).updStory k (Story.queuedAt d) =
        s.setStory k (some (newStory slug .queued priority d none style time)) := State.setStory_updStory _
    have hbaskets : t.baskets = (s.setStory k (some (newStory slug .spiked priority d none style time))).baskets := h.baskets
    have hturn := Turn.updStory (f := Story.queuedAt d) hx fun _ => rfl
    have hstir := Stirs.updStory (A := Arrival d k) (s := s.setStory k (some (newStory slug .spiked priority d none style time)))
      (k := k) (Story.queuedAt d)
    rw [hput] at hturn hstir
    have ht : t.story k = some (newStory slug .queued priority d none style time) :=
      (h.story k).trans (by rw [State.story_setStory _ _ _ _ hin, if_pos rfl])
    generalize s.setStory k (some (newStory slug .spiked priority d none style time)) = v at hx hbaskets hturn hstir ⊢
    have harriving : Arriving k v (t.enterBasket k none) (newStory slug .spiked priority d none style time)
        (newStory slug .queued priority d none style time) :=
      Turn.arriving (hturn.still h.calm.still) hbaskets (Arriving.enterBasket ht none)
    have hstirs : Stirs (Arrival d k) v (t.enterBasket k none) :=
      (hstir.trans h.calm.room.stirs.of_noArrival).trans (Stirs.enterBasket ht none)
    exact harriving.keeps (Or.inl hstirs.bears) (fun _ => hstirs.bears) (State.held_of_baskets hbaskets d ▸ State.roomAt_held hroom)
      (fun _ => StoryState.not_stored_spiked) StoryState.stored_queued (fun hs => hs.desk_lt (x := newStory slug .spiked priority d none style time) hx)
      rfl fun hs => harriving.shown_still hs.shown hstirs rfl rfl nofun
  · rw [State.setStory_beyond hin] at h
    have hgone : t.enterBasket k none = t := by rw [State.enterBasket, h.story, hnone]
    rw [hgone]
    exact h.calm.keeps

/-- A load taken back. -/
theorem Calm.unloaded {o : Option Story} (hnone : s.story k = none) (h : Stored (s.setStory k o) t) : Calm s (t.setStory k none) := by
  have hst : ∀ j, (t.setStory k none).story j = s.story j := fun j => by
    by_cases hj : j = k
    · subst hj
      by_cases hin : j < t.stories.length
      · rw [State.story_setStory _ _ _ _ hin, if_pos rfl, hnone]
      · have hbeyond : ¬j < s.stories.length := by
          have hlength : t.stories.length = s.stories.length := (congrArg List.length h.stories).trans (List.length_set ..)
          rwa [hlength] at hin
        rw [State.setStory_beyond hin, h.story, State.setStory_beyond hbeyond]
    · rw [State.story_setStory_of_ne hj, h.story, State.story_setStory_of_ne hj]
  obtain ⟨hfaces, hquiet, hrefit, hqueue, -⟩ := h.calm.fit
  refine ⟨⟨((Stirs.setStory o).trans h.calm.room.stirs).trans (.setStory none), fun j => by rw [State.tie, State.tie, hst],
    fun d => h.calm.room.held d⟩, ⟨hfaces, hquiet, hrefit, hqueue, fun j => by rw [hst]⟩,
    ((OutSame.setStory o).trans h.calm.out).trans (.setStory none)⟩

theorem Stored.trans (h : Stored s t) (h' : Stored t u) : Stored s u :=
  ⟨h.calm.trans h'.calm, h'.stories.trans h.stories, h'.baskets.trans h.baskets⟩

theorem Stored.releaseChain (k : Nat) : Stored s (s.releaseChain k) := .putChain ..

/-! ## STORY_PURGE (R42) -/

theorem ActsAt.sendAllToDesk_bears (vs : List Nat) : Bears NoArrival s (s.sendAllToDesk vs msg) :=
  s.foldl_keeps (Bears NoArrival s) _ (fun _ v h => h.trans (ActsAt.sendToDesk (n := v)).bears) vs (Stirs.refl _ s).bears

theorem State.screen_sendAllToDesk_of_not_mem {vs : List Nat} (h : n ∉ vs) : (s.sendAllToDesk vs msg).screen n = s.screen n := by
  induction vs generalizing s with
  | nil => rfl
  | cons v vs ih =>
    exact (ih fun hn => h (List.mem_cons_of_mem _ hn)).trans
      (State.screen_sendToDesk_of_ne fun hn => h (hn ▸ List.mem_cons_self))

/-- Each of the screens that are signed on at a desk stands there, whatever the order and the others. -/
theorem State.place_sendAllToDesk {vs : List Nat} (hd : (s.screen n).desk = some d) (hgrace : (s.screen n).grace.isSome = false)
    (hsent : n ∈ vs ∨ (s.screen n).place = (.desk, some d, none, false, .closed)) :
    ((s.sendAllToDesk vs msg).screen n).place = (.desk, some d, none, false, .closed) := by
  induction vs generalizing s with
  | nil => exact hsent.resolve_left List.not_mem_nil
  | cons v vs ih =>
    by_cases hv : n = v
    · subst hv
      have hplace := State.place_sendToDesk (msg := msg) hd
      rw [hgrace] at hplace
      obtain ⟨-, hdesk', -, hgrace', -⟩ := Screen.place_iff.1 hplace
      exact ih hdesk' hgrace' (Or.inr hplace)
    · have hkept : (s.sendToDesk v msg).screen n = s.screen n := State.screen_sendToDesk_of_ne hv
      rw [← hkept] at hd hgrace hsent
      exact ih hd hgrace (hsent.imp_left fun h => (List.mem_cons.1 h).resolve_left hv)

theorem OutSame.updPage {f : Page → Page} (hf : ∀ g, (f g).state = g.state) : OutSame s (s.updPage p f) := by
  refine ⟨?_, rfl, rfl, rfl, rfl⟩
  refine List.ext_getElem? fun i => ?_
  have hcomp : ∀ o : Option Page, (o.map f).map Page.state = o.map Page.state := fun o => by cases o <;> simp [hf]
  rw [State.updPage, List.getElem?_map, List.getElem?_map, List.getElem?_modify]
  cases s.pages[i]? with
  | none => rfl
  | some o => by_cases hi : p = i <;> simp [hi, hcomp]

theorem Calm.updPage {f : Page → Page} (hf : ∀ g, (f g).state = g.state) : Calm s (s.updPage p f) :=
  ⟨⟨⟨⟨rfl, rfl, rfl, rfl, rfl, rfl⟩, fun _ => .refl _ _, fun _ => .refl _⟩, fun _ => rfl, fun _ => .refl _⟩,
    ⟨rfl, rfl, rfl, rfl, fun _ => rfl⟩, .updPage hf⟩

theorem Calm.unplace (k : Nat) : Calm s (s.unplace k) := by
  unfold State.unplace
  split
  · exact .refl s
  · next p i _ =>
    exact (Calm.updPage (f := Page.emptied i) fun _ => rfl).trans
      (Calm.updStory (f := fun t => { t with placement := none }) (fun _ => rfl) fun _ => rfl)

theorem RoomWide.sendAllToDesk {vs : List Nat} (hs : RoomWide s) : RoomWide (s.sendAllToDesk vs msg) :=
  s.foldl_keeps RoomWide _ (fun _ _ h => h.sendToDesk) vs hs

/-- The screens that viewed a story without an owner are sent to DESK, and no record names them where the story's is erased. -/
theorem Shown.erased (hs : Shown s) (hx : s.story k = some x) (howner : x.owner = none)
    (hstirs : Stirs NoArrival (s.sendAllToDesk x.viewers msg) t) (htie : ∀ j, j ≠ k → t.tie j = s.tie j) (hnone : t.story k = none) :
    Shown t := by
  have hview : ∀ m ∈ x.viewers, (s.screen m).story = some (k, .viewer) := fun m => (hs.viewer_iff (State.tie_eq hx) m).1
  have hsent : ∀ m ∈ x.viewers, ∃ e, ((s.sendAllToDesk x.viewers msg).screen m).place = (.desk, some e, none, false, .closed) :=
    fun m hm => by
      have hagrees := Screen.holds_iff.1 (hs.holds m)
      obtain ⟨e, j, he⟩ := hagrees.place_of_view (hagrees.mode_of_viewer (hview m hm))
      obtain ⟨-, hdesk, -, hgrace, -⟩ := Screen.place_iff.1 he
      exact ⟨e, State.place_sendAllToDesk hdesk hgrace (Or.inl hm)⟩
  have hkept : ∀ m, m ∉ x.viewers → (s.sendAllToDesk x.viewers msg).screen m = s.screen m := fun m =>
    State.screen_sendAllToDesk_of_not_mem
  have hline : ∀ m, (s.sendAllToDesk x.viewers msg).line m = s.line m := fun m =>
    State.line_of_lines (by rw [State.sendAllToDesk_only]) m
  refine ⟨fun m => (hstirs.screen m).holds ?_, fun m => (hstirs.line m).holds (c := (s.sendAllToDesk x.viewers msg).screen m) ?_ ?_ ?_,
    fun m j r => ?_, fun j y hy ho => ?_⟩
  · by_cases hm : m ∈ x.viewers
    · obtain ⟨e, he⟩ := hsent m hm
      exact Screen.holds_of_desk he rfl
    · exact hkept m hm ▸ hs.holds m
  · rw [hline]
    by_cases hm : m ∈ x.viewers
    · obtain ⟨e, he⟩ := hsent m hm
      obtain ⟨hmode, -, hstory, -, -⟩ := Screen.place_iff.1 he
      refine (Line.Follows.refl _).holds (hs.lines m) ?_ fun _ => hstory
      rw [hmode, (Screen.holds_iff.1 (hs.holds m)).mode_of_viewer (hview m hm)]
      decide
    · rw [hkept m hm]
      exact hs.lines m
  · rw [(hstirs.screen m).mode]
  · intro hconfig
    rw [hline] at hconfig
    rw [(hstirs.screen m).story]
    by_cases hm : m ∈ x.viewers
    · obtain ⟨e, he⟩ := hsent m hm
      exact (Screen.place_iff.1 he).2.2.1
    · rw [hkept m hm]
      exact (hs.lines m).2.2.2 hconfig
  · have hshows : t.shows m j r ↔ m ∉ x.viewers ∧ s.shows m j r := by
      rw [State.shows, (hstirs.screen m).story]
      by_cases hm : m ∈ x.viewers
      · obtain ⟨e, he⟩ := hsent m hm
        simp [(Screen.place_iff.1 he).2.2.1, hm]
      · rw [hkept m hm]
        simp [hm, State.shows]
    rw [hshows]
    by_cases hj : j = k
    · subst hj
      refine iff_of_false (fun ⟨hm, hshow⟩ => ?_) fun ⟨y, hy, _⟩ => Option.some_ne_none y (hy.symm.trans hnone)
      have hnames := (State.names_iff (State.tie_eq hx) m r).1 ((hs.names m j r).1 hshow)
      cases r with
      | owner => simp [howner] at hnames
      | viewer => exact hm (by simpa using hnames)
    · rw [State.names_of_tie (htie j hj), ← hs.names m j r]
      refine and_iff_right_of_imp fun hshow hm => hj ?_
      have heq := hshow.symm.trans (hview m hm)
      simp at heq
      exact heq.1
  · have hj : j ≠ k := fun hj => Option.some_ne_none y ((hj ▸ hy).symm.trans hnone)
    obtain ⟨z, hz, heq⟩ := State.tie_eq_some hy (htie j hj)
    rw [← Story.state_of_tie heq]
    exact hs.owned j z hz (by rwa [Story.owner_of_tie heq])

/-- A story that stands in no basket and has no owner is purged with the screens that view it. -/
theorem Keeps.purge (hx : s.story k = some x) (hstate : x.state = .spiked ∨ x.state = .set_) : Keeps s (s.purge k) := by
  have hstored : ¬x.state.stored := by
    rcases hstate with h | h <;> rw [h]
    · exact StoryState.not_stored_spiked
    · exact StoryState.not_stored_set
  rw [State.purge_eq hx]
  refine Keeps.trans ?_ (.forgetFit k)
  have hsent : Still s (s.sendAllToDesk x.viewers (str "PURGED")) := .of_screens (State.sendAllToDesk_only ..)
  have hcalm : Calm (s.sendAllToDesk x.viewers (str "PURGED")) ((s.cleared k x).releaseChain k) :=
    (Calm.unplace k).trans (Stored.releaseChain k).calm
  have hbears : Bears NoArrival s (((s.cleared k x).releaseChain k).setStory k none) :=
    (ActsAt.sendAllToDesk_bears x.viewers).trans (hcalm.room.stirs.trans (.setStory none)).bears
  have hstirs : Stirs NoArrival (s.sendAllToDesk x.viewers (str "PURGED")) (((s.cleared k x).releaseChain k).setStory k none) :=
    hcalm.room.stirs.trans (.setStory none)
  have hheld : ∀ d, ((((s.cleared k x).releaseChain k).setStory k none).held d).Perm (s.held d) := fun d => by
    have hkept : (s.sendAllToDesk x.viewers (str "PURGED")).held d = s.held d :=
      State.held_of_baskets (by rw [State.sendAllToDesk_only]) d
    exact hkept ▸ hcalm.room.held d
  have htie : ∀ j, j ≠ k → (((s.cleared k x).releaseChain k).setStory k none).tie j = s.tie j := fun j hj => by
    rw [State.tie, State.story_setStory_of_ne hj]
    exact (hcalm.room.tie j).trans (hsent.tie j)
  have hnone : RoomHolds s → (((s.cleared k x).releaseChain k).setStory k none).story k = none := fun hs => by
    rw [State.story_setStory, if_pos rfl]
    have hlength := hcalm.room.stirs.sizes.stories
    rw [hlength, State.sendAllToDesk_only]
    exact hs.stories ▸ hs.lt hx
  have hlength : ((s.cleared k x).releaseChain k).stories.length = s.stories.length := by
    rw [hcalm.room.stirs.sizes.stories, State.sendAllToDesk_only]
  refine ⟨.of_parts (A := NoArrival) (fun hs => ?_) (fun _ => hbears) (fun hs => ?_) (fun hs => ?_) fun _ _ d _ _ hj => ?_,
    (hsent.apart.fit.trans hcalm.fit).setStory hlength (by simp), ((hsent.apart.out.trans hcalm.out).trans (.setStory none)).keeps⟩
  · exact (hcalm.room.keeps.wide hs.sendAllToDesk).setStory none (by simp)
  · have hseat : (((s.cleared k x).releaseChain k).setStory k none).seat k = none := by
      rw [State.seat, hnone hs]
      rfl
    refine hs.seated.turn (k := k) (fun j hj => State.seat_of_tie (htie j hj)) (fun d => (hheld d).nodup_iff.2 (hs.seated.nodup d))
      (fun d _ _ => (hheld d).mem_iff) (fun d => iff_of_false ?_ ?_) fun d st hst => by simp [hseat] at hst
    · exact fun hmem => hs.seated.not_mem (State.tie_eq hx) hstored d ((hheld d).mem_iff.1 hmem)
    · rintro ⟨st, hst, -⟩
      simp [hseat] at hst
  · exact hs.shown.erased hx (hs.shown.owner_of_not_open hx fun h => by rcases hstate with h' | h' <;> rw [h'] at h <;> cases h)
      hstirs htie (hnone hs)
  · exact (hheld d).mem_iff.2 (hj.resolve_right id)

/-! ## The stories of a page (R34, R164, R166) -/

theorem StoryState.stored_setting : StoryState.stored .setting := Or.inr rfl

/-- A story whose state changes where it stands. -/
theorem Keeps.stateAt {g : Story → Story} (hx : s.story k = some x)
    (hg : ∀ x, ((g x).version, (g x).style, (g x).head, (g x).fit) = (x.version, x.style, x.head, x.fit))
    (hgx : (g x).tie = (x.desk, (g x).state, x.owner, x.viewers)) (hx' : x.state.stored) (hy : (g x).state.stored) :
    Keeps s (s.updStory k g) := by
  obtain ⟨hdesk, howner, hviewers⟩ : (g x).desk = x.desk ∧ (g x).owner = x.owner ∧ (g x).viewers = x.viewers := by
    simpa [Story.tie] using hgx
  have hturn := Turn.updStory hx hg
  have hstirs : Stirs NoArrival s (s.updStory k g) := .updStory g
  refine hturn.apart.keeps (fun hs => hstirs.wide hs hs.held (hturn.viewers hs (hviewers ▸ id))) (fun _ => hstirs.bears)
    (fun hs => hturn.seated_stay hs.seated hdesk (iff_of_true hy hx') fun _ => .refl _)
    (fun hs => hturn.shown_still hs.shown hstirs howner hviewers fun ho => ?_) fun _ _ _ _ _ hj => hj.resolve_right id
  rw [howner, hs.shown.owner_of_not_open hx fun h => StoryState.not_stored_open (h ▸ hx')] at ho
  cases ho

theorem Keeps.storyReleased : Keeps s (s.storyReleased k) := by
  unfold State.storyReleased
  split
  · exact .refl s
  · next x hx =>
    split
    · next hq =>
      have hset := Keeps.stateAt (g := fun x => { x with state := .setting }) hx (fun _ => rfl) rfl
        (hq ▸ StoryState.stored_queued) StoryState.stored_setting
      exact hset.trans ((Calm.reportDesk x.desk).trans (.touchStory k)).keeps
    · exact .refl s

theorem Keeps.storyBack : Keeps s (s.storyBack k) := by
  unfold State.storyBack
  split
  · exact .refl s
  · next x hx =>
    split
    · next hsetting =>
      have hback := Keeps.stateAt (g := fun x => { x with state := .queued }) hx (fun _ => rfl) rfl
        (hsetting ▸ StoryState.stored_setting) StoryState.stored_queued
      exact hback.trans ((Calm.reportDesk x.desk).trans (.touchStory k)).keeps
    · exact .refl s

/-- A SETTING story leaves its basket as it is set. -/
theorem Keeps.setOut (hx : s.story k = some x) (hstate : x.state = .setting) (e : Nat) :
    Keeps s ((s.leaveBasket k).updStory k (Story.setIn e)) := by
  have hturn : Turn k s ((s.leaveBasket k).updStory k (Story.setIn e)) x (x.setIn e) :=
    (Still.leaveBasket k).turn hx (Turn.updStory (f := Story.setIn e) ((State.story_leaveBasket k k).trans hx) fun _ => rfl)
  have hstirs : Stirs NoArrival s ((s.leaveBasket k).updStory k (Story.setIn e)) := (Stirs.leaveBasket k).trans (.updStory _)
  have hheld : ∀ d, ((s.leaveBasket k).updStory k (Story.setIn e)).held d =
      if d = x.desk then (s.held d).filter (· != k) else s.held d := fun d =>
    (State.held_of_baskets (State.updStory_baskets ..) d).trans (State.held_leaveBasket hx d)
  have hset : (x.setIn e).state = .set_ := by rw [Story.setIn, if_pos hstate]
  have hlength : ∀ d, (((s.leaveBasket k).updStory k (Story.setIn e)).held d).length ≤ (s.held d).length := fun d => by
    rw [hheld]
    split
    · exact List.length_filter_le ..
    · exact le_rfl
  refine hturn.apart.keeps (fun hs => hstirs.wide hs (fun d => (hlength d).trans (hs.held d)) (hturn.viewers hs id))
    (fun _ => hstirs.bears) (fun hs => hturn.seated_depart hs.seated (hset ▸ StoryState.not_stored_set) rfl hheld)
    (fun hs => hturn.shown_still hs.shown hstirs rfl rfl fun ho => ?_) fun _ m d j hring hj => ?_
  · have ho' : x.owner.isSome = true := ho
    rw [hs.shown.owner_of_not_open hx (by rw [hstate]; decide)] at ho'
    cases ho'
  · have hjk : j ≠ k := fun hjk => State.not_mem_ring_leaveBasket hx m (hjk ▸ hring)
    rw [hheld]
    split
    · simpa [hjk] using hj.resolve_right id
    · exact hj.resolve_right id

theorem Keeps.storySet : Keeps s (s.storySet k) := by
  cases hx : s.story k with
  | none =>
    rw [State.storySet_of_none hx]
    exact .refl s
  | some x =>
    rw [State.storySet_of_some hx]
    refine Keeps.trans ?_ (Calm.touchStory k).keeps
    unfold State.beforeSet
    split
    · next hstate => exact .setOut hx hstate _
    · next hstate =>
      have hcalm : Calm s (s.updStory k fun x => { x with setEdition := some s.edition.number }) :=
        .updStory (fun _ => rfl) fun _ => rfl
      rw [State.updStory_congr (g := fun x => { x with setEdition := some s.edition.number }) hx
        (by rw [Story.setIn, if_neg hstate])]
      exact hcalm.keeps

end

end Sys2Proof.Machine
end

section
/-! SUPPORT. Stories filed as a grace ends, sign-ons, and lines that come up, are restarted and die keep the limits invariants (R31, R126,
R141 to R154). -/

namespace Sys2Proof.Machine

section
variable {A : Nat → Nat → Prop} {s t u v : State} {n k d p : Nat} {x y z : Story} {c : LineConfig}

/-! ## A story filed or orphaned (R31) -/

/-- Story k, at desk d, is filed there as the arrival A, or goes on standing in no basket. -/
structure Filed (A : Nat → Nat → Prop) (k : Nat) (s t : State) (x y : Story) : Prop extends Turn k s t x y where
  owner : y.owner = none
  viewers : y.viewers = x.viewers
  desk : y.desk = x.desk
  held : (y.state.stored ∧ (s.held x.desk).length < 64 ∧ A = Arrival x.desk k ∧
      ∀ d, (t.held d).Perm (if d = x.desk ∧ x.desk < s.baskets.length then k :: s.held d else s.held d)) ∨
    (y.state = x.state ∧ A = NoArrival ∧ ∀ d, (t.held d).Perm (s.held d))

theorem State.autoFile_filed (hx : s.story k = some x) : ∃ A y, Filed A k s (s.autoFile k) x y ∧ Stirs A s (s.autoFile k) := by
  rw [State.autoFile, hx]
  dsimp only
  split
  · next hroom =>
    have harriving := Arriving.toQueued hx none
    exact ⟨_, _, ⟨harriving.toTurn, rfl, rfl, rfl, Or.inl ⟨StoryState.stored_queued, State.roomAt_held hroom, rfl, harriving.held⟩⟩,
      Stirs.toQueued hx none⟩
  · have hcalm : Calm (s.updStory k fun x => { x with owner := none })
        ((((s.updStory k fun x => { x with owner := none }).raise .storyOrphaned).reportDesk x.desk).touchStory k) :=
      ((Calm.raise _).trans (.reportDesk _)).trans (.touchStory k)
    have hturn : Turn k s (s.updStory k Story.disowned) x x.disowned := Turn.updStory hx fun _ => rfl
    exact ⟨NoArrival, _, ⟨hturn.still hcalm.still, rfl, rfl, rfl, Or.inr ⟨rfl, rfl, fun d => hcalm.room.held d⟩⟩,
      (Stirs.updStory _).trans hcalm.room.stirs⟩

theorem Filed.still (h : Filed A k s t x y) (hstill : Still t u) (hbaskets : u.baskets = t.baskets) : Filed A k s u x y :=
  ⟨h.toTurn.still hstill, h.owner, h.viewers, h.desk, by
    simp only [State.held_of_baskets hbaskets]
    exact h.held⟩

theorem Filed.of_still (h : Filed A k v t x y) (hstill : Still s v) (hbaskets : v.baskets = s.baskets) (hx : s.story k = some x) :
    Filed A k s t x y :=
  ⟨hstill.turn hx h.toTurn, h.owner, h.viewers, h.desk, by
    simp only [← hbaskets, ← State.held_of_baskets hbaskets]
    exact h.held⟩

theorem Filed.length (h : Filed A k s t x y) (hs : RoomWide s) (d : Nat) : (t.held d).length ≤ 64 := by
  rcases h.held with ⟨-, hroom, -, hheld⟩ | ⟨-, -, hheld⟩
  · rw [(hheld d).length_eq]
    split
    · next hd => exact hd.1 ▸ hroom
    · exact hs.held d
  · rw [(hheld d).length_eq]
    exact hs.held d

theorem Filed.wide (h : Filed A k s t x y) (hbears : Bears A s t) (hs : RoomWide s) : RoomWide t :=
  hbears.wide hs (h.length hs) (h.toTurn.viewers hs (h.viewers ▸ id))

theorem Filed.seated (h : Filed A k s t x y) (hs : Seated s) (hbaskets : s.baskets.length = 16) (hx : ¬x.state.stored) : Seated t := by
  have hdesk := hs.desk k x.desk x.state (State.seat_eq h.tie)
  rcases h.held with ⟨hstored, -, -, hheld⟩ | ⟨hstate, -, hheld⟩
  · refine h.seated_arrive hs hx hstored (h.desk ▸ hdesk) fun d => ?_
    have hlt : x.desk < s.baskets.length := hbaskets ▸ hdesk
    have hperm := hheld d
    rw [h.desk]
    simpa [hlt] using hperm
  · exact h.seated_stay hs h.desk (by rw [hstate]) hheld

theorem Filed.mem (h : Filed A k s t x y) (hs : Seated s) (hbaskets : s.baskets.length = 16) (d m : Nat)
    (hm : m ∈ s.held d ∨ A d m) : m ∈ t.held d := by
  rcases h.held with ⟨-, -, rfl, hheld⟩ | ⟨-, rfl, hheld⟩
  · have hlt : x.desk < s.baskets.length := hbaskets ▸ hs.desk k x.desk x.state (State.seat_eq h.tie)
    rw [(hheld d).mem_iff]
    rcases hm with hm | ⟨rfl, rfl⟩
    · split
      · exact List.mem_cons_of_mem _ hm
      · exact hm
    · rw [if_pos ⟨rfl, hlt⟩]
      exact List.mem_cons_self
  · exact (hheld d).mem_iff.2 (hm.resolve_right id)

/-- A story that screen n leaves is filed or orphaned. -/
theorem Filed.keeps (h : Filed A k s t x y) (hs : RoomHolds s) (hacts : ActsOn A n s t) (hstory : (s.screen n).story = some (k, .owner))
    (hnone : (t.screen n).story = none) (hholds : (t.screen n).holds) (hline : (t.line n).holds (t.screen n)) : Keeps s t := by
  have howner := (hs.shown.owner_iff h.tie n).2 hstory
  have hopen : x.state = .open_ := hs.shown.owned k x h.before (by rw [howner]; rfl)
  have hstored : ¬x.state.stored := hopen ▸ StoryState.not_stored_open
  exact h.apart.keeps (h.wide hacts.bears) (fun _ => hacts.bears) (fun _ => h.seated hs.seated hs.baskets hstored)
    (fun _ => h.shown_disown hs.shown hacts hstory hnone h.owner h.viewers hholds hline)
    fun _ _ d m _ => h.mem hs.seated hs.baskets d m

theorem RoomWide.autoFile (hs : RoomWide s) : RoomWide (s.autoFile k) := by
  cases hx : s.story k with
  | none =>
    rw [State.autoFile, hx]
    exact hs
  | some x =>
    obtain ⟨A, y, hfiled, hstirs⟩ := State.autoFile_filed hx
    exact hfiled.wide hstirs.bears hs

theorem Apart.autoFile (k : Nat) : Apart s (s.autoFile k) := by
  cases hx : s.story k with
  | none =>
    rw [State.autoFile, hx]
    exact .refl s
  | some x =>
    obtain ⟨A, y, hfiled, -⟩ := State.autoFile_filed hx
    exact hfiled.apart

/-! ## A grace that ends (R153) -/

theorem RoomWide.autoFileOf (hs : RoomWide s) (o : Option Nat) : RoomWide (s.autoFileOf o) := by
  cases o with
  | none => exact hs
  | some k => exact hs.autoFile

theorem Apart.autoFileOf (o : Option Nat) : Apart s (s.autoFileOf o) := by
  cases o with
  | none => exact .refl s
  | some k => exact .autoFile k

theorem RoomWide.graceExpires (hs : RoomWide s) : RoomWide (s.graceExpires n) := (hs.autoFileOf _).updScreen fun _ hc => hc

theorem Apart.graceExpires : Apart s (s.graceExpires n) := (Apart.autoFileOf _).trans (.of_tables rfl)

theorem Screen.owned_of_owner {c : Screen} (h : c.story = some (k, .owner)) : c.owned = some k := by rw [Screen.owned, h]

/-- The story of a screen under a grace, in agreement. -/
theorem Screen.Agrees.story_of_grace {c : Screen} (h : c.Agrees) (hgrace : c.grace.isSome = true) : ∃ k, c.story = some (k, .owner) := by
  obtain ⟨⟨k, r⟩, hstory, hr⟩ := Option.map_eq_some_iff.1 (h.grace hgrace).2
  exact ⟨k, by rw [hstory, show r = .owner from hr]⟩

theorem State.task_autoFileOf (o : Option Nat) (m : Nat) : ((s.autoFileOf o).screen m).task = (s.screen m).task := by
  cases o with
  | none => rfl
  | some k => exact State.task_autoFile k m

theorem State.length_screens_autoFileOf (o : Option Nat) : (s.autoFileOf o).screens.length = s.screens.length := by
  cases o with
  | none => rfl
  | some k =>
    cases hx : s.story k with
    | none => rw [State.autoFileOf, State.autoFile, hx]
    | some x =>
      obtain ⟨A, y, -, hstirs⟩ := State.autoFile_filed hx
      exact hstirs.sizes.screens

theorem State.place_graceExpires (hin : n < s.screens.length) : ((s.graceExpires n).screen n).place =
    ((s.screen n).mode, none, none, false, (s.screen n).prompt) := by
  have htask := Screen.place_iff.1 (Screen.place_of_task (State.task_autoFileOf (s := s) (s.screen n).owned n))
  obtain ⟨hmode, -, -, -, hprompt⟩ := htask
  rw [State.graceExpires, State.place_updScreen (by rwa [State.length_screens_autoFileOf]), ← hmode, ← hprompt]
  rfl

theorem Keeps.graceExpires (hgrace : (s.screen n).grace.isSome = true) : Keeps s (s.graceExpires n) := by
  refine Apart.graceExpires.keeps_of RoomWide.graceExpires fun hs => ?_
  have hagrees := Screen.holds_iff.1 (hs.shown.holds n)
  obtain ⟨k, hstory⟩ := hagrees.story_of_grace hgrace
  obtain ⟨x, hx, -⟩ := (hs.shown.names n k .owner).1 hstory
  obtain ⟨A, y, hfiled, hstirs⟩ := State.autoFile_filed hx
  have hin : n < s.screens.length := State.lt_of_screen_ne fun hreset => by
    rw [hreset] at hgrace
    cases hgrace
  have hplace := State.place_graceExpires hin
  have heq : s.graceExpires n = (s.autoFile k).updScreen n Screen.dropGrace := by
    rw [State.graceExpires, Screen.owned_of_owner hstory]
    rfl
  obtain ⟨hmode, -, hnone, -, -⟩ := Screen.place_iff.1 hplace
  have hoff : ((s.autoFile k).screen n).signedOn = false := by
    rw [Screen.signedOn_of_mode (Screen.place_iff.1 (Screen.place_of_task (State.task_autoFile k n))).1]
    exact State.signedOn_of_grace hagrees hgrace
  have hacts : ActsAt A n s (s.graceExpires n) := by
    rw [heq]
    exact (hstirs.acts n).trans (.dropGrace hoff)
  have hfiled' : Filed A k s (s.graceExpires n) x y := by
    rw [heq]
    exact hfiled.still (.updScreen ..) rfl
  exact hfiled'.keeps hs hacts.toActsOn hstory hnone (Screen.holds_of_away hplace (hagrees.grace hgrace).1 hagrees.asks)
    (hacts.own.holds (hs.shown.lines n) (by rw [hmode]) fun _ => hnone)

/-! ## Sign-on (R126, R152) -/

/-- A screen acts at its own line without changing the story that it holds. -/
theorem Keeps.placed (hapart : Still s t) (hbaskets : t.baskets = s.baskets) (hwide : RoomWide s → RoomWide t)
    (hat : RoomHolds s → ActsOn NoArrival n s t ∧ (t.screen n).story = (s.screen n).story ∧ (t.screen n).holds ∧
      (t.line n).holds (t.screen n)) : Keeps s t := by
  have hheld := State.held_of_baskets hbaskets
  refine hapart.apart.keeps hwide (fun hs => (hat hs).1.bears)
    (fun hs => hs.seated.of_same (fun j => State.seat_of_tie (hapart.tie j)) fun d => by rw [hheld]) (fun hs => ?_)
    fun _ _ d _ _ hj => ?_
  · obtain ⟨hacts, hstory, hholds, hline⟩ := hat hs
    exact hs.shown.act_same hacts hapart.tie hstory hholds hline
  · rw [hheld]
    exact hj.resolve_right id

theorem State.enterDeskFresh_eq (n d : Nat) : s.enterDeskFresh n d = s.updScreen n fun c => ({ c.dropStory with
    mode := .desk, desk := some d, basketTop := 0
    selection := (s.basketView d).head?.map fun x => (x, 0) } : Screen).repaint s.clock.time := by
  rw [State.enterDeskFresh, State.enterDesk]
  simp only [State.updScreen, List.modify_modify_eq]
  rfl

theorem RoomWide.enterDeskFresh (hs : RoomWide s) : RoomWide (s.enterDeskFresh n d) := by
  rw [State.enterDeskFresh_eq]
  exact hs.updScreen fun _ hc => hc

theorem Still.enterDeskFresh (n d : Nat) : Still s (s.enterDeskFresh n d) := by
  rw [State.enterDeskFresh_eq]
  exact .updScreen ..

theorem Keeps.enterDeskFresh (hmode : (s.screen n).mode = .signedOff) (hgrace : (s.screen n).grace.isSome = false)
    (hprompt : (s.screen n).prompt = .closed) (d : Nat) : Keeps s (s.enterDeskFresh n d) := by
  have hoff : (s.screen n).signedOn = false := by rw [Screen.signedOn, hmode]
  have hplace : ((s.enterDeskFresh n d).screen n).place = (.desk, some d, none, false, .closed) := by
    rw [State.enterDeskFresh_eq, State.place_updScreen (State.lt_of_mode (by rw [hmode]; decide)), ← hgrace, ← hprompt]
    rfl
  obtain ⟨hdesk, -, hnone, -, -⟩ := Screen.place_iff.1 hplace
  have hacts : ActsAt NoArrival n s (s.enterDeskFresh n d) := by
    rw [State.enterDeskFresh_eq]
    exact .updScreen (.of_place id id id rfl fun _ hon => absurd hon (by rw [hoff]; decide))
  refine .placed (n := n) (.enterDeskFresh n d) (by rw [State.enterDeskFresh_eq]; rfl) RoomWide.enterDeskFresh fun hs => ?_
  have hstory : (s.screen n).story = none := by
    by_contra hne
    have hagrees := Screen.holds_iff.1 (hs.shown.holds n)
    rw [hagrees.away (Or.inr hmode) (Option.isSome_iff_ne_none.2 hne)] at hgrace
    cases hgrace
  exact ⟨hacts.toActsOn, hnone.trans hstory.symm, Screen.holds_of_desk hplace rfl,
    hs.shown.line_of_up hacts (by rw [hmode]; decide) (by rw [hdesk]; decide)⟩

theorem place_snapTop (s : State) (c : Screen) : (snapTop s c).place = c.place := by
  rw [snapTop_only]
  rfl

theorem Keeps.resume (hat : RoomHolds s → (s.screen n).mode = .signedOff ∧ (s.screen n).prompt = .closed)
    (hgrace : (s.screen n).grace.isSome = true) (hdesk : (s.screen n).desk = some d) : Keeps s (s.resume n) := by
  have hwide : RoomWide s → RoomWide (s.resume n) := fun hs => hs.updScreen fun c hc => by
    rw [snapTop_only]
    exact hc
  refine .placed (n := n) (.updScreen ..) rfl hwide fun hs => ?_
  obtain ⟨hmode, hprompt⟩ := hat hs
  have hagrees := Screen.holds_iff.1 (hs.shown.holds n)
  obtain ⟨k, hstory⟩ := hagrees.story_of_grace hgrace
  have hoff : (s.screen n).signedOn = false := by rw [Screen.signedOn, hmode]
  have hplace : ((s.resume n).screen n).place = (.edit, some d, some (k, .owner), false, .closed) := by
    rw [State.resume, State.place_updScreen (State.lt_of_desk hdesk), ← hdesk, ← hstory, ← hprompt]
    exact place_snapTop s { s.screen n with grace := none, mode := .edit, setView := false }
  have hacts : ActsAt NoArrival n s (s.resume n) := .updScreen (.of_place (by rw [snapTop_only]; exact id) (by rw [snapTop_only]; exact id)
    (by rw [snapTop_only]; exact id) (by rw [snapTop_only]; rfl) fun _ hon => absurd hon (by rw [hoff]; decide))
  obtain ⟨hedit, -, hshows, -, -⟩ := Screen.place_iff.1 hplace
  exact ⟨hacts.toActsOn, hshows.trans hstory.symm, Screen.holds_of_edit hplace rfl,
    hs.shown.line_of_up hacts (by rw [hmode]; decide) (by rw [hedit]; decide)⟩

theorem Keeps.letIn (hat : RoomHolds s → (s.screen n).mode = .signedOff ∧ (s.screen n).prompt = .closed) (d : Nat) :
    Keeps s (s.letIn n d) := by
  unfold State.letIn
  dsimp only
  split
  · next hgrace =>
    have hgrace' : (s.screen n).grace.isSome = false := by simpa using hgrace
    exact (Still.enterDeskFresh n d).apart.keeps_of RoomWide.enterDeskFresh fun hs =>
      .enterDeskFresh (hat hs).1 hgrace' (hat hs).2 d
  · next hgrace =>
    have hgrace' : (s.screen n).grace.isSome = true := by simpa [Option.isSome_iff_ne_none] using hgrace
    split
    · next hdesk => exact .resume hat hgrace' hdesk
    · refine (Apart.graceExpires.trans (Still.enterDeskFresh n d).apart).keeps_of
        (fun hs => hs.graceExpires.enterDeskFresh) fun hs => (Keeps.graceExpires hgrace').trans ?_
      obtain ⟨hmode, hprompt⟩ := hat hs
      obtain ⟨hmode', -, -, hgrace'', hprompt'⟩ :=
        Screen.place_iff.1 (State.place_graceExpires (State.lt_of_mode (by rw [hmode]; decide)))
      exact .enterDeskFresh (hmode'.trans hmode) hgrace'' (hprompt'.trans hprompt) d

theorem Keeps.signOn {buffer : List Byte} (hat : RoomHolds s → (s.screen n).mode = .signedOff ∧ (s.screen n).prompt = .closed) :
    Keeps s (s.signOn n buffer) := by
  unfold State.signOn
  dsimp only
  split
  · exact .letIn hat _
  · exact (Calm.deny n _).keeps

end

end Sys2Proof.Machine
end

section
/-! SUPPORT. Lines that come up, are configured, restarted and die keep the limits invariants (R142 to R154). -/

namespace Sys2Proof.Machine

section
variable {A : Nat → Nat → Prop} {s t u v : State} {n k d p : Nat} {x y z : Story} {c : LineConfig}

/-! ## One line changed -/

theorem State.line_updLine_eq (f : Line → Line) (m : Nat) :
    (s.updLine n f).line m = if m = n ∧ n < s.lines.length then f (s.line n) else s.line m := by
  by_cases hm : m = n
  · subst hm
    by_cases hin : m < s.lines.length
    · rw [State.line_updLine _ _ _ hin, if_pos ⟨rfl, hin⟩]
    · rw [if_neg fun h => hin h.2]
      simp [State.line, State.updLine, List.getD_eq_getElem?_getD, hin]
  · rw [State.line_updLine_of_ne _ _ _ _ hm, if_neg fun h => hm h.1]

theorem ActsOn.updLine {f : Line → Line} (h : (s.line n).queue.length ≤ 8 → (f (s.line n)).queue.length ≤ 8) :
    ActsOn A n s (s.updLine n f) := by
  refine ⟨⟨{ SameSizes.refl s with lines := List.length_modify .. }, fun m hm => ?_, fun _ => .refl _ _⟩, fun m hm => ?_,
    fun _ _ => .refl _ _⟩
  · rw [State.line_updLine_eq]
    split
    · next hmn => exact h (hmn.1 ▸ hm)
    · exact hm
  · rw [State.line_updLine_of_ne _ _ _ _ hm]
    exact .refl _

theorem RoomWide.updLine {f : Line → Line} (hs : RoomWide s) (h : (s.line n).queue.length ≤ 8 → (f (s.line n)).queue.length ≤ 8) :
    RoomWide (s.updLine n f) :=
  (ActsOn.updLine (A := NoArrival) h).bears.wide hs hs.held hs.viewers

theorem Still.updLine (f : Line → Line) : Still s (s.updLine n f) := ⟨.of_tables rfl, fun _ => rfl⟩

/-! ## A line that comes UP (R142, R154) -/

theorem Screen.Agrees.signedOff {c e : Screen} (h : c.Agrees) (hmode : c.mode = .down)
    (hplace : e.place = (.signedOff, c.desk, c.story, c.grace.isSome, c.prompt)) : e.holds := by
  have hprompt : c.prompt = .closed := by
    have hasks := h.asks
    rw [hmode] at hasks
    cases hp : c.prompt <;> simp [Mode.asks, hp] at hasks ⊢
  rw [hprompt] at hplace
  cases hgrace : c.grace.isSome with
  | true =>
    obtain ⟨k, hstory⟩ := h.story_of_grace hgrace
    rw [hstory, hgrace] at hplace
    exact Screen.holds_of_grace hplace (Or.inr rfl) rfl
  | false =>
    have hstory : c.story = none := by
      by_contra hne
      rw [h.away (Or.inl hmode) (Option.isSome_iff_ne_none.2 hne)] at hgrace
      cases hgrace
    rw [hstory, hgrace] at hplace
    exact Screen.holds_of_away hplace (Or.inr rfl) rfl

theorem State.place_comeUp (hin : n < s.screens.length) : ((s.comeUp n).screen n).place =
    (.signedOff, (s.screen n).desk, (s.screen n).story, (s.screen n).grace.isSome, (s.screen n).prompt) := by
  rw [State.comeUp, State.place_updScreen hin]
  rfl

theorem ActsAt.comeUp (h : (s.screen n).signedOn = false) : ActsAt A n s (s.comeUp n) :=
  .updScreen (.of_place id id id rfl fun _ hon => absurd hon (by rw [h]; decide))

theorem RoomWide.comeUp (hs : RoomWide s) : RoomWide (s.comeUp n) := hs.updScreen fun _ hc => hc

/-- A line changed to UP whose screen was DOWN comes up with it. -/
theorem Keeps.comesUp {f : Line → Line} (hqueue : (s.line n).queue.length ≤ 8 → (f (s.line n)).queue.length ≤ 8)
    (hconfig : (f (s.line n)).config ≠ none) (hstate : (f (s.line n)).state = .up)
    (hat : RoomHolds s → (s.screen n).mode = .down ∧ n < 32) : Keeps s ((s.updLine n f).comeUp n) := by
  refine .placed (n := n) ((Still.updLine f).trans (.updScreen ..)) rfl (fun hs => (hs.updLine hqueue).comeUp) fun hs => ?_
  obtain ⟨hmode, hn⟩ := hat hs
  have hagrees := Screen.holds_iff.1 (hs.shown.holds n)
  have hin : n < (s.updLine n f).screens.length := hs.screens ▸ hn
  have hoff : ((s.updLine n f).screen n).signedOn = false := by
    have hsame : (s.updLine n f).screen n = s.screen n := rfl
    rw [hsame, Screen.signedOn, hmode]
  have hplace := State.place_comeUp hin
  obtain ⟨hup, -, hstory, -, -⟩ := Screen.place_iff.1 hplace
  refine ⟨(ActsOn.updLine hqueue).trans (ActsAt.comeUp hoff).toActsOn, hstory, hagrees.signedOff hmode hplace, ?_⟩
  have hline : ((s.updLine n f).comeUp n).line n = f (s.line n) := State.line_updLine _ _ _ (hs.lines ▸ hn)
  rw [hline]
  refine ⟨⟨fun h => absurd h hconfig, fun h => ?_⟩, ⟨fun _ => by rw [hup]; decide, fun _ => hstate⟩, fun _ => hstate,
    fun h => absurd h hconfig⟩
  rw [hstate] at h
  cases h

theorem Keeps.lineBack (hstate : (s.line n).state = .dead) : Keeps s (s.lineBack n) := by
  refine .of_holds (fun hs => (hs.updLine id).comeUp) (fun hs => ⟨hs.faces, hs.quiet⟩) (OutSame.keeps ⟨rfl, rfl, rfl, rfl, rfl⟩) fun hs => ?_
  obtain ⟨hoff, hup, -, -⟩ := hs.shown.lines n
  refine .comesUp (f := fun l => { l with state := .up }) id (fun hc => ?_) rfl fun hs => ⟨?_, ?_⟩
  · have hnone : (s.line n).config = none := hc
    rw [hoff.1 hnone] at hstate
    cases hstate
  · by_contra hmode
    rw [hup.2 hmode] at hstate
    cases hstate
  · by_contra hn
    have hreset : s.line n = .reset := by
      rw [State.line, List.getD_eq_getElem?_getD, List.getElem?_eq_none (by rw [hs.lines]; omega)]
      rfl
    rw [hreset] at hstate
    cases hstate

/-! ## LINE_CONFIGURE (R142 to R144) -/

theorem Keeps.risenLine (hconfig : (s.line n).config = none) (hn : n < 32) :
    Keeps s ((s.updLine n fun l => l.restart c).comeUp n) := by
  refine .comesUp (fun _ => Nat.zero_le _) (fun h => Option.some_ne_none c h) rfl fun hs => ⟨?_, hn⟩
  obtain ⟨hoff, hup, -, -⟩ := hs.shown.lines n
  by_contra hmode
  have hstate := hup.2 hmode
  rw [hoff.1 hconfig] at hstate
  cases hstate

theorem Calm.storeLine {old : LineConfig} (hold : (s.line n).config = some old) : Calm s (s.storeLine n old c) := by
  have hconfig : Calm s (s.updLine n fun l => { l with config := some c }) := by
    refine .updLine ⟨?_, rfl, Or.inl, id⟩
    rw [hold]
    exact iff_of_false (Option.some_ne_none _) (Option.some_ne_none _)
  unfold State.storeLine
  dsimp only
  have hprofile : Calm s (if old.profile ≠ c.profile then (s.updLine n fun l => { l with config := some c }).reprofile n
      else s.updLine n fun l => { l with config := some c }) := by
    split
    · exact hconfig.trans (.reprofile n)
    · exact hconfig
  split
  · have hidle : ∀ e : Screen, e.Follows NoArrival (if e.laidOut then { e with idle := loadIdle c.idleLimit } else e) := fun e => by
      split
      · exact .of_core rfl
      · exact .refl _ _
    exact hprofile.trans (.updScreen (hidle _))
  · exact hprofile

theorem RoomWide.restartLine (hs : RoomWide s) : RoomWide (s.restartLine n c) :=
  (((hs.updLine (f := fun l => l.restart c) fun _ => Nat.zero_le _).stopViewing).updScreen
    (f := fun _ => Screen.reset) fun _ _ => ⟨by decide, by decide⟩).comeUp

theorem Still.restartLine : Still (s.stopViewing n) (s.restartLine n c) := by
  have hstories : (s.restartLine n c).stories = (s.stopViewing n).stories := by rw [State.restartLine_only]
  refine ⟨.of_tables ?_, fun j => by rw [State.tie, State.tie, State.story, State.story, hstories]⟩
  rw [State.restartLine_only, State.stopViewing_only]
  rfl

theorem State.baskets_restartLine : (s.restartLine n c).baskets = s.baskets := by
  rw [State.restartLine_only]
  rfl

theorem ActsOn.restartLine : ActsOn A n s (s.restartLine n c) := by
  have hline : ActsOn A n s (s.updLine n fun l => l.restart c) := .updLine fun _ => Nat.zero_le _
  have hviewing : ActsOn A n s ((s.updLine n fun l => l.restart c).stopViewing n) := hline.trans ((Stirs.stopViewing n).acts n).toActsOn
  have hempty : ∀ (w : State) (g : Screen → Screen), (g (w.screen n)).bells = 0 → (g (w.screen n)).escape = 0 →
      (g (w.screen n)).buffer = [] → (g (w.screen n)).ring = [] → ActsOn A n w (w.updScreen n g) := fun w g hb he hbuf hring =>
    (ActsAt.updScreen (.of_empty (fun _ => by rw [hb]; exact Nat.zero_le _) (fun _ => by rw [he]; exact Nat.zero_le _)
      (fun _ => by rw [hbuf]; exact Nat.zero_le _) hring)).toActsOn
  have hreset := hviewing.trans (hempty _ (fun _ => Screen.reset) rfl rfl rfl rfl)
  have hfirst : ∀ w : State, ((w.updScreen n fun _ => Screen.reset).comeUp n) =
      w.updScreen n fun _ => Screen.repaint w.clock.time ({ (w.updScreen n fun _ => Screen.reset).adopt n Screen.reset with
        mode := .signedOff, blanked := false, idle := loadIdle ((w.updScreen n fun _ => Screen.reset).idleLimit n) }) := fun w => by
    rw [State.comeUp]
    simp only [State.updScreen, List.modify_modify_eq]
    rfl
  rw [State.restartLine, hfirst]
  exact hviewing.trans (hempty _ _ rfl rfl rfl rfl)

theorem State.place_restartLine (hline : n < s.lines.length) (hscreen : n < s.screens.length) :
    ((s.restartLine n c).screen n).place = (.signedOff, none, none, false, .closed) := by
  rw [State.screen_restartLine hline hscreen]
  rfl

theorem Line.holds_restart {l : Line} {e : Screen} (h : e.mode ≠ .down) : (l.restart c).holds e :=
  ⟨⟨fun hc => absurd hc (Option.some_ne_none c), nofun⟩, ⟨fun _ => h, fun _ => rfl⟩, fun _ => rfl,
    fun hc => absurd hc (Option.some_ne_none c)⟩

theorem RoomWide.restart (hs : RoomWide s) : RoomWide (s.restart n c) := hs.restartLine.autoFileOf _

theorem Apart.restart : Apart s (s.restart n c) := ((Apart.stopViewing n).trans Still.restartLine.apart).trans (.autoFileOf _)

theorem Keeps.restart (hn : n < 32) : Keeps s (s.restart n c) := by
  refine Apart.restart.keeps_of RoomWide.restart fun hs => ?_
  have hline : n < s.lines.length := hs.lines ▸ hn
  have hplace := State.place_restartLine (c := c) hline (hs.screens ▸ hn)
  obtain ⟨hmode, -, hnone, -, -⟩ := Screen.place_iff.1 hplace
  have hholds := Screen.holds_of_away hplace (Or.inr rfl) rfl
  have hlineHolds : ((s.restartLine n c).line n).holds ((s.restartLine n c).screen n) := by
    rw [State.line_restartLine hline]
    exact Line.holds_restart (by rw [hmode]; decide)
  cases hstory : (s.screen n).story with
  | none =>
    rw [State.restart_of_none hstory]
    exact .leaves .restartLine State.baskets_restartLine ActsOn.restartLine fun _ => ⟨by simp [hstory], hnone, hholds, hlineHolds⟩
  | some q =>
    obtain ⟨k, r⟩ := q
    cases r with
    | viewer =>
      rw [State.restart_of_viewer hstory]
      exact .leaves .restartLine State.baskets_restartLine ActsOn.restartLine fun _ => ⟨by simp [hstory], hnone, hholds, hlineHolds⟩
    | owner =>
      obtain ⟨x, hx, -⟩ := (hs.shown.names n k .owner).1 hstory
      have hstop : s.stopViewing n = s := State.stopViewing_of_not_viewer fun j hj => by simp [hstory] at hj
      have hstill : Still s (s.restartLine n c) := by
        have h := Still.restartLine (s := s) (n := n) (c := c)
        rwa [hstop] at h
      have hx' : (s.restartLine n c).story k = some x := by
        rw [State.story_restartLine, hstop]
        exact hx
      have heq : s.restart n c = (s.restartLine n c).autoFile k := by
        rw [State.restart, Screen.owned_of_owner hstory]
        rfl
      obtain ⟨A, y, hfiled, hstirs⟩ := State.autoFile_filed hx'
      rw [heq]
      have hacts : ActsOn A n s ((s.restartLine n c).autoFile k) := ActsOn.restartLine.trans (hstirs.acts n).toActsOn
      have hscreen := hstirs.screen n
      exact (hfiled.of_still hstill State.baskets_restartLine hx).keeps hs hacts hstory (hscreen.story.trans hnone)
        (hscreen.holds hholds) ((hstirs.line n).holds hlineHolds (by rw [hscreen.mode]) fun _ => hscreen.story.trans hnone)

theorem Keeps.configureLine (h : s.configureLine n c = some t) (hn : n < 32) : Keeps s t := by
  unfold State.configureLine at h
  split at h
  · next hconfig =>
    cases h
    exact .risenLine hconfig hn
  · next old hold =>
    split_ifs at h
    · cases h
      exact .restart hn
    · cases h
      exact (Calm.storeLine hold).keeps

end

end Sys2Proof.Machine
end

section
/-! SUPPORT. Lines that die, frames and keys received, and the screens reset keep the limits invariants (R119, R146 to R151, R156). -/

namespace Sys2Proof.Machine

section
variable {A : Nat → Nat → Prop} {s t u v : State} {n k d p : Nat} {x y z : Story} {c : LineConfig}

/-! ## A line that dies (R150) -/

theorem Screen.place_of_core {a b : Screen} (h : b.core = a.core) : b.place = a.place := by
  obtain ⟨hmode, hdesk, hstory, hgrace, hprompt, -⟩ :
      b.mode = a.mode ∧ b.desk = a.desk ∧ b.story = a.story ∧ b.grace.isSome = a.grace.isSome ∧ b.prompt = a.prompt ∧
        b.bells = a.bells ∧ b.escape = a.escape ∧ b.buffer = a.buffer ∧ b.ring = a.ring := by
    simpa [Screen.core] using h
  rw [Screen.place, Screen.place, hmode, hdesk, hstory, hgrace, hprompt]

/-- A screen whose line dies, with the grace that its line gives. -/
def Screen.died (s : State) (grace : Nat) (c : Screen) : Screen :=
  let d := (dropToType s c).goDown
  if c.mode = .edit then { d with grace := some grace }
  else if c.grace.isSome then d
  else { d.dropStory with desk := none }

theorem State.screenDown_eq (n : Nat) : s.screenDown n =
    (s.stopViewing n).updScreen n (Screen.died s (((s.line n).config.map LineConfig.grace).getD 0)) := rfl

theorem Screen.bears_died (s : State) (grace : Nat) (c : Screen) : c.Bears A (c.died s grace) := by
  have hfields : (c.died s grace).bells = 0 ∧ (c.died s grace).escape = 0 ∧ (c.died s grace).buffer = [] ∧ (c.died s grace).ring = [] := by
    unfold Screen.died
    generalize dropToType s c = e
    dsimp only
    split_ifs <;> exact ⟨rfl, rfl, rfl, rfl⟩
  obtain ⟨hbells, hescape, hbuffer, hring⟩ := hfields
  exact .of_empty (fun _ => by rw [hbells]; exact Nat.zero_le _) (fun _ => by rw [hescape]; exact Nat.zero_le _)
    (fun _ => by rw [hbuffer]; exact Nat.zero_le _) hring

theorem Screen.place_died_of_owner {c : Screen} (s : State) (grace : Nat) (h : c.mode = .edit ∨ c.grace.isSome = true) :
    (c.died s grace).place = (.down, c.desk, c.story, true, .closed) := by
  obtain ⟨-, hdesk, hstory, hgrace, -⟩ := Screen.place_iff.1 (Screen.place_of_core (core_dropToType s c))
  rw [← hdesk, ← hstory]
  unfold Screen.died
  generalize dropToType s c = e at hgrace ⊢
  dsimp only
  split_ifs with hedit hg
  · rfl
  · have hg' : e.goDown.grace.isSome = true := hgrace.trans hg
    rw [Screen.place, hg']
    rfl
  · exact absurd (h.resolve_left hedit) hg

theorem Screen.place_died {c : Screen} (s : State) (grace : Nat) (hedit : c.mode ≠ .edit) (hgrace : c.grace.isSome = false) :
    (c.died s grace).place = (.down, none, none, false, .closed) := by
  obtain ⟨-, -, -, hgrace', -⟩ := Screen.place_iff.1 (Screen.place_of_core (core_dropToType s c))
  unfold Screen.died
  generalize dropToType s c = e at hgrace' ⊢
  have hg : ({ e.goDown.dropStory with desk := none } : Screen).grace.isSome = false := hgrace'.trans hgrace
  dsimp only
  rw [if_neg hedit, if_neg (by rw [hgrace]; decide), Screen.place, hg]
  rfl

theorem RoomWide.screenDown (hs : RoomWide s) : RoomWide (s.screenDown n) := by
  rw [State.screenDown_eq]
  refine hs.stopViewing.updScreen fun c hc => ?_
  obtain ⟨hbells, hescape, -⟩ := Screen.bears_died (A := NoArrival) s (((s.line n).config.map LineConfig.grace).getD 0) c
  exact ⟨hbells hc.1, hescape hc.2⟩

theorem Line.holds_die {l : Line} {e : Screen} (h : l.config ≠ none) (hmode : e.mode = .down) : l.die.holds e :=
  ⟨⟨fun hc => absurd hc h, nofun⟩, ⟨nofun, fun hne => absurd hmode hne⟩, nofun, fun hc => absurd hc h⟩

/-- The state of a line that dies, before its screen goes DOWN. -/
def State.lineDead (s : State) (n : Nat) : State := (s.updLine n Line.die).raiseFor .lineDown n

theorem State.lineDead_only (n : Nat) : s.lineDead n = { s with lines := (s.updLine n Line.die).lines, host := (s.lineDead n).host } := by
  rw [State.lineDead, State.raiseFor_only]
  rfl

theorem State.stories_stopViewing_lineDead (n : Nat) : ((s.lineDead n).stopViewing n).stories = (s.stopViewing n).stories := by
  have hscreen : (s.lineDead n).screen n = s.screen n := by rw [State.screen, State.lineDead_only, State.screen]
  have hstories : (s.lineDead n).stories = s.stories := by rw [State.lineDead_only]
  unfold State.stopViewing
  rw [hscreen]
  split
  · rw [State.leaveViewers, State.leaveViewers, State.updStory_stories, hstories, State.updStory_stories]
  · exact hstories

theorem Still.lineDies : Still (s.stopViewing n) (s.lineDies n) := by
  have hstories : (s.lineDies n).stories = (s.stopViewing n).stories := State.stories_stopViewing_lineDead n
  have heq : s.lineDies n = ((s.lineDead n).stopViewing n).updScreen n
      (Screen.died (s.lineDead n) ((((s.lineDead n).line n).config.map LineConfig.grace).getD 0)) := rfl
  refine ⟨.of_tables ?_, fun j => by rw [State.tie, State.tie, State.story, State.story, hstories]⟩
  rw [heq, State.stopViewing_only, State.stories_stopViewing_lineDead, State.stopViewing_only, State.lineDead_only]
  rfl

theorem ActsOn.lineDies : ActsOn A n s (s.lineDies n) := by
  have hline : ActsOn A n s (s.lineDead n) :=
    (ActsOn.updLine fun _ => Nat.zero_le _).trans ((Calm.raiseFor .lineDown n).room.stirs.of_noArrival.acts n).toActsOn
  exact (hline.trans ((Stirs.stopViewing n).acts n).toActsOn).trans (ActsAt.updScreen (Screen.bears_died ..)).toActsOn

theorem State.screen_lineDies (hin : n < s.screens.length) : ∃ w grace, (s.lineDies n).screen n = (s.screen n).died w grace := by
  refine ⟨s.lineDead n, (((s.lineDead n).line n).config.map LineConfig.grace).getD 0, ?_⟩
  have hin' : n < ((s.lineDead n).stopViewing n).screens.length := by
    rw [State.screens_stopViewing, State.lineDead_only]
    exact hin
  have hscreen : ((s.lineDead n).stopViewing n).screen n = s.screen n := by
    rw [State.screens_stopViewing_screen, State.screen, State.lineDead_only, State.screen]
  have heq : s.lineDies n = ((s.lineDead n).stopViewing n).updScreen n
      (Screen.died (s.lineDead n) ((((s.lineDead n).line n).config.map LineConfig.grace).getD 0)) := rfl
  rw [heq, State.screen_updScreen _ _ _ hin', hscreen]

theorem State.line_lineDies (hin : n < s.lines.length) : (s.lineDies n).line n = (s.line n).die := by
  have hlines : (s.lineDies n).lines = (s.updLine n Line.die).lines := by
    have heq : s.lineDies n = ((s.lineDead n).stopViewing n).updScreen n
        (Screen.died (s.lineDead n) ((((s.lineDead n).line n).config.map LineConfig.grace).getD 0)) := rfl
    rw [heq, State.stopViewing_only, State.lineDead_only]
    rfl
  rw [State.line_of_lines hlines, State.line_updLine _ _ _ hin]

theorem State.line_beyond (hlines : s.lines.length = 32) (hn : ¬n < 32) : s.line n = .reset := by
  rw [State.line, List.getD_eq_getElem?_getD, List.getElem?_eq_none (by omega)]
  rfl

theorem Keeps.lineDies (hat : RoomHolds s → (s.line n).state = .up) : Keeps s (s.lineDies n) := by
  have hwide : RoomWide s → RoomWide (s.lineDies n) := fun hs =>
    ((Calm.raiseFor .lineDown n).keeps.room.wide (hs.updLine (f := Line.die) fun _ => Nat.zero_le _)).screenDown
  refine ((Apart.stopViewing n).trans Still.lineDies.apart).keeps_of hwide fun hs => ?_
  have hup := hat hs
  have hn : n < 32 := by
    by_contra hn
    rw [State.line_beyond hs.lines hn] at hup
    cases hup
  obtain ⟨hoff, hmode, -, -⟩ := hs.shown.lines n
  have hagrees := Screen.holds_iff.1 (hs.shown.holds n)
  have hconfig : (s.line n).config ≠ none := fun h => by
    rw [hoff.1 h] at hup
    cases hup
  have hline := State.line_lineDies (hs.lines ▸ hn)
  obtain ⟨w, grace, hscreen⟩ := State.screen_lineDies (hs.screens ▸ hn)
  have hlineHolds : ((s.lineDies n).screen n).mode = .down → ((s.lineDies n).line n).holds ((s.lineDies n).screen n) := fun h =>
    hline ▸ Line.holds_die hconfig h
  have hbaskets : (s.lineDies n).baskets = s.baskets := by
    have h : (s.lineDies n).baskets = ((s.lineDead n).stopViewing n).baskets := rfl
    rw [h, State.baskets_stopViewing, State.lineDead_only]
  have hviewed : (∀ k, (s.screen n).story ≠ some (k, .owner)) → Keeps s (s.lineDies n) := fun hnot => by
    have hedit : (s.screen n).mode ≠ .edit := fun h => by
      obtain ⟨e, k, he⟩ := hagrees.place_of_edit h
      exact hnot k (Screen.place_iff.1 he).2.2.1
    have hgrace : (s.screen n).grace.isSome = false := by
      by_contra hg
      obtain ⟨k, hk⟩ := hagrees.story_of_grace (eq_true_of_ne_false hg)
      exact hnot k hk
    have hplace := Screen.place_died w grace hedit hgrace
    rw [← hscreen] at hplace
    obtain ⟨hdown, -, hnone, -, -⟩ := Screen.place_iff.1 hplace
    exact .leaves .lineDies hbaskets .lineDies fun _ => ⟨hnot, hnone, Screen.holds_of_away hplace (Or.inl rfl) rfl, hlineHolds hdown⟩
  by_cases howns : ∃ k, (s.screen n).story = some (k, .owner)
  · obtain ⟨k, hstory⟩ := howns
    have hplace := Screen.place_died_of_owner w grace ((hagrees.mode_of_owner hstory).imp_right And.left)
    rw [← hscreen] at hplace
    obtain ⟨hdown, -, hsame, -, -⟩ := Screen.place_iff.1 hplace
    rw [hstory] at hplace
    have hstop : s.stopViewing n = s := State.stopViewing_of_not_viewer fun j hj => by simp [hstory] at hj
    have hstill : Still s (s.lineDies n) := by
      have h := Still.lineDies (s := s) (n := n)
      rwa [hstop] at h
    exact .placed hstill hbaskets hwide fun _ => ⟨.lineDies, hsame, Screen.holds_of_grace hplace (Or.inl rfl) rfl, hlineHolds hdown⟩
  · exact hviewed fun k hk => howns ⟨k, hk⟩

/-! ## Frames and keys (R146 to R149) -/

theorem Calm.lineFault {f : Line → Line} (h : (s.line n).Follows (f (s.line n))) : Calm s (s.lineFault n f) := by
  unfold State.lineFault
  dsimp only
  split
  · exact .updLine h
  · exact (Calm.updLine h).trans (.raiseFor ..)

theorem Calm.enqueue (key : QueuedKey) : Calm s (s.enqueue n key) := by
  unfold State.enqueue
  dsimp only
  split
  · next hroom =>
    refine .updLine ⟨Iff.rfl, rfl, Or.inl, fun _ => ?_⟩
    rw [List.length_append]
    exact hroom
  · split
    · exact .updLine ⟨Iff.rfl, rfl, Or.inl, id⟩
    · exact (Calm.lineFault ⟨Iff.rfl, rfl, Or.inl, id⟩).trans (.bell n)

theorem Calm.dequeue : Calm s (s.updLine n Line.dequeue) := by
  refine .updLine ⟨Iff.rfl, rfl, Or.inl, fun hq => ?_⟩
  have hhold : (s.line n).holding.toList.length ≤ 1 := by cases (s.line n).holding <;> simp
  have hlength : (s.line n).dequeue.queue.length = (s.line n).queue.length - 1 + (s.line n).holding.toList.length := by
    rw [Line.dequeue, List.length_append, List.length_drop]
  omega

theorem Calm.itemEnds (i : Item) : Calm s (s.updLine n fun l => l.itemEnds i) := .updLine ⟨Iff.rfl, rfl, Or.inl, id⟩

theorem Keeps.takeFrame (f : TermFrame) : Keeps s (s.takeFrame n c f) := by
  unfold State.takeFrame
  split
  · next hup _ => exact (Calm.updLine ⟨Iff.rfl, rfl, fun _ => Or.inr hup, id⟩).keeps
  · exact (Calm.lineFault ⟨Iff.rfl, rfl, Or.inl, id⟩).keeps
  · exact (Calm.lineFault ⟨Iff.rfl, rfl, Or.inl, id⟩).keeps
  · exact (Calm.enqueue _).keeps
  · next hdead _ => exact .lineBack hdead
  all_goals exact .refl s

theorem Calm.breakOver : Calm s (s.updLine n fun l => { l with breakTimer := none }) := .updLine ⟨Iff.rfl, rfl, nofun, id⟩

end

end Sys2Proof.Machine
end

section
/-! SUPPORT. The screens reset keeps the limits invariants: every configured line is restarted, and then each owned story is filed in turn
(R31, R45, R119, R156). -/

namespace Sys2Proof.Machine

section
variable {s t u v : State} {n k : Nat} {x : Story} {l : List Nat}

/-- Every screen is away and without a story, and no record names a screen but those of the stories still to be filed. -/
structure Left (l : List Nat) (u : State) : Prop where
  holds : ∀ n, (u.screen n).holds
  lines : ∀ n, (u.line n).holds (u.screen n)
  story : ∀ n, (u.screen n).story = none
  off : ∀ n, (u.screen n).signedOn = false
  viewers : ∀ k x, u.story k = some x → x.viewers = []
  owner : ∀ k x, u.story k = some x → k ∉ l → x.owner = none
  toFile : ∀ k x, u.story k = some x → k ∈ l → x.state = .open_

theorem Left.shown (h : Left [] u) : Shown u := by
  refine ⟨h.holds, h.lines, fun n k r => iff_of_false (fun hshows => ?_) ?_, fun k x hx ho => ?_⟩
  · rw [State.shows, h.story] at hshows
    cases hshows
  · rintro ⟨x, hx, hr⟩
    cases r with
    | owner => simp [h.owner k x hx List.not_mem_nil] at hr
    | viewer => simp [h.viewers k x hx] at hr
  · rw [h.owner k x hx List.not_mem_nil] at ho
    cases ho

theorem Left.autoFile (h : Left (k :: l) u) (hk : k ∉ l) : Left l (u.autoFile k) := by
  cases hx : u.story k with
  | none =>
    rw [State.autoFile, hx]
    refine ⟨h.holds, h.lines, h.story, h.off, h.viewers, fun j y hy hj => h.owner j y hy fun hmem => ?_, fun j y hy hj =>
      h.toFile j y hy (List.mem_cons_of_mem _ hj)⟩
    rcases List.mem_cons.1 hmem with rfl | hmem
    · exact Option.some_ne_none y (hy.symm.trans hx)
    · exact hj hmem
  | some x =>
    obtain ⟨A, y, hfiled, hstirs⟩ := State.autoFile_filed hx
    generalize u.autoFile k = t at hfiled hstirs
    have hself : ∀ z, t.story k = some z → z.viewers = [] ∧ z.owner = none := fun z hz => by
      have heq : y.tie = z.tie := Option.some.inj (hfiled.after.symm.trans (State.tie_eq hz))
      rw [← Story.viewers_of_tie heq, ← Story.owner_of_tie heq, hfiled.viewers]
      exact ⟨h.viewers k x hx, hfiled.owner⟩
    have hother : ∀ j z, j ≠ k → t.story j = some z → ∃ w, u.story j = some w ∧ w.tie = z.tie := fun j z hj hz =>
      State.tie_eq_some hz (hfiled.others j hj)
    refine ⟨fun n => (hstirs.screen n).holds (h.holds n), fun n => (hstirs.line n).holds (h.lines n) (by rw [(hstirs.screen n).mode])
      fun _ => (hstirs.screen n).story.trans (h.story n), fun n => (hstirs.screen n).story.trans (h.story n),
      fun n => (hstirs.screen n).signedOn.trans (h.off n), fun j z hz => ?_, fun j z hz hj => ?_, fun j z hz hj => ?_⟩
    · by_cases hjk : j = k
      · exact (hself z (hjk ▸ hz)).1
      · obtain ⟨w, hw, heq⟩ := hother j z hjk hz
        rw [← Story.viewers_of_tie heq]
        exact h.viewers j w hw
    · by_cases hjk : j = k
      · exact (hself z (hjk ▸ hz)).2
      · obtain ⟨w, hw, heq⟩ := hother j z hjk hz
        rw [← Story.owner_of_tie heq]
        exact h.owner j w hw fun hmem => (List.mem_cons.1 hmem).elim hjk hj
    · obtain ⟨w, hw, heq⟩ := hother j z (fun hjk => hk (hjk ▸ hj)) hz
      rw [← Story.state_of_tie heq]
      exact h.toFile j w hw (List.mem_cons_of_mem _ hj)

/-- Every ring list is empty, and every buffer within its size. -/
def State.unrung (u : State) : Prop := ∀ n, (u.screen n).ring = [] ∧ (u.screen n).buffer.length ≤ 12

theorem State.unrung.lists (h : u.unrung) : RoomLists u := fun n =>
  ⟨(h n).1 ▸ List.nodup_nil, (h n).2, fun hne => absurd (h n).1 hne, fun hne => absurd (h n).1 hne⟩

/-- What the filing of one story keeps of a state where every screen is away. -/
structure FilesOn (u t : State) : Prop where
  sizes : SameSizes u t
  seated : Seated t
  unrung : u.unrung → t.unrung

theorem Left.files (h : Left (k :: l) u) (hseated : Seated u) (hbaskets : u.baskets.length = 16) : FilesOn u (u.autoFile k) := by
  cases hx : u.story k with
  | none =>
    rw [State.autoFile, hx]
    exact ⟨.refl u, hseated, id⟩
  | some x =>
    obtain ⟨A, y, hfiled, hstirs⟩ := State.autoFile_filed hx
    have hstored : ¬x.state.stored := by
      rw [h.toFile k x hx List.mem_cons_self]
      exact StoryState.not_stored_open
    refine ⟨hstirs.sizes, hfiled.seated hseated hbaskets hstored, fun hu n => ⟨?_, (hstirs.screen n).buffer (hu n).2⟩⟩
    refine List.eq_nil_iff_forall_not_mem.2 fun m hm => ?_
    rcases (hstirs.screen n).ring m hm with hm | ⟨hon, -⟩
    · rw [(hu n).1] at hm
      exact List.not_mem_nil hm
    · rw [h.off n] at hon
      cases hon

theorem Left.foldl (hnodup : l.Nodup) (h : Left l u) (hseated : Seated u) (hbaskets : u.baskets.length = 16) :
    Left [] (l.foldl State.autoFile u) ∧ FilesOn u (l.foldl State.autoFile u) := by
  induction l generalizing u with
  | nil => exact ⟨h, .refl u, hseated, id⟩
  | cons k l ih =>
    obtain ⟨hk, hnodup'⟩ := List.nodup_cons.1 hnodup
    obtain ⟨hsizes, hseated', hunrung⟩ := h.files hseated hbaskets
    obtain ⟨hleft, hsizes', hseated'', hunrung'⟩ := ih hnodup' (h.autoFile hk) hseated' (hsizes.baskets.trans hbaskets)
    exact ⟨hleft, hsizes.trans hsizes', hseated'', hunrung' ∘ hunrung⟩

/-! ## The lines restarted -/

theorem RoomWide.restartKept (hs : RoomWide s) : RoomWide (s.restartKept n) := by
  unfold State.restartKept
  split
  · exact hs.restartLine
  · exact hs

theorem Apart.restartKept (n : Nat) : Apart s (s.restartKept n) := by
  unfold State.restartKept
  split
  · exact (Apart.stopViewing n).trans Still.restartLine.apart
  · exact .refl s

theorem Screen.owned_eq_some {c : Screen} (h : c.owned = some k) : c.story = some (k, .owner) := by
  unfold Screen.owned at h
  split at h
  · next heq => rw [heq, Option.some.inj h]
  · cases h

theorem RoomHolds.owner_of_owned (hs : RoomHolds s) (h : (s.screen n).owned = some k) :
    ∃ x, s.story k = some x ∧ x.owner = some n := by
  obtain ⟨x, hx, ho⟩ := (hs.shown.names n k .owner).1 (Screen.owned_eq_some h)
  exact ⟨x, hx, ho⟩

theorem RoomHolds.nodup_ownedStories (hs : RoomHolds s) : s.ownedStories.Nodup := by
  refine List.Nodup.filterMap (fun n m k hn hm => ?_) List.nodup_range
  obtain ⟨x, hx, ho⟩ := hs.owner_of_owned hn
  obtain ⟨y, hy, ho'⟩ := hs.owner_of_owned hm
  obtain rfl := Option.some.inj (hx.symm.trans hy)
  exact Option.some.inj (ho.symm.trans ho')

theorem RoomHolds.mem_ownedStories (hs : RoomHolds s) (hx : s.story k = some x) : k ∈ s.ownedStories ↔ x.owner.isSome = true := by
  constructor
  · intro hk
    obtain ⟨n, -, howned⟩ := List.mem_filterMap.1 hk
    obtain ⟨y, hy, ho⟩ := hs.owner_of_owned howned
    obtain rfl := Option.some.inj (hx.symm.trans hy)
    rw [ho]
    rfl
  · intro ho
    obtain ⟨n, ho⟩ := Option.isSome_iff_exists.1 ho
    have hstory := (hs.shown.owner_iff (State.tie_eq hx) n).1 ho
    refine List.mem_filterMap.2 ⟨n, List.mem_range.2 ?_, Screen.owned_of_owner hstory⟩
    have hin : n < s.screens.length := State.lt_of_screen_ne fun hreset => by
      rw [hreset] at hstory
      cases hstory
    exact lt_of_lt_of_eq hin hs.screens

/-- A screen whose line is not configured is DOWN and without a story. -/
theorem Shown.unconfigured (hs : Shown s) (hconfig : (s.line n).config = none) :
    (s.screen n).mode = .down ∧ (s.screen n).story = none := by
  obtain ⟨hoff, hup, -, hnone⟩ := hs.lines n
  refine ⟨?_, hnone hconfig⟩
  by_contra hmode
  have hstate := hup.2 hmode
  rw [hoff.1 hconfig] at hstate
  cases hstate

theorem place_freshScreen (c : LineConfig) : (s.freshScreen c).place = (.signedOff, none, none, false, .closed) := rfl

theorem RoomHolds.viewers_left (hs : RoomHolds s) (hx : s.story k = some x) :
    x.viewers.filter (fun v => !s.leavesBelow 32 k v) = [] := by
  refine List.filter_eq_nil_iff.2 fun m hm => ?_
  have hstory := (hs.shown.viewer_iff (State.tie_eq hx) m).1 hm
  have hin : m < s.screens.length := State.lt_of_screen_ne fun hreset => by
    rw [hreset] at hstory
    cases hstory
  have hconfig : (s.line m).config ≠ none := fun hc => by
    rw [(hs.shown.unconfigured hc).2] at hstory
    cases hstory
  have hleaves : s.leavesBelow 32 k m = true := decide_eq_true ⟨lt_of_lt_of_eq hin hs.screens, hconfig, hstory⟩
  simp [hleaves]

theorem State.screen_beyond (hscreens : s.screens.length = 32) (hn : ¬n < 32) : s.screen n = .reset := by
  rw [State.screen, List.getD_eq_getElem?_getD, List.getElem?_eq_none (by omega)]
  rfl

/-- Every screen is away once the lines are restarted, and the stories that were owned are still to be filed. -/
theorem RoomHolds.left (hs : RoomHolds s) (hv : RestartedBelow s v 32) : Left s.ownedStories v := by
  have hscreen : ∀ n, v.screen n = s.screenAgain n := fun n => by
    rw [hv.screen_eq]
    split
    · rfl
    · next hn =>
      have hline : (s.line n).config = none := by
        rw [State.line_beyond hs.lines hn]
        rfl
      rw [State.screenAgain, hline]
  have hline : ∀ n, v.line n = (s.line n).again := fun n => by
    rw [hv.line_eq]
    split
    · rfl
    · next hn =>
      rw [State.line_beyond hs.lines hn]
      rfl
  have hstory : ∀ k x, v.story k = some x → ∃ y, s.story k = some y ∧ x = { y with viewers := [] } := fun k x hx => by
    rw [hv.story_eq] at hx
    obtain ⟨y, hy, rfl⟩ := Option.map_eq_some_iff.1 hx
    exact ⟨y, hy, by rw [hs.viewers_left hy]⟩
  have hat : ∀ n, (v.screen n).holds ∧ (v.line n).holds (v.screen n) ∧ (v.screen n).story = none ∧ (v.screen n).signedOn = false :=
    fun n => by
      rw [hscreen, hline, State.screenAgain, Line.again]
      cases hc : (s.line n).config with
      | none =>
        obtain ⟨hdown, hnone⟩ := hs.shown.unconfigured hc
        exact ⟨hs.shown.holds n, hs.shown.lines n, hnone, by rw [Screen.signedOn, hdown]⟩
      | some c => exact ⟨Screen.holds_of_away (place_freshScreen c) (Or.inr rfl) rfl, Line.holds_restart nofun, rfl, rfl⟩
  refine ⟨fun n => (hat n).1, fun n => (hat n).2.1, fun n => (hat n).2.2.1, fun n => (hat n).2.2.2, fun k x hx => ?_,
    fun k x hx hk => ?_, fun k x hx hk => ?_⟩
  · obtain ⟨y, -, rfl⟩ := hstory k x hx
    rfl
  · obtain ⟨y, hy, rfl⟩ := hstory k x hx
    rw [hs.mem_ownedStories hy] at hk
    exact Option.not_isSome_iff_eq_none.1 hk
  · obtain ⟨y, hy, rfl⟩ := hstory k x hx
    rw [hs.mem_ownedStories hy] at hk
    exact hs.shown.owned k y hy hk

theorem RestartedBelow.unrung (hv : RestartedBelow s v 32) (hs : RoomHolds s) (hl : RoomLists s) : v.unrung := fun n => by
  have hoff : (s.line n).config = none → (s.screen n).ring = [] := fun hc => by
    by_contra hne
    have hon := (hl n).signedOn hne
    rw [Screen.signedOn, (hs.shown.unconfigured hc).1] at hon
    cases hon
  rw [hv.screen_eq]
  split
  · rw [State.screenAgain]
    cases hc : (s.line n).config with
    | none => exact ⟨hoff hc, (hl n).buffer⟩
    | some c => exact ⟨rfl, Nat.zero_le _⟩
  · next hn =>
    rw [State.screen_beyond hs.screens hn]
    exact ⟨rfl, Nat.zero_le _⟩

theorem Keeps.screensReset : Keeps s s.screensReset := by
  have hapart : Apart s s.screensReset := by
    rw [State.screensReset_eq]
    have hrestart : Apart s ((List.range 32).foldl State.restartKept s) :=
      s.foldl_keeps (Apart s) _ (fun _ n h => h.trans (.restartKept n)) _ (.refl s)
    exact State.foldl_keeps _ (Apart s) _ (fun _ k h => h.trans (.autoFile k)) _ hrestart
  have hwide : RoomWide s → RoomWide s.screensReset := fun hs => by
    rw [State.screensReset_eq]
    have hrestart : RoomWide ((List.range 32).foldl State.restartKept s) :=
      s.foldl_keeps RoomWide _ (fun _ n h => h.restartKept) _ hs
    exact State.foldl_keeps _ RoomWide _ (fun _ k h => h.autoFile) _ hrestart
  have hreset : RoomHolds s → RoomHolds s.screensReset ∧ (RoomLists s → RoomLists s.screensReset) := fun hs => by
    have hv := RestartedBelow.range (n := 32) s hs.lines.ge hs.screens.ge
    rw [State.screensReset_eq]
    generalize (List.range 32).foldl State.restartKept s = v at hv
    have hbaskets : v.baskets = s.baskets := by rw [hv.only]
    have hseat : ∀ k, v.seat k = s.seat k := fun k => by
      rw [State.seat, hv.story_eq, Option.map_map]
      rfl
    have hseated : Seated v := hs.seated.of_same hseat fun d => by rw [State.held_of_baskets hbaskets]
    have hsizes : SameSizes s v := ⟨hv.stories_length, by rw [hv.only], by rw [hbaskets], by rw [hv.only], hv.screens_length,
      hv.lines_length⟩
    obtain ⟨hleft, hsizes', hseated', hunrung⟩ :=
      (hs.left hv).foldl hs.nodup_ownedStories hseated (hsizes.baskets.trans hs.baskets)
    exact ⟨(hsizes.trans hsizes').holds hs hseated' hleft.shown, fun hl => (hunrung (hv.unrung hs hl)).lists⟩
  exact ⟨⟨hwide, fun hs => (hreset hs).1, fun hs => (hreset hs).2⟩, hapart.fit.keeps, hapart.out.keeps⟩

end

end Sys2Proof.Machine
end

section
/-! SUPPORT. The day, the desks' and profiles' definitions, messages, and the timers of the screens keep the limits invariants (R47 to
R49, R59, R60, R94, R100, R113, R115, R204). -/

namespace Sys2Proof.Machine

section
variable {A : Nat → Nat → Prop} {s t u : State} {n k d : Nat}

/-! ## Escalation (R59, R60) -/

theorem Stirs.updBasket (f : List Entry → List Entry) : Stirs A s (s.updBasket d f) :=
  ⟨{ SameSizes.refl s with baskets := List.length_modify .. }, fun _ => .refl _ _, fun _ => .refl _⟩

theorem Calm.updBasket {f : List Entry → List Entry} (h : ((f (s.basket d)).map Entry.story).Perm (s.held d)) :
    Calm s (s.updBasket d f) where
  room := ⟨.updBasket f, fun _ => rfl, fun e => by
    rw [State.held_updBasket]
    split
    · next he => exact he.1 ▸ h
    · rfl⟩
  fit := .of_screens rfl rfl
  out := ⟨rfl, rfl, rfl, rfl, rfl⟩

theorem RoomWide.updBasket {f : List Entry → List Entry} (hs : RoomWide s) (h : (f (s.basket d)).length ≤ (s.basket d).length) :
    RoomWide (s.updBasket d f) :=
  Stirs.wide (A := NoArrival) (.updBasket f) hs (fun e => by
    rw [State.held_updBasket]
    split
    · have := hs.held d
      rw [State.held] at this
      rw [List.length_map] at this ⊢
      exact h.trans this
    · exact hs.held e) hs.viewers

/-- An entry put at another place of its basket. -/
def replaced (rank : Entry → Nat) (e : Entry) (l : List Entry) : List Entry :=
  placeEntry rank { e with escalated := true } (l.filter fun x => x.story != e.story)

theorem stories_replaced (rank : Entry → Nat) (e : Entry) (l : List Entry) :
    ((replaced rank e l).map Entry.story).Perm (e.story :: (l.map Entry.story).filter (· != e.story)) := by
  rw [List.filter_map]
  exact (placeEntry_perm rank _ _).map Entry.story

theorem stories_replaced_of_nodup {rank : Entry → Nat} {e : Entry} {l : List Entry} (he : e ∈ l) (hl : (l.map Entry.story).Nodup) :
    ((replaced rank e l).map Entry.story).Perm (l.map Entry.story) := by
  have hmem := List.mem_map_of_mem (f := Entry.story) he
  refine (stories_replaced rank e l).trans ?_
  rw [← hl.erase_eq_filter]
  exact (List.perm_cons_erase hmem).symm

theorem length_replaced_le {rank : Entry → Nat} {e : Entry} {l : List Entry} (he : e ∈ l) : (replaced rank e l).length ≤ l.length := by
  have hlt : (l.filter fun x => x.story != e.story).length < l.length :=
    List.length_filter_lt_length_iff_exists.2 ⟨e, he, by simp⟩
  rw [replaced, (placeEntry_perm ..).length_eq, List.length_cons]
  exact hlt

/-- A screen signed on at desk d rings. -/
def Screen.rungAt (d : Nat) (c : Screen) : Screen := if c.signedOnAt d then c.bell else c

theorem Screen.follows_rungAt (d : Nat) (c : Screen) : c.Follows A (c.rungAt d) := by
  unfold Screen.rungAt
  split
  · exact c.follows_bell
  · exact .refl _ _

theorem State.escalate_of_find {e : Entry} (h : (s.basket d).find? (fun e => e.story == k) = some e) :
    ∃ rank, Calm ((s.updStory k fun x => { x with priority := x.priority.up }).updBasket d (replaced rank e)) (s.escalate d k) := by
  have hk : e.story = k := by simpa using List.find?_some h
  subst hk
  refine ⟨(s.updStory e.story fun x => { x with priority := x.priority.up }).rank, ?_⟩
  simp only [State.escalate, h]
  have htold : ∀ v : State, Calm v ((v.raiseFor .deskOverdue d).reportDesk d) := fun v => (Calm.raiseFor ..).trans (.reportDesk d)
  split
  · exact (htold _).trans (.mapScreens (Screen.follows_rungAt d))
  · exact htold _

theorem Keeps.escalate (d k : Nat) : Keeps s (s.escalate d k) := by
  cases h : (s.basket d).find? fun e => e.story == k with
  | none =>
    have hsame : s.escalate d k = s := by simp only [State.escalate, h]
    rw [hsame]
    exact .refl s
  | some e =>
    obtain ⟨rank, hrest⟩ := State.escalate_of_find h
    have hraised : Calm s (s.updStory k fun x => { x with priority := x.priority.up }) := .updStory (fun _ => rfl) fun _ => rfl
    refine hraised.keeps.trans (Keeps.trans ?_ hrest.keeps)
    have hmem : e ∈ s.basket d := List.mem_of_find?_eq_some h
    refine Apart.keeps_of (.of_tables rfl) (fun hs => hs.updBasket (length_replaced_le hmem)) fun hs => ?_
    exact (Calm.updBasket (s := s.updStory k fun x => { x with priority := x.priority.up })
      (stories_replaced_of_nodup hmem (hs.seated.nodup d))).keeps

theorem Keeps.escalationCheck : Keeps s s.escalationCheck :=
  Keeps.foldl (fun _ d => Keeps.foldl (fun _ k => .escalate d k) _) _

theorem Calm.showMinute : Calm s s.showMinute := by
  unfold State.showMinute
  split
  · exact .touchAll
  · exact .refl s

theorem Keeps.advance : Keeps s s.advance :=
  Keeps.trans (t := { s with clock := s.clock.nextSecond }) (Calm.beside rfl).keeps (Keeps.escalationCheck.trans Calm.showMinute.keeps)

/-! ## The time, the desks and the profiles (R47, R49, R94, R204) -/

theorem Calm.setTime (v : Nat) : Calm s (s.setTime v) := by
  refine Calm.trans (t := { s with
    clock := ⟨s.clock.steps, v, 10⟩
    baskets := s.baskets.map fun (l : List Entry) => l.map (Entry.moveTime s.clock.time v) }) ?_ .touchAll
  refine ⟨⟨⟨⟨rfl, rfl, List.length_map .., rfl, rfl, rfl⟩, fun _ => .refl _ _, fun _ => .refl _⟩, fun _ => rfl, fun d => ?_⟩,
    .of_screens rfl rfl, ⟨rfl, rfl, rfl, rfl, rfl⟩⟩
  have hstory : Entry.story ∘ Entry.moveTime s.clock.time v = Entry.story := rfl
  simp only [State.held, State.basket]
  have hmoved := getD_map_of_default (f := fun l : List Entry => l.map (Entry.moveTime s.clock.time v)) (l := s.baskets) (d := [])
    (e := []) rfl d
  rw [hmoved, List.map_map, hstory]

theorem Calm.setDesks {desks : List (Option Desk)} (h : desks.length = s.desks.length) : Calm s { s with desks := desks } :=
  ⟨⟨⟨⟨rfl, h, rfl, rfl, rfl, rfl⟩, fun _ => .refl _ _, fun _ => .refl _⟩, fun _ => rfl, fun _ => .refl _⟩,
    .of_screens rfl rfl, ⟨rfl, rfl, rfl, rfl, rfl⟩⟩

theorem Calm.setProfiles {profiles : List Profile} (h : profiles.length = s.profiles.length) :
    Calm s { s with profiles := profiles } :=
  ⟨⟨⟨⟨rfl, rfl, rfl, h, rfl, rfl⟩, fun _ => .refl _ _, fun _ => .refl _⟩, fun _ => rfl, fun _ => .refl _⟩,
    .of_screens rfl rfl, ⟨rfl, rfl, rfl, rfl, rfl⟩⟩

theorem Calm.storeDesk (d : Nat) (k : Desk) : Calm s ({ s with desks := s.desks.set d (some k) }.touchDesk d) :=
  (Calm.setDesks (List.length_set ..)).trans (.touchDesk d)

theorem Calm.storeProfile (p : Nat) (q : Profile) : Calm s ({ s with profiles := s.profiles.set p q }.overScreens fun t n =>
    if t.usesProfile n p then t.reprofile n else t) :=
  (Calm.setProfiles (List.length_set ..)).trans (.foldl _ (fun t n => by
    split
    · exact .reprofile n
    · exact .refl t) _)

/-! ## Messages and the timers of the screens (R100, R113, R115) -/

theorem Screen.follows_takeMessage (time : Nat) (text : List Byte) (c : Screen) : c.Follows A (takeMessage time text c) := by
  unfold takeMessage
  split
  · exact .of_core rfl
  · exact Screen.Follows.trans (d := { c with hostMessage := some (text, true), layoutTime := time }) (.of_core rfl)
      (Screen.follows_bell _)

theorem Calm.messages (time : Nat) (text : List Byte) (l : List Nat) :
    Calm s (l.foldl (fun t n => t.updScreen n (takeMessage time text)) s) :=
  .foldl _ (fun _ _ => .updScreen (Screen.follows_takeMessage ..)) _

theorem Calm.idleExpires : Calm s (s.updScreen n fun c => if c.idle.isSome && c.laidOut then blank c else c) := by
  refine .updScreen ?_
  split
  · exact .of_core rfl
  · exact .refl _ _

theorem Calm.ringExpires (interval : Nat) : Calm s (s.updScreen n fun c =>
    if c.ringTimer.isNone then c
    else if c.ring = [] then c.stopRinging
    else { c with ringDue := true, ringTimer := some interval }) := by
  refine .updScreen ?_
  split
  · exact .refl _ _
  · split
    · exact .of_core rfl
    · exact .of_core rfl

theorem Calm.transmissionComplete (i : Item) (due : Bool) : Calm s ((s.updLine n fun l => l.itemEnds i).updScreen n fun c =>
    { c with cursorDue := c.cursorDue || due }) :=
  (Calm.itemEnds i).trans (.updScreen (.of_core rfl))

/-! ## The screens, the lines and the fit engine at a step of the timebase (R2) -/

theorem Screen.follows_tick (second : Bool) (c : Screen) : c.Follows A (c.tick second) := by
  refine .of_core ?_
  have hgrace : (countSecond second c.grace).isSome = c.grace.isSome := by
    unfold countSecond countdown
    split
    · exact Option.isSome_map
    · rfl
  simp only [Screen.core, Screen.tick, hgrace]

theorem Line.follows_tick (l : Line) : l.Follows l.tick := by
  rw [Line.tick, Line.codesEnd_only]
  exact ⟨Iff.rfl, rfl, fun h => Or.inl (by simpa [countdown] using h), id⟩

/-- The state as the timebase leaves it, but for the link and the pass. -/
def State.roomTick (s : State) : State :=
  { s with
    screens := s.screens.map (Screen.tick (isSecond (s.clock.steps + 1)))
    lines := s.lines.map Line.tick
    clock := s.clock.tick
    drawn := if s.fit.pass.isSome then s.drawn + 1 else s.drawn
    pending := s.pending ++ s.expiries }

theorem Calm.roomTick : Calm s s.roomTick := by
  refine .of_screens_lines rfl (List.length_map _) (List.length_map _) (fun m => ?_) fun m => ?_
  · rw [State.screen_of_map (s := s) (t := s.roomTick) (f := Screen.tick (isSecond (s.clock.steps + 1))) rfl]
    split
    · exact Screen.follows_tick _ _
    · exact .refl _ _
  · have hline : s.roomTick.line m = (s.line m).tick ∨ s.roomTick.line m = s.line m := by
      simp only [State.line, State.roomTick, List.getD_eq_getElem?_getD, List.getElem?_map]
      cases s.lines[m]? with
      | none => exact Or.inr rfl
      | some l => exact Or.inl rfl
    rcases hline with h | h
    · rw [h]
      exact Line.follows_tick _
    · rw [h]
      exact .refl _

theorem Keeps.tickFit : Keeps s { s with fit := s.fit.tick } := .setPass _

end

end Sys2Proof.Machine
end

section
/-! SUPPORT. Pages, link and proof: the changes that leave the page in hand, the activity and the proof's claim on it as they are keep the
limits invariants (R177, R179, R182 to R189, R194 to R197, R209). -/

namespace Sys2Proof.Machine

/-! ## The room and the fits alone -/

/-- The room and the fits are kept, whatever becomes of the output. -/
structure InKeeps (s t : State) : Prop where
  room : RoomKeeps s t
  fit : FitKeeps s t

section
variable {s t u : State} {l m k : Link} {p q : Proof}

theorem InKeeps.refl (s : State) : InKeeps s s := ⟨.refl s, .refl s⟩

theorem InKeeps.trans (h : InKeeps s t) (k : InKeeps t u) : InKeeps s u where
  room := h.room.trans k.room
  fit :=
    ⟨k.fit.wide ∘ h.fit.wide, fun hr hf => k.fit.holds (h.room.holds hr) (h.fit.holds hr hf),
      fun hr hl => k.fit.lists (h.room.holds hr) (h.fit.lists hr hl)⟩

theorem Keeps.inner (h : Keeps s t) : InKeeps s t := ⟨h.room, h.fit⟩

theorem Keeps.of_inner (h : InKeeps s t) (ho : OutKeeps s t) : Keeps s t := ⟨h.room, h.fit, ho⟩

/-- Only the output changes, and what stands beside the tables. -/
structure Outer (s t : State) : Prop where
  room : RoomCalm s t
  fit : FitSame s t

theorem Outer.inner (h : Outer s t) : InKeeps s t := ⟨h.room.keeps, h.fit.keeps⟩

theorem Outer.trans (h : Outer s t) (k : Outer t u) : Outer s u := ⟨h.room.trans k.room, h.fit.trans k.fit⟩

theorem Calm.outer (h : Calm s t) : Outer s t := ⟨h.room, h.fit⟩

theorem Outer.of_outputs (h : t = { s with
    pages := t.pages, settingQueue := t.settingQueue, edition := t.edition, link := t.link, proof := t.proof }) : Outer s t := by
  rw [h]
  exact ⟨⟨⟨⟨rfl, rfl, rfl, rfl, rfl, rfl⟩, fun _ => .refl _ _, fun _ => .refl _⟩, fun _ => rfl, fun _ => .refl _⟩,
    .of_screens rfl rfl⟩

/-! ## A link that keeps its page (R180) -/

/-- Link m has the page and the activity of link l, no more abort blocks, and keeps the bounds of its window, counts and receiver. -/
structure Link.Follows (l m : Link) : Prop where
  page : m.setting.map SettingPage.page = l.setting.map SettingPage.page
  activity : m.activity = l.activity
  aborts : m.aborts ≤ l.aborts
  window : l.window.length ≤ 32 → m.window.length ≤ 32
  listed : l.Listed → m.Listed

/-- What of a link its page and its bounds depend on, but for the blocks on the wire. -/
def Link.frame (l : Link) : Option Nat × Activity × List Bool × Nat × Nat × Option LinkConfig × Receiver :=
  (l.setting.map SettingPage.page, l.activity, l.window, l.quietCount, l.activeCount, l.config, l.receiver)

theorem Link.Follows.refl (l : Link) : l.Follows l := ⟨rfl, rfl, le_rfl, id, id⟩

theorem Link.Follows.trans (h : l.Follows m) (h' : m.Follows k) : l.Follows k :=
  ⟨h'.page.trans h.page, h'.activity.trans h.activity, h'.aborts.trans h.aborts, h'.window ∘ h.window, h'.listed ∘ h.listed⟩

theorem Link.Follows.of_frame (h : m.frame = l.frame) (ha : m.aborts ≤ l.aborts) : l.Follows m := by
  obtain ⟨hpage, hactivity, hwindow, hquiet, hactive, hconfig, hreceiver⟩ :
      m.setting.map SettingPage.page = l.setting.map SettingPage.page ∧ m.activity = l.activity ∧ m.window = l.window ∧
        m.quietCount = l.quietCount ∧ m.activeCount = l.activeCount ∧ m.config = l.config ∧ m.receiver = l.receiver := by
    simpa [Link.frame] using h
  exact ⟨hpage, hactivity, ha, fun hw => hwindow ▸ hw, fun hl => ⟨hquiet ▸ hl.quiet, hactive ▸ hl.active, hconfig ▸ hl.config,
    hreceiver ▸ hl.receiver⟩⟩

theorem Link.aborts_send (l : Link) (b : ForwardBlock) : (l.send b).aborts = l.aborts + if b.kind = .abort then 1 else 0 := by
  simp only [Link.aborts, Link.send, List.countP_append, List.countP_singleton, beq_iff_eq]
  exact Nat.add_right_comm ..

theorem Link.aborts_le_of_sublist (hforward : m.forward.Sublist l.forward) (hwait : m.abortWait = l.abortWait) :
    m.aborts ≤ l.aborts := by
  rw [Link.aborts, Link.aborts, hwait]
  exact Nat.add_le_add_right (hforward.countP_le) _

/-- The blocks on the wire stay. -/
theorem Link.Follows.of_wire (h : m.frame = l.frame) (hforward : m.forward = l.forward) (hwait : m.abortWait = l.abortWait) :
    l.Follows m :=
  .of_frame h (Link.aborts_le_of_sublist (hforward ▸ List.Sublist.refl _) hwait)

theorem Link.Follows.send {b : ForwardBlock} (h : b.kind ≠ .abort) : l.Follows (l.send b) :=
  .of_frame rfl (by rw [Link.aborts_send, if_neg h]; exact le_rfl)

theorem Link.page_updCurrent (l : Link) (f : CurrentBlock → CurrentBlock) :
    (l.updCurrent f).setting.map SettingPage.page = l.setting.map SettingPage.page := by
  rw [Link.updCurrent, Option.map_map]
  rfl

theorem Link.follows_updCurrent (l : Link) (f : CurrentBlock → CurrentBlock) : l.Follows (l.updCurrent f) :=
  .of_wire (by simp only [Link.frame, Link.page_updCurrent]; rfl) rfl rfl

theorem Link.follows_sendCurrent (l : Link) : l.Follows l.sendCurrent := by
  unfold Link.sendCurrent
  split
  · exact .refl l
  · exact (l.follows_updCurrent _).trans (.send nofun)

theorem Link.follows_sendUnlessHeld (l : Link) : l.Follows (if l.held then l else l.sendCurrent) := by
  split
  · exact .refl l
  · exact l.follows_sendCurrent

theorem Link.follows_record (l : Link) (success : Bool) : l.Follows (l.record success) := by
  refine ⟨rfl, rfl, le_rfl, fun h => ?_, fun h => ⟨h.quiet, h.active, h.config, h.receiver⟩⟩
  have hsize : Config.window = 32 := rfl
  simp only [Link.record, hsize]
  split
  · simp only [List.length_append, List.length_drop, List.length_singleton]
    omega
  · simp only [List.length_append, List.length_singleton]
    omega

theorem Link.follows_enquire (l : Link) : l.Follows l.enquire := by
  refine .of_frame rfl ?_
  simp only [Link.aborts, Link.enquire, List.countP_singleton]
  exact Nat.add_le_add_right (Nat.zero_le _) _

theorem Link.follows_withdraw (l : Link) (kind : BlockKind) (number : Byte) : l.Follows (l.withdraw kind number) :=
  .of_frame rfl (Link.aborts_le_of_sublist List.filter_sublist rfl)

theorem Link.follows_awaitAnswer (l : Link) : l.Follows l.awaitAnswer := by
  unfold Link.awaitAnswer
  split
  · exact .refl l
  · exact .of_wire rfl rfl rfl

theorem Link.follows_dataSent (l : Link) (number : Byte) : l.Follows (l.dataSent number) := by
  unfold Link.dataSent
  split
  · refine Link.Follows.trans ?_ (Link.follows_awaitAnswer _)
    exact (l.follows_updCurrent _).trans (.of_wire rfl rfl rfl)
  · exact .refl l

theorem Link.follows_goBlock (l : Link) (b : CurrentBlock) : l.Follows (l.goBlock b) := by
  unfold Link.goBlock
  split
  · exact l.follows_sendCurrent
  · exact l.follows_sendCurrent
  · exact .of_wire rfl rfl rfl
  · exact .refl l

theorem Link.Listed.counts {quiet active : Nat} {los : Bool} (h : l.Listed) (hquiet : quiet ≤ 255) (hactive : active ≤ 255) :
    ({ l with los := los, quietCount := quiet, activeCount := active } : Link).Listed :=
  ⟨hquiet, hactive, h.config, h.receiver⟩

theorem Link.follows_counts {quiet active : Nat} {los : Bool} (h : l.Listed → quiet ≤ 255 ∧ active ≤ 255) :
    l.Follows { l with los := los, quietCount := quiet, activeCount := active } :=
  ⟨rfl, rfl, le_rfl, id, fun hl => hl.counts (h hl).1 (h hl).2⟩

theorem Link.follows_receiver {r : Receiver} (h : l.receiver.within → r.within) : l.Follows { l with receiver := r } :=
  ⟨rfl, rfl, le_rfl, id, fun hl => ⟨hl.quiet, hl.active, hl.config, h hl.receiver⟩⟩

theorem Link.follows_config {c : LinkConfig} (h : l.Listed → c.losAssert ≤ 255 ∧ c.losClear ≤ 255) :
    l.Follows { l with config := some c } :=
  ⟨rfl, rfl, le_rfl, id, fun hl => ⟨hl.quiet, hl.active, fun _ hd => Option.some_injective _ hd ▸ h hl, hl.receiver⟩⟩

theorem Link.follows_restart (l : Link) : l.Follows l.restart := Link.follows_counts fun _ => ⟨Nat.zero_le _, Nat.zero_le _⟩

theorem Link.follows_tick (second : Bool) (l : Link) : l.Follows (l.tick second) := by
  refine .of_frame ?_ ?_
  · have hpage : (l.setting.map fun x => { x with lossTimer := countSecond second x.lossTimer }).map SettingPage.page =
        l.setting.map SettingPage.page := by
      rw [Option.map_map]
      rfl
    simp only [Link.frame, Link.tick, hpage]
  · simp only [Link.aborts, Link.tick, Option.isSome_map]
    exact le_rfl

/-! ## A proof that keeps its claim on the activity (R192) -/

/-- Proof q is past IDLE only where proof p is, and then has a request if p has. -/
def Proof.Follows (p q : Proof) : Prop := q.state ≠ .idle → p.state ≠ .idle ∧ (p.request.isSome = true → q.request.isSome = true)

theorem Proof.Follows.refl (p : Proof) : p.Follows p := fun h => ⟨h, id⟩

theorem Proof.Follows.trans {r : Proof} (h : p.Follows q) (h' : q.Follows r) : p.Follows r := fun hr =>
  ⟨(h (h' hr).1).1, (h' hr).2 ∘ (h (h' hr).1).2⟩

theorem Proof.Follows.of_same (hstate : q.state = p.state) (hrequest : q.request = p.request) : p.Follows q := fun h =>
  ⟨hstate ▸ h, fun hp => hrequest ▸ hp⟩

theorem Proof.Follows.of_past (hstate : p.state ≠ .idle) (hrequest : q.request = p.request) : p.Follows q := fun _ =>
  ⟨hstate, fun hp => hrequest ▸ hp⟩

theorem Proof.Follows.of_idle (hstate : q.state = .idle) : p.Follows q := fun h => absurd hstate h

theorem Proof.follows_search {losses : Nat} (h : p.state ≠ .idle) : p.Follows { p.search with syncLosses := losses } :=
  .of_past h rfl

theorem Proof.follows_endBit (r : ProofRequest) (wrong : Bool) (h : p.state ≠ .idle) : p.Follows (p.endBit r wrong) := by
  unfold Proof.endBit
  split
  · exact Proof.follows_search h
  · split
    · exact .of_same rfl rfl
    · exact .refl p

theorem Proof.follows_searchBit (r : ProofRequest) (bit : Bool) (h : p.state ≠ .idle) : p.Follows (p.searchBit r bit) := by
  unfold Proof.searchBit
  dsimp only
  split
  · exact .of_same rfl rfl
  · exact .of_past h rfl

theorem Proof.follows_judgeBit (r : ProofRequest) (bit : Bool) : p.Follows (p.judgeBit r bit) := .of_same rfl rfl

/-! ## The output at rest -/

/-- The states of the pages, the queue and the edition's number stay, and link and proof keep their places. -/
structure OutCalm (s t : State) : Prop where
  pages : t.pages.map (Option.map Page.state) = s.pages.map (Option.map Page.state)
  queue : t.settingQueue = s.settingQueue
  edition : t.edition.number = s.edition.number
  link : s.link.Follows t.link
  proof : s.proof.Follows t.proof

theorem OutCalm.refl (s : State) : OutCalm s s := ⟨rfl, rfl, rfl, .refl _, .refl _⟩

theorem OutCalm.trans (h : OutCalm s t) (k : OutCalm t u) : OutCalm s u :=
  ⟨k.pages.trans h.pages, k.queue.trans h.queue, k.edition.trans h.edition, h.link.trans k.link, h.proof.trans k.proof⟩

theorem OutSame.calm (h : OutSame s t) : OutCalm s t := ⟨h.pages, h.queue, h.edition, h.link ▸ .refl _, h.proof ▸ .refl _⟩

theorem OutCalm.pageState (h : OutCalm s t) (n : Nat) : t.pageState n = s.pageState n := by
  rw [State.pageState_eq, State.pageState_eq, h.pages]

/-- The sizes of the output are kept. -/
structure OutBears (s t : State) : Prop where
  pages : t.pages.length = s.pages.length
  queue : s.settingQueue.length ≤ 8 → t.settingQueue.length ≤ 8
  edition : 1 ≤ s.edition.number ∧ s.edition.number ≤ 99 → 1 ≤ t.edition.number ∧ t.edition.number ≤ 99
  window : s.link.window.length ≤ 32 → t.link.window.length ≤ 32
  listed : s.link.Listed → t.link.Listed

theorem OutBears.refl (s : State) : OutBears s s := ⟨rfl, id, id, id, id⟩

theorem OutBears.trans (h : OutBears s t) (k : OutBears t u) : OutBears s u :=
  ⟨k.pages.trans h.pages, k.queue ∘ h.queue, k.edition ∘ h.edition, k.window ∘ h.window, k.listed ∘ h.listed⟩

theorem OutCalm.bears (h : OutCalm s t) : OutBears s t where
  pages := by simpa using congrArg List.length h.pages
  queue := fun hs => h.queue ▸ hs
  edition := fun hs => h.edition ▸ hs
  window := h.link.window
  listed := h.link.listed

theorem OutBears.keeps (h : OutBears s t) (ha : s.pages.length = 32 → PagesAgree s → PagesAgree t) : OutKeeps s t where
  wide := fun hs =>
    have hedition := h.edition ⟨hs.edition_pos, hs.edition_le⟩
    ⟨h.pages.trans hs.pages, h.queue hs.queue, h.window hs.window, hedition.1, hedition.2⟩
  holds := fun hs => ⟨h.pages.trans hs.pages, pagesHold_iff.2 (ha hs.pages (pagesHold_iff.1 hs.pagesHold))⟩
  lists := h.listed

/-- The pages, the queue, the link and the proof of a state agree as those of another. -/
theorem PagesAgree.of_calm (h : PagesAgree s) (hpages : ∀ n, t.pageState n = s.pageState n) (hqueue : t.settingQueue = s.settingQueue)
    (hlink : s.link.Follows t.link) (hproof : s.proof.Follows t.proof) : PagesAgree t where
  nodup := hqueue ▸ h.nodup
  queue_lt := hqueue ▸ h.queue_lt
  waiting := fun p hp => by rw [hqueue, hpages]; exact h.waiting p hp
  setting := fun p hp => by rw [hpages, hlink.page]; exact h.setting p hp
  linked := fun x hx => by
    have hpage := congrArg (Option.map SettingPage.page) (Option.mem_def.1 hx)
    rw [hlink.page] at hpage
    obtain ⟨y, hy, hyx⟩ := Option.map_eq_some_iff.1 hpage
    have hy' := h.linked y hy
    exact ⟨hyx ▸ hy'.1, hlink.activity.trans hy'.2⟩
  aborts_le := hlink.aborts.trans h.aborts_le
  aborting := fun ht => by
    have hs : s.link.aborts = 1 := Nat.le_antisymm h.aborts_le (ht ▸ hlink.aborts)
    obtain ⟨hnone, hactivity⟩ := h.aborting hs
    refine ⟨?_, hlink.activity.trans hactivity⟩
    have hpage := hlink.page
    rw [hnone] at hpage
    exact Option.map_eq_none_iff.1 hpage
  proving := fun ht => by
    obtain ⟨hpast, hrequest⟩ := hproof ht
    obtain ⟨hsome, hactivity⟩ := h.proving hpast
    exact ⟨hrequest hsome, hlink.activity.trans hactivity⟩

theorem OutCalm.agrees (h : OutCalm s t) (hs : PagesAgree s) : PagesAgree t := hs.of_calm h.pageState h.queue h.link h.proof

theorem OutCalm.keeps (h : OutCalm s t) : OutKeeps s t := h.bears.keeps fun _ => h.agrees

/-! ## Everything at rest but link and proof -/

/-- No story moves, the fits are as they were, and the output is at rest. -/
structure Rest (s t : State) : Prop where
  outer : Outer s t
  out : OutCalm s t

theorem Rest.refl (s : State) : Rest s s := ⟨(Calm.refl s).outer, .refl s⟩

theorem Rest.trans (h : Rest s t) (k : Rest t u) : Rest s u := ⟨h.outer.trans k.outer, h.out.trans k.out⟩

theorem Calm.rest (h : Calm s t) : Rest s t := ⟨h.outer, h.out.calm⟩

theorem Rest.keeps (h : Rest s t) : Keeps s t := .of_inner h.outer.inner h.out.keeps

theorem Rest.updLink {f : Link → Link} (h : s.link.Follows (f s.link)) : Rest s (s.updLink f) :=
  ⟨.of_outputs rfl, rfl, rfl, rfl, h, .refl _⟩

theorem Rest.updProof {f : Proof → Proof} (h : s.proof.Follows (f s.proof)) : Rest s (s.updProof f) :=
  ⟨.of_outputs rfl, rfl, rfl, rfl, .refl _, h⟩

/-! ## Blocks, quality and the current page (R182 to R187) -/

theorem Rest.composeNext : Rest s s.composeNext := by
  unfold State.composeNext
  split
  · exact .refl s
  · next x hx =>
    split
    · exact .refl s
    · refine .updLink ?_
      refine Link.Follows.trans ?_ (Link.follows_sendUnlessHeld _)
      refine .of_wire ?_ rfl rfl
      simp only [Link.frame, Link.advance, hx, Option.map_some]

theorem Rest.judgeQuality : Rest s s.judgeQuality := by
  unfold State.judgeQuality
  split
  · exact .refl s
  · split
    · exact .refl s
    · split
      · exact (Rest.updLink (.of_wire rfl rfl rfl)).trans (Calm.raise _).rest
      · split
        · exact .updLink (.of_wire rfl rfl rfl)
        · exact .refl s

theorem Rest.settleTry (b : CurrentBlock) (success : Bool) : Rest s (s.settleTry b success) := by
  unfold State.settleTry
  split
  · exact .refl s
  · exact ((Rest.updLink (Link.follows_record _ success)).trans .judgeQuality).trans (.updLink (Link.follows_updCurrent _ _))

theorem Rest.stopAck : Rest s (s.updLink fun l => { l with ackTimer := none }) := .updLink (.of_wire rfl rfl rfl)

theorem Rest.blockDone : Rest s (s.updLink fun l => { l with setting := l.setting.map fun y =>
    { y with blocksDone := y.blocksDone + 1, current := none } }) := by
  refine .updLink (.of_wire ?_ rfl rfl)
  simp only [Link.frame, Option.map_map]
  rfl

theorem Rest.markResent (number : Byte) : Rest s (s.markResent number) := by
  unfold State.markResent
  split
  · exact .updLink (.of_wire rfl rfl rfl)
  · exact .refl s

theorem Proof.follows_updLoop (p : Proof) (f : LoopBlock → LoopBlock) : p.Follows (p.updLoop f) := .of_same rfl rfl

theorem Rest.holdResend : Rest s s.holdResend := by
  unfold State.holdResend
  split
  · split
    · exact .updLink ((Link.follows_updCurrent _ _).trans (Link.follows_withdraw _ _ _))
    · exact .refl s
  · split
    · split
      · exact (Rest.updProof (Proof.follows_updLoop _ _)).trans (.updLink (Link.follows_withdraw _ _ _))
      · exact .refl s
    · exact .refl s

theorem Rest.takeHold : Rest s s.takeHold := by
  unfold State.takeHold
  split
  · exact .refl s
  · exact (Rest.updLink (.of_wire rfl rfl rfl)).trans .holdResend

theorem Rest.sendLoop : Rest s s.sendLoop := by
  unfold State.sendLoop
  split
  · exact .refl s
  · exact (Rest.updProof (Proof.follows_updLoop _ _)).trans (.updLink (.send nofun))

theorem Rest.goLoop (b : LoopBlock) : Rest s (s.goLoop b) := by
  unfold State.goLoop
  split
  · exact .sendLoop
  · exact .sendLoop
  · exact .updLink (.of_wire rfl rfl rfl)
  · exact .refl s

theorem Rest.takeGo : Rest s s.takeGo := by
  unfold State.takeGo
  split
  · exact .refl s
  · have hfree : Rest s (s.updLink fun l => { l with held := false }) := .updLink (.of_wire rfl rfl rfl)
    dsimp only
    split
    · exact hfree.trans (.updLink (Link.follows_goBlock _ _))
    · split
      · exact hfree.trans (.goLoop _)
      · exact hfree

theorem Rest.resumePage : Rest s s.resumePage := by
  unfold State.resumePage
  split
  · exact .refl s
  · next x hx =>
    have hback : Rest s (s.updLink fun l => { l with setting := some { x with suspended := false, lossTimer := none } }) :=
      .updLink (.of_wire (by simp only [Link.frame, hx, Option.map_some]) rfl rfl)
    dsimp only
    split
    · exact hback.trans (.updLink (Link.follows_sendCurrent _))
    · exact hback.trans .composeNext

theorem Rest.loopSent (number : Byte) : Rest s (s.loopSent number) := by
  unfold State.loopSent
  split
  · refine (Rest.updProof (Proof.follows_updLoop _ _)).trans (.updLink ?_)
    refine Link.Follows.trans ?_ (Link.follows_awaitAnswer _)
    exact .of_wire rfl rfl rfl
  · exact .refl s

/-! ## The detector and the receiver (R177, R209) -/

theorem Rest.setReceiver {r : Receiver} (h : s.link.receiver.within → r.within) : Rest s (s.setReceiver r) :=
  .updLink (Link.follows_receiver h)

theorem Rest.enquire : Rest s (s.updLink Link.enquire) := .updLink (Link.follows_enquire _)

theorem Rest.losClears : Rest s s.losClears := by
  unfold State.losClears
  split
  · refine (Calm.raise _).rest.trans (.updLink ?_)
    refine Link.Follows.trans ?_ (Link.follows_enquire _)
    exact .of_wire rfl rfl rfl
  · exact .refl s

theorem Rest.tickLink (second : Bool) : Rest s (s.updLink (Link.tick second)) := .updLink (Link.follows_tick second _)

/-! ## The bits of a proof (R196, R197) -/

theorem Rest.proofAlarm (r : ProofRequest) : Rest s (s.proofAlarm r) := by
  unfold State.proofAlarm
  split
  · exact (Calm.raise _).rest.trans (.updProof (.of_same rfl rfl))
  · exact .refl s

theorem Rest.countBit (r : ProofRequest) (bit : Bool) (h : s.proof.state ≠ .idle) : Rest s (s.countBit r bit) := by
  unfold State.countBit
  have hbit : Rest s (s.updProof fun p => (p.judgeBit r bit).endBit r (bit != r.pattern.next s.proof.generator)) :=
    .updProof ((Proof.follows_judgeBit r bit).trans (Proof.follows_endBit r _ h))
  dsimp only
  split
  · exact hbit.trans (.proofAlarm r)
  · exact hbit

end

end Sys2Proof.Machine
end

section
/-! SUPPORT. The taking of a page, its release, its abort and its ends keep the limits invariants (R34, R163 to R168, R180, R189). -/

namespace Sys2Proof.Machine

section
variable {s t u : State} {n k p : Nat} {g : Page} {y : PageState}

/-! ## The states of the pages after a change of one -/

theorem State.pageState_updPage (f : Page → Page) (q : Nat) : (s.updPage p f).pageState q =
    if q = p then (s.page p).map fun g => (f g).state else s.pageState q := by
  split
  · next h =>
    rw [h, State.pageState, State.page_updPage, Option.map_map]
    rfl
  · next h => rw [State.pageState, State.page_updPage_of_ne _ _ _ _ h, State.pageState]

theorem State.page_of_pageState (h : s.pageState p = some y) : ∃ g, s.page p = some g ∧ g.state = y := Option.map_eq_some_iff.1 h

theorem State.pageState_of_page (h : s.page p = some g) : s.pageState p = some g.state := by rw [State.pageState, h, Option.map_some]

theorem State.pageState_updPage_of_page {f : Page → Page} (hg : s.page p = some g) (q : Nat) :
    (s.updPage p f).pageState q = if q = p then some (f g).state else s.pageState q := by
  rw [State.pageState_updPage, hg, Option.map_some]

theorem OutBears.updPage (f : Page → Page) : OutBears s (s.updPage p f) := ⟨List.length_modify .., id, id, id, id⟩

theorem OutSame.of_outputs (h : t = { s with
    store := t.store, stories := t.stories, desks := t.desks, baskets := t.baskets, fit := t.fit, profiles := t.profiles
    screens := t.screens, lines := t.lines, keyTurn := t.keyTurn, host := t.host, clock := t.clock, strapPins := t.strapPins
    drawn := t.drawn, pending := t.pending }) : OutSame s t := by
  rw [h]
  exact ⟨rfl, rfl, rfl, rfl, rfl⟩

/-! ## What agreement says of the output (R164, R180, R189, R192) -/

theorem PagesAgree.of_setting (h : PagesAgree s) (hset : s.link.setting ≠ none) :
    s.link.activity = .setting ∧ s.link.aborts = 0 ∧ s.proof.state = .idle := by
  obtain ⟨x, hx⟩ := Option.ne_none_iff_exists'.1 hset
  have hactivity := (h.linked x hx).2
  refine ⟨hactivity, ?_, ?_⟩
  · by_contra hne
    exact hset (h.aborting (Nat.le_antisymm h.aborts_le (Nat.one_le_iff_ne_zero.2 hne))).1
  · by_contra hne
    exact nomatch hactivity.symm.trans (h.proving hne).2

/-- An activity that is not SETTING has no page and no abort block. -/
theorem PagesAgree.of_not_setting (h : PagesAgree s) (hactivity : s.link.activity ≠ .setting) :
    s.link.setting = none ∧ s.link.aborts = 0 := by
  constructor
  · by_contra hne
    exact hactivity (h.of_setting hne).1
  · by_contra hne
    exact hactivity (h.aborting (Nat.le_antisymm h.aborts_le (Nat.one_le_iff_ne_zero.2 hne))).2

theorem PagesAgree.idle_of_not_proving (h : PagesAgree s) (hactivity : s.link.activity ≠ .proving) : s.proof.state = .idle := by
  by_contra hne
  exact hactivity (h.proving hne).2

/-- No page is on the link: none is SETTING there, an abort block at most is awaited, and a proof past IDLE has the activity. -/
structure Vacant (s : State) : Prop where
  setting : s.link.setting = none
  aborts : s.link.aborts ≤ 1
  aborting : s.link.aborts = 1 → s.link.activity = .setting
  proving : s.proof.state ≠ .idle → s.proof.request.isSome = true ∧ s.link.activity = .proving

theorem Vacant.of_free (hsetting : s.link.setting = none) (haborts : s.link.aborts = 0) (hproof : s.proof.state = .idle) : Vacant s :=
  ⟨hsetting, by omega, fun h => by omega, fun h => absurd hproof h⟩

/-- Pages and queue that stand as those of an agreement where no page is on the link. -/
theorem PagesAgree.of_vacant (h : PagesAgree s) (hnone : s.link.setting = none) (hpages : ∀ q, t.pageState q = s.pageState q)
    (hqueue : t.settingQueue = s.settingQueue) (hvacant : Vacant t) : PagesAgree t where
  nodup := hqueue ▸ h.nodup
  queue_lt := hqueue ▸ h.queue_lt
  waiting := fun q hq => by rw [hqueue, hpages]; exact h.waiting q hq
  setting := fun q hq => by rw [hpages, h.setting q hq, hnone, hvacant.setting]
  linked := fun x hx => by rw [hvacant.setting] at hx; exact nomatch hx
  aborts_le := hvacant.aborts
  aborting := fun ha => ⟨hvacant.setting, hvacant.aborting ha⟩
  proving := hvacant.proving

/-- The page on the link has left its state, for one that is neither WAITING nor SETTING. -/
theorem PagesAgree.ended (h : PagesAgree s) (hp : s.link.setting.map SettingPage.page = some p) (hy : y ≠ .waiting ∧ y ≠ .setting)
    (hpages : ∀ q, t.pageState q = if q = p then some y else s.pageState q) (hqueue : t.settingQueue = s.settingQueue)
    (hvacant : Vacant t) : PagesAgree t where
  nodup := hqueue ▸ h.nodup
  queue_lt := hqueue ▸ h.queue_lt
  waiting := fun q hq => by
    rw [hqueue, hpages, h.waiting q hq]
    split
    · next hqp =>
      have hset := (h.setting q hq).2 (hqp ▸ hp)
      simp [hset, hy.1]
    · rfl
  setting := fun q hq => by
    rw [hpages, hvacant.setting]
    split
    · simp [hy.2]
    · next hqp =>
      rw [h.setting q hq, hp]
      simp [Ne.symm hqp]
  linked := fun x hx => by rw [hvacant.setting] at hx; exact nomatch hx
  aborts_le := hvacant.aborts
  aborting := fun ha => ⟨hvacant.setting, hvacant.aborting ha⟩
  proving := hvacant.proving

theorem PagesAgree.page_lt (h : PagesAgree s) (hp : s.link.setting.map SettingPage.page = some p) : p < 32 := by
  obtain ⟨x, hx, rfl⟩ := Option.map_eq_some_iff.1 hp
  exact (h.linked x hx).1

theorem PagesAgree.state_of_page (h : PagesAgree s) (hp : s.link.setting.map SettingPage.page = some p) :
    s.pageState p = some .setting := (h.setting p (h.page_lt hp)).2 hp

/-! ## Changes of the link alone -/

theorem Keeps.updLink {f : Link → Link} (hwindow : s.link.window.length ≤ 32 → (f s.link).window.length ≤ 32)
    (hlisted : s.link.Listed → (f s.link).Listed) (h : PagesAgree s → PagesAgree (s.updLink f)) : Keeps s (s.updLink f) :=
  .of_inner (Outer.of_outputs rfl).inner (OutBears.keeps ⟨rfl, id, id, hwindow, hlisted⟩ fun _ => h)

theorem Link.Listed.of_same {l m : Link} (h : (m.quietCount, m.activeCount, m.config, m.receiver) =
    (l.quietCount, l.activeCount, l.config, l.receiver)) (hl : l.Listed) : m.Listed := by
  obtain ⟨hquiet, hactive, hconfig, hreceiver⟩ : m.quietCount = l.quietCount ∧ m.activeCount = l.activeCount ∧
    m.config = l.config ∧ m.receiver = l.receiver := by simpa using h
  exact ⟨hquiet ▸ hl.quiet, hactive ▸ hl.active, hconfig ▸ hl.config, hreceiver ▸ hl.receiver⟩

/-! ## The taking of a page (R180) -/

/-- The head of the queue as it is taken, before its first block. -/
def State.takesHead (s : State) (p : Nat) (rest : List Nat) : State :=
  { s.updPage p fun g => { g with state := .setting } with settingQueue := rest }.updLink fun l =>
    { l with activity := .setting, setting := some ⟨p, 0, 0, 0, none, false, none⟩ }

theorem State.tryTake_of_cons {rest : List Nat} (h : s.settingQueue = p :: rest) :
    s.tryTake = if !s.link.mayTake then s else (s.takesHead p rest).composeNext := by
  rw [State.tryTake, h]
  rfl

theorem Link.idle_of_mayTake {l : Link} (h : ¬(!l.mayTake) = true) : l.activity = .idle := by
  simp only [Link.mayTake, Bool.not_eq_true, Bool.not_eq_false', Bool.and_eq_true, beq_iff_eq] at h
  exact h.1.2

theorem PagesAgree.takesHead {rest : List Nat} (h : PagesAgree s) (hqueue : s.settingQueue = p :: rest)
    (hidle : s.link.activity = .idle) : PagesAgree (s.takesHead p rest) := by
  have hnodup := h.nodup
  rw [hqueue, List.nodup_cons] at hnodup
  have hp : p < 32 := h.queue_lt p (by simp [hqueue])
  obtain ⟨hnone, haborts⟩ := h.of_not_setting (by simp [hidle])
  obtain ⟨g, hg, -⟩ := State.page_of_pageState ((h.waiting p hp).1 (by simp [hqueue]))
  have hstate : ∀ q, (s.takesHead p rest).pageState q = if q = p then some .setting else s.pageState q := fun q =>
    State.pageState_updPage_of_page (f := fun g => { g with state := .setting }) hg q
  refine ⟨hnodup.2, fun q hq => h.queue_lt q (by simp [hqueue, show q ∈ rest from hq]), fun q hq => ?_, fun q hq => ?_, fun x hx => ?_,
    ?_, fun ha => ?_, fun hproof => ?_⟩
  · rw [hstate]
    split
    · next hqp =>
      have hout : p ∉ (s.takesHead p rest).settingQueue := hnodup.1
      simp [hqp, hout]
    · next hqp =>
      rw [← h.waiting q hq, hqueue, List.mem_cons, or_iff_right hqp]
      rfl
  · rw [hstate]
    split
    · next hqp => simp [State.takesHead, State.updLink, hqp]
    · next hqp =>
      rw [h.setting q hq, hnone]
      simp [State.takesHead, State.updLink, Ne.symm hqp]
  · obtain rfl : _ = x := Option.some_injective _ hx
    exact ⟨hp, rfl⟩
  · exact haborts.trans_le (Nat.zero_le 1)
  · exact absurd (haborts.symm.trans ha) Nat.zero_ne_one
  · exact absurd (h.idle_of_not_proving (by simp [hidle])) hproof

theorem OutBears.tryTake : OutBears s s.tryTake := by
  cases hqueue : s.settingQueue with
  | nil =>
    rw [State.tryTake_of_nil hqueue]
    exact .refl s
  | cons p rest =>
    rw [State.tryTake_of_cons hqueue]
    split
    · exact .refl s
    · have hbears : OutBears s (s.takesHead p rest) :=
        ⟨List.length_modify .., fun h => by rw [hqueue] at h; exact Nat.le_of_succ_le h, id, id, Link.Listed.of_same rfl⟩
      exact hbears.trans Rest.composeNext.out.bears

theorem PagesAgree.tryTake (h : PagesAgree s) : PagesAgree s.tryTake := by
  cases hqueue : s.settingQueue with
  | nil => rwa [State.tryTake_of_nil hqueue]
  | cons p rest =>
    rw [State.tryTake_of_cons hqueue]
    split
    · exact h
    · next htake => exact Rest.composeNext.out.agrees (h.takesHead hqueue (Link.idle_of_mayTake htake))

theorem Outer.tryTake : Outer s s.tryTake := .of_outputs (by rw [State.tryTake_only])

theorem Keeps.tryTake : Keeps s s.tryTake := .of_inner Outer.tryTake.inner (OutBears.tryTake.keeps fun _ => PagesAgree.tryTake)

/-! ## The ends of a page (R34, R166, R167) -/

theorem InKeeps.foldl {α : Type} {f : State → α → State} (hf : ∀ t a, InKeeps t (f t a)) (l : List α) : InKeeps s (l.foldl f s) :=
  s.foldl_keeps (InKeeps s) f (fun t a ht => ht.trans (hf t a)) l (.refl s)

theorem InKeeps.updPage (f : Page → Page) : InKeeps s (s.updPage p f) := (Outer.of_outputs rfl).inner

theorem InKeeps.pageSet : InKeeps s (s.pageSet p) := by
  unfold State.pageSet
  split
  · exact .refl s
  · split
    · exact .refl s
    · exact ((InKeeps.updPage _).trans (.foldl (fun _ _ => Keeps.storySet.inner) _)).trans
        ((Calm.raise _).trans (.tellComposing _)).outer.inner

theorem InKeeps.pageReturns (cause : Cause) : InKeeps s (s.pageReturns p g cause) :=
  ((InKeeps.updPage _).trans (.foldl (fun _ _ => Keeps.storyBack.inner) _)).trans
    ((Calm.raise _).trans (.tellComposing _)).outer.inner

theorem OutSame.foldl {α : Type} {f : State → α → State} (hf : ∀ t a, OutSame t (f t a)) (l : List α) : OutSame s (l.foldl f s) :=
  s.foldl_keeps (OutSame s) f (fun t a ht => ht.trans (hf t a)) l (.refl s)

theorem OutSame.storySet (k : Nat) : OutSame s (s.storySet k) := .of_outputs (by rw [State.storySet_only])

theorem OutSame.storyBack (k : Nat) : OutSame s (s.storyBack k) := .of_outputs (by rw [State.storyBack_only])

theorem OutSame.pageSet (h : s.pageState p = some .setting) :
    OutSame (s.updPage p fun x => { x with state := .set_ }) (s.pageSet p) := by
  obtain ⟨g, hg, hstate⟩ := State.page_of_pageState h
  have heq : s.pageSet p = ((g.stories.foldl State.storySet (s.updPage p fun x => { x with state := .set_ })).raise
      .pageSet).tellComposing (pageMessage p (str " SET")) := by
    rw [State.pageSet, hg]
    exact if_neg (fun hne => hne hstate)
  rw [heq]
  exact (OutSame.foldl (fun _ k => .storySet k) _).trans ((Calm.raise _).trans (.tellComposing _)).out

theorem OutSame.pageReturns (cause : Cause) : OutSame (s.updPage p fun x => { x with state := .open_, cause := some cause })
    (s.pageReturns p g cause) :=
  (OutSame.foldl (fun _ k => .storyBack k) _).trans ((Calm.raise _).trans (.tellComposing _)).out

/-- Page p, if it is SETTING, ends as OPEN or SET; the room and the fits are kept. -/
structure EndsPage (p : Nat) (s t : State) : Prop where
  inner : InKeeps s t
  bears : OutBears s t
  ends : s.pageState p = some .setting → ∃ (f : Page → Page) (y : PageState), (∀ g, (f g).state = y) ∧
    (y ≠ .waiting ∧ y ≠ .setting) ∧ OutSame (s.updPage p f) t

theorem EndsPage.of_setting {f : Page → Page} (hinner : InKeeps s t) (hf : ∀ g, (f g).state = y) (hy : y ≠ .waiting ∧ y ≠ .setting)
    (hsame : OutSame (s.updPage p f) t) : EndsPage p s t :=
  ⟨hinner, (OutBears.updPage f).trans hsame.calm.bears, fun _ => ⟨f, y, hf, hy, hsame⟩⟩

theorem EndsPage.of_other (hstate : s.pageState p ≠ some .setting) (hsame : t = s) : EndsPage p s t :=
  ⟨hsame ▸ .refl s, hsame ▸ .refl s, fun h => absurd h hstate⟩

theorem EndsPage.pageSet : EndsPage p s (s.pageSet p) := by
  by_cases h : s.pageState p = some .setting
  · exact .of_setting (f := fun x => { x with state := .set_ }) (y := .set_) .pageSet (fun _ => rfl) (by decide) (.pageSet h)
  · refine .of_other h ?_
    rw [State.pageSet]
    cases hg : s.page p with
    | none => rfl
    | some g => exact if_pos fun hstate => h ((State.pageState_of_page hg).trans (congrArg some hstate))

theorem EndsPage.pageFailed (cause : Cause) : EndsPage p s (s.pageFailed p cause) := by
  by_cases h : s.pageState p = some .setting
  · obtain ⟨g, hg, hstate⟩ := State.page_of_pageState h
    rw [State.pageFailed_of_setting hg hstate]
    exact .of_setting (f := fun x => { x with state := .open_, cause := some cause }) (y := .open_) (.pageReturns cause)
      (fun _ => rfl) (by decide) (.pageReturns cause)
  · refine .of_other h ?_
    rw [State.pageFailed]
    cases hg : s.page p with
    | none => rfl
    | some g => exact if_pos fun hstate => h ((State.pageState_of_page hg).trans (congrArg some hstate))

/-- The page on the link is dropped from it and ends. -/
theorem EndsPage.keeps (h : EndsPage p (s.updLink Link.dropPage) t) (hp : s.link.setting.map SettingPage.page = some p) :
    Keeps s t := by
  have hdrop : OutBears s (s.updLink Link.dropPage) := ⟨rfl, id, id, id, Link.Listed.of_same rfl⟩
  refine .of_inner ((Outer.of_outputs rfl).inner.trans h.inner) ((hdrop.trans h.bears).keeps fun _ hs => ?_)
  have hstate := hs.state_of_page hp
  obtain ⟨f, y, hf, hy, hsame⟩ := h.ends hstate
  obtain ⟨g, hg, -⟩ := State.page_of_pageState hstate
  obtain ⟨-, haborts, hidle⟩ := hs.of_setting fun hnone => by simp [hnone] at hp
  refine hs.ended hp hy (fun q => ?_) hsame.queue (.of_free ?_ ?_ ?_)
  · rw [hsame.pageState, State.pageState_updPage_of_page (s := s.updLink Link.dropPage) hg, hf]
    rfl
  · rw [hsame.link]
    rfl
  · rw [hsame.link]
    exact haborts
  · rw [hsame.proof]
    exact hidle

/-! ## Abort (R168, R189) -/

theorem InKeeps.abortWaiting (hwait : g.state = .waiting) : InKeeps s (s.pageAborted p g) := by
  rw [State.pageAborted, if_pos hwait]
  exact (InKeeps.pageReturns _).trans (Outer.of_outputs rfl).inner

theorem PagesAgree.abortWaiting (h : PagesAgree s) (hg : s.page p = some g) (hwait : g.state = .waiting)
    (hpages : ∀ q, t.pageState q = if q = p then some .open_ else s.pageState q)
    (hqueue : t.settingQueue = s.settingQueue.filter (· != p)) (hlink : t.link = s.link) (hproof : t.proof = s.proof) :
    PagesAgree t where
  nodup := hqueue ▸ h.nodup.filter _
  queue_lt := fun q hq => h.queue_lt q (List.mem_of_mem_filter (hqueue ▸ hq))
  waiting := fun q hq => by
    rw [hqueue, hpages, List.mem_filter, h.waiting q hq]
    split
    · next hqp => simp [hqp]
    · next hqp => simp [hqp]
  setting := fun q hq => by
    rw [hpages, hlink, ← h.setting q hq]
    split
    · next hqp =>
      rw [hqp, State.pageState_of_page hg, hwait]
      simp
    · rfl
  linked := hlink ▸ h.linked
  aborts_le := hlink ▸ h.aborts_le
  aborting := hlink ▸ h.aborting
  proving := by rw [hlink, hproof]; exact h.proving

theorem State.pageState_pageReturns (hg : s.page p = some g) (cause : Cause) (q : Nat) :
    (s.pageReturns p g cause).pageState q = if q = p then some .open_ else s.pageState q := by
  rw [(OutSame.pageReturns cause).pageState, State.pageState_updPage_of_page hg]

theorem Keeps.abortWaiting (hg : s.page p = some g) (hwait : g.state = .waiting) : Keeps s (s.pageAborted p g) := by
  refine .of_inner (.abortWaiting hwait) ?_
  rw [State.pageAborted, if_pos hwait]
  have hsame := OutSame.pageReturns (s := s) (p := p) (g := g) .aborted
  refine OutBears.keeps (((OutBears.updPage _).trans hsame.calm.bears).trans ⟨rfl, fun hq => ?_, id, id, id⟩) fun _ h =>
    h.abortWaiting hg hwait (State.pageState_pageReturns hg _) rfl hsame.link hsame.proof
  have hqueue : (s.pageReturns p g .aborted).settingQueue = s.settingQueue := hsame.queue
  rw [hqueue] at hq
  exact (List.length_filter_le _ _).trans hq

/-- The link after an abort block has taken the page's place. -/
def Link.aborted (l : Link) (page : Nat) : Link :=
  { l.advance with setting := none, ackTimer := none }.send ⟨l.nextNum, .abort, (abortRecord page).bytes⟩

theorem State.galleyAbort_eq {x : SettingPage} (hset : s.link.setting = some x) : s.galleyAbort =
    if s.link.cond = .up ∧ (!s.link.held) = true then s.updLink fun l => l.aborted x.page
    else (s.updLink Link.dropPage).tryTake := by
  rw [State.galleyAbort, hset]
  rfl

theorem Link.aborts_aborted (l : Link) (page : Nat) : (l.aborted page).aborts = l.aborts + 1 := Link.aborts_send _ _

theorem OutBears.galleyAbort : OutBears s s.galleyAbort := by
  cases hset : s.link.setting with
  | none =>
    rw [State.galleyAbort, hset]
    exact .refl s
  | some x =>
    rw [State.galleyAbort_eq hset]
    split
    · exact ⟨rfl, id, id, id, Link.Listed.of_same rfl⟩
    · have hdrop : OutBears s (s.updLink Link.dropPage) := ⟨rfl, id, id, id, Link.Listed.of_same rfl⟩
      exact hdrop.trans .tryTake

theorem Outer.galleyAbort : Outer s s.galleyAbort := .of_outputs (by rw [State.galleyAbort_only])

theorem State.lt_of_page (hg : s.page p = some g) : p < s.pages.length := by
  by_contra h
  simp [State.page, List.getD_eq_getElem?_getD, h] at hg

theorem PagesAgree.abortSetting {u : State} (h : PagesAgree s) (hp : s.link.setting.map SettingPage.page = some p)
    (hpages : ∀ q, u.pageState q = if q = p then some .open_ else s.pageState q) (hqueue : u.settingQueue = s.settingQueue)
    (hlink : u.link = s.link) (hproof : u.proof = s.proof) : PagesAgree u.galleyAbort := by
  obtain ⟨x, hx, -⟩ := Option.map_eq_some_iff.1 hp
  obtain ⟨hactivity, haborts, hidle⟩ := h.of_setting fun hnone => by simp [hnone] at hp
  rw [State.galleyAbort_eq (hlink ▸ hx)]
  split
  · have hsent : (u.link.aborted x.page).aborts = 1 := by rw [Link.aborts_aborted, hlink, haborts]
    refine h.ended hp (y := .open_) (by decide) hpages hqueue ⟨rfl, hsent.le, fun _ => ?_, fun hpast => ?_⟩
    · exact (congrArg Link.activity hlink).trans hactivity
    · exact absurd ((congrArg Proof.state hproof).trans hidle) hpast
  · refine PagesAgree.tryTake (h.ended hp (y := .open_) (by decide) hpages hqueue (.of_free rfl ?_ ?_))
    · exact (congrArg Link.aborts hlink).trans haborts
    · exact (congrArg Proof.state hproof).trans hidle

theorem Keeps.abortSetting (hg : s.page p = some g) (hset : g.state = .setting) : Keeps s (s.pageAborted p g) := by
  have hsame := OutSame.pageReturns (s := s) (p := p) (g := g) .aborted
  rw [State.pageAborted_setting hset]
  refine .of_inner ((InKeeps.pageReturns _).trans Outer.galleyAbort.inner)
    ((((OutBears.updPage _).trans hsame.calm.bears).trans .galleyAbort).keeps fun hlength h => ?_)
  have hp : s.link.setting.map SettingPage.page = some p :=
    (h.setting p (hlength ▸ State.lt_of_page hg)).1 ((State.pageState_of_page hg).trans (congrArg some hset))
  exact h.abortSetting hp (State.pageState_pageReturns hg _) hsame.queue hsame.link hsame.proof

theorem Keeps.abortPage (hg : s.page p = some g) (ht : s.abortPage p g = some t) : Keeps s t := by
  cases hstate : g.state with
  | open_ => simp [State.abortPage_of_off (.inl hstate)] at ht
  | set_ => simp [State.abortPage_of_off (.inr hstate)] at ht
  | waiting =>
    rw [State.abortPage_of_press (.inl hstate)] at ht
    exact Option.some_injective _ ht ▸ .abortWaiting hg hstate
  | setting =>
    rw [State.abortPage_of_press (.inr hstate)] at ht
    exact Option.some_injective _ ht ▸ .abortSetting hg hstate

/-! ## Release (R163, R164) -/

theorem State.releaseCheck_none (h : s.releaseCheck g = none) : g.state = .open_ ∧ s.settingQueue.length < 8 := by
  have hsize : Config.settingQueue = 8 := rfl
  unfold State.releaseCheck at h
  split at h
  · exact nomatch h
  · split at h
    · exact nomatch h
    · next hopen =>
      refine ⟨of_not_not hopen, ?_⟩
      split at h
      · exact nomatch h
      · split at h
        · exact nomatch h
        · split at h
          · exact nomatch h
          · split at h
            · exact nomatch h
            · split at h
              · exact nomatch h
              · next hfull => exact Nat.lt_of_not_le (hsize ▸ hfull)

theorem State.storyReleased_only (k : Nat) : s.storyReleased k =
    { s with stories := (s.storyReleased k).stories, screens := (s.storyReleased k).screens } := by
  unfold State.storyReleased
  split
  · rfl
  · split
    · rw [State.touchStory_only]
      rfl
    · rfl

theorem OutSame.storyReleased (k : Nat) : OutSame s (s.storyReleased k) := .of_outputs (by rw [State.storyReleased_only])

theorem InKeeps.pageWaits : InKeeps s (s.pageWaits p g) :=
  ((InKeeps.updPage _).trans (.foldl (fun _ _ => Keeps.storyReleased.inner) _)).trans (Outer.of_outputs rfl).inner

theorem PagesAgree.released (h : PagesAgree s) (hp : p < 32) (hg : s.page p = some g) (hopen : g.state = .open_)
    (hpages : ∀ q, t.pageState q = if q = p then some .waiting else s.pageState q) (hqueue : t.settingQueue = s.settingQueue ++ [p])
    (hlink : t.link = s.link) (hproof : t.proof = s.proof) : PagesAgree t := by
  have hstate : s.pageState p = some .open_ := (State.pageState_of_page hg).trans (congrArg some hopen)
  have hnot : p ∉ s.settingQueue := fun hmem => by simp [(h.waiting p hp).1 hmem] at hstate
  refine ⟨?_, fun q hq => ?_, fun q hq => ?_, fun q hq => ?_, hlink ▸ h.linked, hlink ▸ h.aborts_le, hlink ▸ h.aborting, ?_⟩
  · rw [hqueue, List.nodup_append]
    exact ⟨h.nodup, List.nodup_singleton p, fun a ha b hb hab => hnot (by rw [← List.mem_singleton.1 hb, ← hab]; exact ha)⟩
  · rw [hqueue, List.mem_append, List.mem_singleton] at hq
    exact hq.elim (h.queue_lt q) fun hqp => hqp ▸ hp
  · rw [hqueue, hpages, List.mem_append, List.mem_singleton]
    split
    · next hqp => simp [hqp]
    · next hqp => rw [or_iff_left hqp, h.waiting q hq]
  · rw [hpages, hlink, ← h.setting q hq]
    split
    · next hqp => simp [hqp, hstate]
    · rfl
  · rw [hlink, hproof]
    exact h.proving

theorem Keeps.pageWaits (hg : s.page p = some g) (hcheck : s.releaseCheck g = none) : Keeps s (s.pageWaits p g) := by
  obtain ⟨hopen, hroom⟩ := State.releaseCheck_none hcheck
  have hsame : OutSame (s.updPage p fun x => { x with state := .waiting, cause := none })
      (g.stories.foldl State.storyReleased (s.updPage p fun x => { x with state := .waiting, cause := none })) :=
    .foldl (fun _ k => .storyReleased k) _
  have hqueue : (s.pageWaits p g).settingQueue = s.settingQueue ++ [p] := by rw [State.pageWaits]; exact congrArg (· ++ [p]) hsame.queue
  have hbears : OutBears s (s.pageWaits p g) :=
    ((OutBears.updPage _).trans hsame.calm.bears).trans ⟨rfl, fun _ => by
      rw [hqueue, List.length_append]
      exact hroom, id, id, id⟩
  refine .of_inner .pageWaits (hbears.keeps fun hlength h =>
    h.released (hlength ▸ State.lt_of_page hg) hg hopen (fun q => ?_) hqueue hsame.link hsame.proof)
  exact (hsame.pageState q).trans (State.pageState_updPage_of_page (f := fun x => { x with state := .waiting, cause := none }) hg q)

theorem Keeps.releasePage (hg : s.page p = some g) (ht : s.releasePage p g = .ok t) : Keeps s t := by
  unfold State.releasePage at ht
  split at ht
  · exact nomatch ht
  · next hcheck =>
    obtain rfl := Except.ok.inj ht
    exact (Keeps.pageWaits hg hcheck).trans .tryTake

end

end Sys2Proof.Machine
end

section
/-! SUPPORT. The answers to blocks, falls and resets of the link, and the start and end of a proof keep the limits invariants (R175 to
R179, R184 to R199). -/

namespace Sys2Proof.Machine

section
variable {s t u : State} {b : CurrentBlock} {x : SettingPage} {c : LinkConfig}

/-! ## Answers to the current block (R184, R186) -/

theorem Rest.page (h : Rest s t) (hset : s.link.setting = some x) : t.link.setting.map SettingPage.page = some x.page := by
  rw [h.out.link.page, hset, Option.map_some]

theorem Keeps.pageEnds {F : State → State} {p : Nat} (hends : ∀ t, EndsPage p t (F t))
    (hp : s.link.setting.map SettingPage.page = some p) : Keeps s (F (s.updLink Link.dropPage)) := (hends _).keeps hp

theorem Keeps.blockAcked (b : CurrentBlock) : Keeps s (s.blockAcked b) := by
  unfold State.blockAcked
  split
  · exact .refl s
  · next x hx =>
    have hdone := (Rest.stopAck.trans (.settleTry b true)).trans (Rest.blockDone (s := (s.updLink _).settleTry b true))
    dsimp only
    split
    · exact (hdone.keeps.trans (.pageEnds (fun _ => .pageSet) (hdone.page hx))).trans .tryTake
    · exact (hdone.trans .composeNext).keeps

theorem Keeps.failTry (b : CurrentBlock) : Keeps s (s.failTry b) := by
  unfold State.failTry
  split
  · exact .refl s
  · next x hx =>
    have hdone : Rest s ((s.updLink fun l => { l with ackTimer := none }).settleTry b false) := Rest.stopAck.trans (.settleTry b false)
    dsimp only
    split
    · exact (hdone.keeps.trans (.pageEnds (F := fun t => t.pageFailed x.page .linkErrors) (fun _ => .pageFailed _) (hdone.page hx))).trans
        .tryTake
    · refine (hdone.trans (.updLink ?_)).keeps
      exact (Link.follows_updCurrent _ _).trans (Link.follows_sendUnlessHeld _)

theorem Keeps.lossExpires : Keeps s s.lossExpires := by
  unfold State.lossExpires
  split
  · exact .refl s
  · next x hx =>
    split
    · exact (Keeps.pageEnds (F := fun t => t.pageFailed x.page .linkLost) (fun _ => .pageFailed _) (by rw [hx]; rfl)).trans .tryTake
    · exact .refl s

theorem Keeps.pageReset : Keeps s s.pageReset := by
  unfold State.pageReset
  split
  · exact .refl s
  · next x hx => exact .pageEnds (F := fun t => t.pageFailed x.page .reset) (fun _ => .pageFailed _) (by rw [hx]; rfl)

/-! ## The abort wait (R189) -/

theorem PagesAgree.endAbortWait (h : PagesAgree s) (hwait : s.link.abortWait.isSome = true) :
    PagesAgree ((s.updLink fun l => { l with abortWait := none }).updLink fun l => { l with activity := .idle }) := by
  have hcount : s.link.aborts = (s.link.forward.countP fun b => b.kind == .abort) + 1 := by rw [Link.aborts, if_pos hwait]
  have hone : s.link.aborts = 1 := Nat.le_antisymm h.aborts_le (by omega)
  obtain ⟨hnone, hactivity⟩ := h.aborting hone
  have hzero : (s.link.forward.countP fun b => b.kind == .abort) = 0 := by omega
  exact h.of_vacant hnone (fun _ => rfl) rfl (.of_free hnone hzero (h.idle_of_not_proving (by simp [hactivity])))

theorem Keeps.endAbortWait (hwait : s.link.abortWait.isSome = true) : Keeps s s.endAbortWait := by
  refine Keeps.trans (.of_inner (Outer.of_outputs rfl).inner ?_) .tryTake
  exact OutBears.keeps ⟨rfl, id, id, id, Link.Listed.of_same rfl⟩ fun _ h => h.endAbortWait hwait

theorem Keeps.abortWaitExpires : Keeps s (if s.link.abortWait.isSome then s.endAbortWait else s) := by
  split
  · next h => exact .endAbortWait h
  · exact .refl s

theorem Link.abortWait_of_names {l : Link} {number : Byte} (h : l.namesAbort number = true) : l.abortWait.isSome = true := by
  obtain ⟨w, hw, -⟩ := (Option.any_eq_true _ _).1 h
  rw [hw, Option.isSome_some]

/-! ## The proof (R193 to R198) -/

/-- The activity of a proof that has ended becomes IDLE. -/
theorem PagesAgree.proofDone (h : PagesAgree s) (hactivity : s.link.activity = .proving)
    (hpages : ∀ q, t.pageState q = s.pageState q) (hqueue : t.settingQueue = s.settingQueue)
    (hlink : t.link.setting = s.link.setting) (haborts : t.link.aborts = s.link.aborts) (hidle : t.proof.state = .idle) : PagesAgree t := by
  obtain ⟨hnone, hzero⟩ := h.of_not_setting (by simp [hactivity])
  exact h.of_vacant hnone hpages hqueue (.of_free (hlink.trans hnone) (haborts.trans hzero) hidle)

theorem Keeps.proofDone (h : s.unlooping = true) : Keeps s s.proofDone := by
  simp only [State.unlooping, Bool.and_eq_true, beq_iff_eq] at h
  refine Keeps.trans (.updLink id (Link.Listed.of_same rfl) fun hs => ?_) (Calm.raise _).keeps
  exact hs.proofDone h.1 (fun _ => rfl) rfl rfl rfl h.2

/-- What ends a proof, before its UNLOOP block or its end. -/
def State.proofStops (s : State) (r : ProofRequest) (cause : EndCause) : State :=
  ((if (cause = .done ∨ cause = .stopped) ∧ !s.proof.firstSync then s.proofAlarm r else s).updProof fun p =>
    p.ended r cause).updLink fun l => { l with ackTimer := none }

theorem State.proofEnd_eq {r : ProofRequest} (hr : s.proof.request = some r) (cause : EndCause) (unloop : Bool) :
    s.proofEnd cause unloop = if unloop then (s.proofStops r cause).updLink fun l => l.send ⟨l.nextNum, .unloop, []⟩
      else (s.proofStops r cause).proofDone := by
  rw [State.proofEnd, hr]
  rfl

theorem Rest.proofStops (r : ProofRequest) (cause : EndCause) : Rest s (s.proofStops r cause) := by
  have hend : ∀ v : State, Rest v ((v.updProof fun p => p.ended r cause).updLink fun l => { l with ackTimer := none }) :=
    fun v => (Rest.updProof (.of_idle rfl)).trans .stopAck
  unfold State.proofStops
  split
  · exact (Rest.proofAlarm r).trans (hend _)
  · exact hend s

theorem State.proof_proofStops (r : ProofRequest) (cause : EndCause) : (s.proofStops r cause).proof.state = .idle := rfl

/-- A proof whose UNLOOP block is sent. -/
theorem Rest.proofEnd (cause : EndCause) : Rest s (s.proofEnd cause true) := by
  cases hr : s.proof.request with
  | none =>
    rw [State.proofEnd, hr]
    exact .refl s
  | some r =>
    rw [State.proofEnd_eq hr, if_pos rfl]
    exact (Rest.proofStops r cause).trans (.updLink (.send nofun))

/-- A proof that ends at once. -/
theorem Keeps.proofEnd (hpast : s.proof.state ≠ .idle) (cause : EndCause) : Keeps s (s.proofEnd cause false) := by
  cases hr : s.proof.request with
  | none =>
    rw [State.proofEnd, hr]
    exact .refl s
  | some r =>
    have hstops := Rest.proofStops (s := s) r cause
    rw [State.proofEnd_eq hr, if_neg Bool.false_ne_true]
    have houter : Outer s (s.proofStops r cause).proofDone :=
      (hstops.outer.trans (Outer.of_outputs rfl)).trans (Calm.raise _).outer
    have hbears : OutBears s ((s.proofStops r cause).updLink fun l => { l with activity := .idle, returnBits := false }) :=
      hstops.out.bears.trans ⟨rfl, id, id, id, Link.Listed.of_same rfl⟩
    refine .of_inner houter.inner ((hbears.trans (Calm.raise _).out.calm.bears).keeps fun _ h => ?_)
    have hproving := (h.proving hpast).2
    have hstopped := hstops.out.agrees h
    refine (Calm.raise _).out.calm.agrees (PagesAgree.proofDone hstopped (hstops.out.link.activity.trans hproving) (fun _ => rfl) rfl rfl
      rfl rfl)

theorem PagesAgree.request_of_past (h : PagesAgree s) (hpast : s.proof.state ≠ .idle) : ∃ r, s.proof.request = some r :=
  Option.isSome_iff_exists.1 (h.proving hpast).1

theorem Rest.updLoop (f : LoopBlock → LoopBlock) : Rest s (s.updProof fun p => p.updLoop f) := .updProof (Proof.follows_updLoop _ f)

theorem Rest.failLoop (b : LoopBlock) : Rest s (s.failLoop b) := by
  unfold State.failLoop
  dsimp only
  split
  · exact Rest.stopAck.trans (.proofEnd _)
  · have hdue := Rest.stopAck.trans (Rest.updLoop (s := s.updLink fun l => { l with ackTimer := none })
      fun x => { x with tries := x.tries + 1, phase := .resendDue })
    split
    · exact hdue
    · exact hdue.trans .sendLoop

theorem Rest.loopAcked (r : ProofRequest) (h : s.proof.state ≠ .idle) : Rest s (s.loopAcked r) :=
  (Rest.updProof (.of_past h rfl)).trans (.updLink (.of_wire rfl rfl rfl))

theorem Rest.searchBit (r : ProofRequest) (bit : Bool) (h : s.proof.state ≠ .idle) : Rest s (s.updProof fun p => p.searchBit r bit) :=
  .updProof (Proof.follows_searchBit r bit h)

theorem Rest.proofBit (r : ProofRequest) (bit : Bool) : Rest s (s.proofBit r bit) := by
  have hreceived : Rest s (s.updProof fun p => { p with received := p.received + 1, sender := r.pattern.advance p.sender }) :=
    .updProof (.of_same rfl rfl)
  unfold State.proofBit
  dsimp only
  split
  · next hstate =>
    have hbit := hreceived.trans (.searchBit r bit (show s.proof.state ≠ .idle by simp [hstate]))
    split
    · exact hbit.trans (.proofEnd _)
    · exact hbit
  · next hstate =>
    have hbit := hreceived.trans (.countBit r bit (show s.proof.state ≠ .idle by simp [hstate]))
    split
    · exact hbit.trans (.proofEnd _)
    · exact hbit
  · split
    · exact hreceived.trans (.proofEnd _)
    · exact hreceived
  · split
    · exact hreceived.trans (.proofEnd _)
    · exact hreceived

theorem PagesAgree.proofStart {f : Proof → Proof} (h : PagesAgree s) (hidle : s.link.activity = .idle)
    (hrequest : (f s.proof).request.isSome = true) :
    PagesAgree ((s.updProof f).updLink fun l => { l.advance with activity := .proving }) := by
  obtain ⟨hnone, hzero⟩ := h.of_not_setting (by simp [hidle])
  exact h.of_vacant hnone (fun _ => rfl) rfl ⟨hnone, hzero.trans_le (Nat.zero_le 1),
    fun ha => absurd (hzero.symm.trans ha) Nat.zero_ne_one, fun _ => ⟨hrequest, rfl⟩⟩

theorem Keeps.proofStart (r : ProofRequest) (hidle : s.link.activity = .idle) : Keeps s (s.proofStart r) := by
  unfold State.proofStart
  dsimp only
  have hstart : ∀ f : Proof → Proof, (f s.proof).request.isSome = true →
      Keeps s ((s.updProof f).updLink fun l => { l.advance with activity := .proving }) := fun f hrequest =>
    .of_inner (Outer.of_outputs rfl).inner (OutBears.keeps ⟨rfl, id, id, id, Link.Listed.of_same rfl⟩ fun _ h =>
      h.proofStart hidle hrequest)
  split
  · exact hstart _ rfl
  · exact (hstart _ rfl).trans Rest.sendLoop.keeps

/-! ## Answers (R184, R189, R195) -/

theorem Keeps.takeAck (number : Byte) : Keeps s (s.takeAck number) := by
  unfold State.takeAck
  split
  · exact .blockAcked _
  · split
    · next h => exact .endAbortWait (Link.abortWait_of_names h)
    · split
      · next b r hloop hr =>
        refine (Rest.loopAcked _ fun hidle => ?_).keeps
        simp [State.loopAnswered, hidle] at hloop
      · exact .refl s

theorem Keeps.takeNak (number : Byte) : Keeps s (s.takeNak number) := by
  unfold State.takeNak
  split
  · exact .failTry _
  · split
    · next h => exact .endAbortWait (Link.abortWait_of_names h)
    · split
      · exact (Rest.failLoop _).keeps
      · exact .refl s

theorem Keeps.ackExpires : Keeps s s.ackExpires := by
  unfold State.ackExpires
  split
  · exact (Keeps.failTry _).trans (Rest.markResent _).keeps
  · split
    · exact ((Rest.failLoop _).trans (.markResent _)).keeps
    · exact Rest.stopAck.keeps

/-! ## Falls and rises of the link (R177 to R179, R188) -/

theorem Link.page_suspend (l : Link) : l.suspend.setting.map SettingPage.page = l.setting.map SettingPage.page := by
  rw [Link.suspend, Option.map_map]
  exact l.page_updCurrent _

theorem Link.page_fall (l : Link) : l.fall.setting.map SettingPage.page = l.setting.map SettingPage.page := by
  unfold Link.fall
  dsimp only
  split
  · exact l.page_suspend
  · rfl

theorem Link.frame_fall (l : Link) : (l.fall.window, l.fall.quietCount, l.fall.activeCount, l.fall.config, l.fall.receiver) =
    (l.window, l.quietCount, l.activeCount, l.config, l.receiver) := by
  unfold Link.fall
  dsimp only
  split <;> rfl

theorem Link.activity_fall (l : Link) : l.fall.activity = if l.activity = .setting ∧ l.setting.isNone = true then .idle else l.activity := rfl

theorem PagesAgree.fall (h : PagesAgree s) : PagesAgree (s.updLink Link.fall) := by
  by_cases hnone : s.link.setting = none
  · refine h.of_vacant hnone (fun _ => rfl) rfl ⟨?_, Nat.zero_le 1, nofun, fun hpast => ⟨(h.proving hpast).1, ?_⟩⟩
    · have hpage := s.link.page_fall
      rw [hnone] at hpage
      exact Option.map_eq_none_iff.1 hpage
    · have hproving := (h.proving hpast).2
      exact (s.link.activity_fall).trans ((if_neg (by simp [hproving])).trans hproving)
  · have hactivity : s.link.fall.activity = s.link.activity := s.link.activity_fall.trans (if_neg (by simp [hnone]))
    have hwindow := s.link.frame_fall
    refine h.of_calm (fun _ => rfl) rfl ⟨s.link.page_fall, hactivity, Nat.zero_le _, fun hw => ?_, Link.Listed.of_same ?_⟩ (.refl _)
    · exact (congrArg (fun q => q.1.length) hwindow).trans_le hw
    · exact congrArg Prod.snd hwindow

theorem Keeps.fall : Keeps s (s.updLink Link.fall) := by
  have hwindow := s.link.frame_fall
  refine .updLink (fun hw => ?_) (Link.Listed.of_same (congrArg Prod.snd hwindow)) PagesAgree.fall
  exact (congrArg (fun q => q.1.length) hwindow).trans_le hw

theorem Keeps.linkFalls : Keeps s s.linkFalls := by
  unfold State.linkFalls
  have hfall : Keeps s ((s.raise .linkChange).updLink Link.fall) := (Calm.raise _).keeps.trans .fall
  dsimp only
  split
  · next hpast => exact hfall.trans (.proofEnd hpast _)
  · split
    · next h => exact hfall.trans (.proofDone h)
    · exact hfall

theorem Keeps.losAsserts : Keeps s s.losAsserts := by
  unfold State.losAsserts
  split
  · exact .linkFalls
  · exact .refl s

theorem Rest.counts {quiet active : Nat} {los : Bool} (h : s.link.Listed → quiet ≤ 255 ∧ active ≤ 255) :
    Rest s (s.updLink fun l => { l with los := los, quietCount := quiet, activeCount := active }) := .updLink (Link.follows_counts h)

theorem Keeps.losWindow (hc : s.link.config = some c) (active : Bool) : Keeps s (s.losWindow c active) := by
  have hzero : s.link.Listed → (0 : Nat) ≤ 255 ∧ (0 : Nat) ≤ 255 := fun _ => ⟨Nat.zero_le _, Nat.zero_le _⟩
  unfold State.losWindow
  dsimp only
  split
  · split
    · exact (Rest.counts fun h => ⟨h.quiet, Nat.zero_le _⟩).keeps
    · split
      · exact ((Rest.counts hzero).trans .losClears).keeps
      · next hlt =>
        refine (Rest.counts fun h => ⟨h.quiet, ?_⟩).keeps
        have := (h.config c hc).2
        omega
  · split
    · exact (Rest.counts fun h => ⟨Nat.zero_le _, h.active⟩).keeps
    · split
      · exact (Rest.counts hzero).keeps.trans .losAsserts
      · next hlt =>
        refine (Rest.counts fun h => ⟨?_, h.active⟩).keeps
        have := (h.config c hc).1
        omega

theorem Rest.risen : Rest s (s.updLink fun l => { l with cond := .up, acquireTimer := none, window := [], poor := false }) :=
  .updLink ⟨rfl, rfl, le_rfl, fun _ => Nat.zero_le _, Link.Listed.of_same rfl⟩

theorem Keeps.linkUp : Keeps s s.linkUp :=
  (((Calm.raise _).rest.trans .risen).trans .resumePage).keeps.trans .tryTake

/-! ## The return channel (R209) -/

theorem Keeps.takeReturn (code : ReturnCode) (number : Byte) : Keeps s (s.takeReturn code number) := by
  unfold State.takeReturn
  split
  · exact .linkUp
  · exact .takeAck number
  · exact .takeNak number
  · exact Rest.takeHold.keeps
  · exact Rest.takeGo.keeps
  · exact .refl s

theorem Receiver.within_append {got : List Byte} (b : Byte) (h : Receiver.within (.assembling got)) (hlength : got.length ≠ 3) :
    Receiver.within (.assembling (got ++ [b])) := by
  simp only [Receiver.within, List.length_append, List.length_singleton] at h ⊢
  omega

theorem Keeps.returnByte (b : Byte) : Keeps s (s.returnByte b) := by
  unfold State.returnByte
  split
  · exact .refl s
  · split
    · split
      · exact (Rest.setReceiver fun _ => Nat.zero_le _).keeps
      · exact .refl s
    · have hhunt : Rest s (s.setReceiver .hunting) := .setReceiver fun _ => trivial
      dsimp only
      split
      · exact hhunt.keeps.trans (.takeReturn _ _)
      · exact hhunt.keeps
    · next got hthree hgot =>
      refine (Rest.setReceiver fun h => ?_).keeps
      rw [hgot] at h
      refine Receiver.within_append b h fun hlength => ?_
      obtain ⟨a, c, d, rfl⟩ := List.length_eq_three.1 hlength
      exact hthree a c d rfl

theorem Keeps.returnChannel (code : ReturnCode) (number : ReturnNumber) (check : BitVec 16) :
    Keeps s (s.returnChannel code number check) := Keeps.foldl (fun _ b => .returnByte b) _

/-! ## The ends of blocks (R183, R198) -/

theorem Link.aborts_abortSent_le {l : Link} {b : ForwardBlock} {rest pre : List ForwardBlock} (hl : l.forward = pre ++ b :: rest)
    (hb : b.kind = .abort) : (({ l with forward := rest } : Link).abortSent b.num).aborts ≤ l.aborts := by
  have hcount : (l.forward.countP fun b => b.kind == .abort) =
      (pre.countP fun b => b.kind == .abort) + ((rest.countP fun b => b.kind == .abort) + 1) := by
    rw [hl, List.countP_append, List.countP_cons]
    simp [hb]
  have hafter : (({ l with forward := rest } : Link).abortSent b.num).aborts ≤ (rest.countP fun b => b.kind == .abort) + 1 := by
    refine Nat.add_le_add_left ?_ _
    split
    · exact le_rfl
    · exact Nat.zero_le 1
  have hbefore : (l.forward.countP fun b => b.kind == .abort) ≤ l.aborts := Nat.le_add_right ..
  omega

theorem Link.follows_drop {l : Link} {rest : List ForwardBlock} (h : rest.Sublist l.forward) : l.Follows { l with forward := rest } :=
  .of_frame rfl (Link.aborts_le_of_sublist h rfl)

theorem Keeps.blockSent {b : ForwardBlock} {rest : List ForwardBlock}
    (h : s.link.forward.dropWhile (fun b => b.kind == .enquiry) = b :: rest) :
    Keeps s ((s.updLink fun l => { l with forward := rest }).blockSent b) := by
  have hsuffix : (b :: rest) <:+ s.link.forward := h ▸ List.dropWhile_suffix _
  have hdrop : Rest s (s.updLink fun l => { l with forward := rest }) :=
    .updLink (Link.follows_drop ((List.sublist_cons_self b rest).trans hsuffix.sublist))
  unfold State.blockSent
  split
  · exact (hdrop.trans (.updLink (Link.follows_dataSent _ _))).keeps
  · exact (hdrop.trans (.loopSent _)).keeps
  · next hb =>
    obtain ⟨pre, hpre⟩ := hsuffix
    refine .of_inner (Outer.of_outputs rfl).inner (OutBears.keeps ⟨rfl, id, id, id, Link.Listed.of_same rfl⟩ fun _ hs => ?_)
    exact hs.of_calm (fun _ => rfl) rfl (.of_frame rfl (Link.aborts_abortSent_le hpre.symm hb)) (.refl _)
  · exact hdrop.keeps
  · exact hdrop.keeps

theorem Keeps.unloopSent {rest : List ForwardBlock} (h : rest.Sublist s.link.forward) :
    Keeps s (if (s.updLink fun l => { l with forward := rest }).unlooping then
      (s.updLink fun l => { l with forward := rest }).proofDone.tryTake else s.updLink fun l => { l with forward := rest }) := by
  have hdrop : Rest s (s.updLink fun l => { l with forward := rest }) := .updLink (Link.follows_drop h)
  split
  · next hun => exact (hdrop.keeps.trans (.proofDone hun)).trans .tryTake
  · exact hdrop.keeps

/-! ## Reset and configuration (R175, R176, R191) -/

theorem Keeps.proofReset : Keeps s s.proofReset := by
  unfold State.proofReset
  split
  · next h => exact .proofEnd h _
  · split
    · next h => exact .proofDone h
    · exact .refl s

theorem PagesAgree.idle_proofReset (h : PagesAgree s) : s.proofReset.proof.state = .idle := by
  have hdone : ∀ v : State, v.proofDone.proof = v.proof := fun v => by
    rw [State.proofDone, State.raise_only]
    rfl
  by_cases hpast : s.proof.state ≠ .idle
  · obtain ⟨r, hr⟩ := h.request_of_past hpast
    rw [State.proofReset, if_pos hpast, State.proofEnd_eq hr, if_neg Bool.false_ne_true, hdone]
    exact State.proof_proofStops r .reset
  · rw [State.proofReset, if_neg hpast]
    split
    · rw [hdone]
      exact of_not_not hpast
    · exact of_not_not hpast

theorem State.link_proof_pageFailed (p : Nat) (cause : Cause) : (s.pageFailed p cause).link = s.link ∧ (s.pageFailed p cause).proof = s.proof := by
  unfold State.pageFailed
  split
  · exact ⟨rfl, rfl⟩
  · next g _ =>
    split
    · exact ⟨rfl, rfl⟩
    · have hsame := OutSame.pageReturns (s := s) (p := p) (g := g) cause
      exact ⟨hsame.link, hsame.proof⟩

theorem State.setting_pageReset : s.pageReset.link.setting = none ∧ s.pageReset.proof = s.proof := by
  unfold State.pageReset
  split
  · next h => exact ⟨h, rfl⟩
  · next x _ =>
    obtain ⟨hlink, hproof⟩ := State.link_proof_pageFailed (s := s.updLink Link.dropPage) x.page .reset
    rw [hlink, hproof]
    exact ⟨rfl, rfl⟩

theorem Rest.goDown : Rest s s.goDown := by
  have hdown : ∀ v : State, Rest v (v.updLink fun l => { l with cond := .down }.restart) := fun v => by
    refine .updLink (Link.Follows.trans ?_ (Link.follows_restart _))
    exact .of_wire rfl rfl rfl
  unfold State.goDown
  split
  · exact .refl s
  · dsimp only
    split
    · exact (Calm.raise _).rest.trans (hdown _)
    · exact hdown s

theorem Keeps.resetFields : Keeps s (s.proofReset.pageReset.updLink Link.resetFields) := by
  refine .of_inner ((Keeps.proofReset.trans .pageReset).inner.trans (Outer.of_outputs rfl).inner) ?_
  have hout := (Keeps.proofReset.trans Keeps.pageReset (s := s)).out
  refine ⟨fun hs => ?_, fun hs => ?_, fun hs => Link.Listed.of_same (l := s.proofReset.pageReset.link) rfl (hout.lists hs)⟩
  · have h := hout.wide hs
    exact ⟨h.pages, h.queue, Nat.zero_le _, h.edition_pos, h.edition_le⟩
  · have h := hout.holds hs
    have hagrees := pagesHold_iff.1 h.pagesHold
    obtain ⟨hnone, hproof⟩ := State.setting_pageReset (s := s.proofReset)
    have hidle := (congrArg Proof.state hproof).trans (pagesHold_iff.1 hs.pagesHold).idle_proofReset
    exact ⟨h.pages, pagesHold_iff.2 (hagrees.of_vacant hnone (fun _ => rfl) rfl (.of_free rfl rfl hidle))⟩

theorem Keeps.linkReset : Keeps s s.linkReset := Keeps.resetFields.trans Rest.goDown.keeps

theorem Rest.restart : Rest s (s.updLink Link.restart) := .updLink (Link.follows_restart _)

theorem Keeps.configureLink (hc : s.link.Listed → c.losAssert ≤ 255 ∧ c.losClear ≤ 255) : Keeps s (s.configureLink c) := by
  have hstored : Rest s (s.updLink fun l => { l with config := some c }) := .updLink (Link.follows_config hc)
  unfold State.configureLink
  dsimp only
  split
  · refine ((hstored.trans (Calm.raise _).rest).trans (.updLink ?_)).keeps
    exact (Link.follows_restart _).trans (.of_wire rfl rfl rfl)
  · split
    · exact hstored.keeps.trans .tryTake
    · split
      · exact (hstored.keeps.trans .linkFalls).trans Rest.restart.keeps
      · exact (hstored.trans .restart).keeps

theorem clampTo_le {a b v : Nat} (h : a ≤ b) : clampTo a b v ≤ b := by
  unfold clampTo
  omega

theorem Link.Listed.configAfter {l : Link} (h : l.Listed) (f : LinkFields) :
    (configAfter l.config f).losAssert ≤ 255 ∧ (configAfter l.config f).losClear ≤ 255 := by
  have hold : (l.config.getD (LinkConfig.default f.rate)).losAssert ≤ 255 ∧ (l.config.getD (LinkConfig.default f.rate)).losClear ≤ 255 := by
    cases hc : l.config with
    | none => exact ⟨(by decide : 16 ≤ 255), (by decide : 32 ≤ 255)⟩
    | some c => exact h.config c hc
  have hassert : f.config.clamp.losAssert ≤ 255 := clampTo_le (by decide)
  have hclear : f.config.clamp.losClear ≤ 255 := clampTo_le (by decide)
  constructor
  · simp only [Sys2Proof.Machine.configAfter, LinkConfig.raisePoorClear, LinkConfig.overlay]
    split
    · exact hassert
    · exact hold.1
  · simp only [Sys2Proof.Machine.configAfter, LinkConfig.raisePoorClear, LinkConfig.overlay]
    split
    · exact hclear
    · exact hold.2

end

end Sys2Proof.Machine
end

section
/-! SUPPORT. Every request of the catalogue keeps the limits invariants (11.5). -/

namespace Sys2Proof.Machine

section
variable {s t : State} {n k d p : Nat} {x : Story} {g : Page} {r : State × List Byte} {st : Status} {fields : List Byte}

/-! ## Pages defined, and the edition (R158 to R161, R170, R171) -/

/-- Pages change among the states that are neither WAITING nor SETTING. -/
theorem PagesAgree.of_loose (h : PagesAgree s)
    (hpages : ∀ q < 32, t.pageState q = s.pageState q ∨ ∀ y, y = .waiting ∨ y = .setting → s.pageState q ≠ some y ∧ t.pageState q ≠ some y)
    (hqueue : t.settingQueue = s.settingQueue) (hlink : t.link = s.link) (hproof : t.proof = s.proof) : PagesAgree t where
  nodup := hqueue ▸ h.nodup
  queue_lt := hqueue ▸ h.queue_lt
  waiting := fun q hq => by
    rw [hqueue, h.waiting q hq]
    rcases hpages q hq with heq | hloose
    · rw [heq]
    · exact iff_of_false (hloose _ (.inl rfl)).1 (hloose _ (.inl rfl)).2
  setting := fun q hq => by
    rw [hlink, ← h.setting q hq]
    rcases hpages q hq with heq | hloose
    · rw [heq]
    · exact iff_of_false (hloose _ (.inr rfl)).2 (hloose _ (.inr rfl)).1
  linked := hlink ▸ h.linked
  aborts_le := hlink ▸ h.aborts_le
  aborting := hlink ▸ h.aborting
  proving := by rw [hlink, hproof]; exact h.proving

theorem Keeps.definePage {label : List Byte} {slots : List Slot} (hnone : s.page p = none) : Keeps s (s.definePage p label slots) := by
  refine .of_inner (Outer.of_outputs rfl).inner (OutBears.keeps ⟨List.length_set .., id, id, id, id⟩ fun _ h =>
    h.of_loose (fun q _ => ?_) rfl rfl rfl)
  by_cases hq : q = p
  · subst hq
    refine .inr fun y hy => ⟨by simp [State.pageState, hnone], ?_⟩
    simp only [State.pageState, State.page, State.definePage, List.getD_eq_getElem?_getD, List.getElem?_set_self']
    rcases hy with rfl | rfl <;> cases s.pages[q]? <;> simp
  · refine .inl ?_
    simp [State.pageState, State.page, State.definePage, List.getD_eq_getElem?_getD, List.getElem?_set_ne (Ne.symm hq)]

theorem Calm.redefinePage {label : List Byte} {slots : List Slot} : Calm s (s.redefinePage p g label slots) :=
  (Calm.foldl _ (fun _ k => .unplace k) _).trans (.updPage fun _ => rfl)

theorem Keeps.place (slot : Slot) (hk : k < 512) : Keeps s (s.place p slot k) := by
  have hput : Calm s ((s.updPage p fun g => g.updSlot slot.num fun x => { x with story := some k }).updStory k fun x =>
      { x with placement := some (p, slot.num) }) :=
    (Calm.updPage (f := fun g => g.updSlot slot.num fun x => { x with story := some k }) fun _ => rfl).trans
      (Calm.updStory (f := fun x => { x with placement := some (p, slot.num) }) (fun _ => rfl) fun _ => rfl)
  unfold State.place
  dsimp only
  split
  · exact hput.keeps.trans (.versionChange_updStory (fun _ => rfl) fun _ => hk)
  · exact hput.keeps

theorem Rest.editionClosed : Rest s { s with edition := { s.edition with closed := true } } :=
  ⟨.of_outputs rfl, rfl, rfl, rfl, .refl _, .refl _⟩

theorem State.pageState_ne_of_pagesIn {y : PageState} (h : s.pagesIn y = 0) (q : Nat) : s.pageState q ≠ some y := fun hq => by
  obtain ⟨g, hg, hstate⟩ := State.page_of_pageState hq
  have hmem : some g ∈ s.pages := by
    rw [State.page, List.getD_eq_getElem?_getD] at hg
    cases hpage : s.pages[q]? with
    | none => simp [hpage] at hg
    | some o =>
      rw [hpage] at hg
      exact (show o = some g from hg) ▸ List.mem_of_getElem? hpage
  have hnot := List.countP_eq_zero.1 h (some g) hmem
  simp [hstate] at hnot

theorem Keeps.rollover {number : Nat} (hempty : s.pagesIn .waiting + s.pagesIn .setting = 0)
    (hnumber : 1 ≤ s.edition.number ∧ s.edition.number ≤ 99 → 1 ≤ number ∧ number ≤ 99) : Keeps s (s.rollover number) := by
  refine .of_inner (Outer.of_outputs rfl).inner (OutBears.keeps ⟨List.length_map .., id, hnumber, id, id⟩ fun _ h =>
    h.of_loose (fun q _ => .inr fun y hy => ⟨?_, fun hq => ?_⟩) rfl rfl rfl)
  · rcases hy with rfl | rfl
    · exact State.pageState_ne_of_pagesIn (by omega) q
    · exact State.pageState_ne_of_pagesIn (by omega) q
  · obtain ⟨g, hg, hstate⟩ := State.page_of_pageState hq
    have hpage := getD_map_of_default (f := fun g : Option Page => g.map fun x =>
      { x with edition := number, state := .open_, cause := none }) (l := s.pages) (d := none) (e := none) rfl q
    have hopen := hpage.symm.trans hg
    obtain ⟨x, -, rfl⟩ := Option.map_eq_some_iff.1 hopen
    rcases hy with rfl | rfl <;> exact nomatch hstate

/-! ## Replies -/

/-- A reply comes with a state that keeps the limits invariants. -/
def ReplyKeeps (s : State) (r : State × List Byte) : Prop := Keeps s r.1

theorem ReplyKeeps.refuse : ReplyKeeps s (refuse s st) := .refl s

theorem ReplyKeeps.same : ReplyKeeps s (answer s st fields) := .refl s

theorem ReplyKeeps.answer (h : Keeps s t) : ReplyKeeps s (answer t st fields) := h

theorem ReplyKeeps.guard {c : Prop} [Decidable c] (h : ¬c → ReplyKeeps s r) : ReplyKeeps s (if c then Machine.refuse s st else r) := by
  split
  · exact .refuse
  · next hc => exact h hc

theorem ReplyKeeps.withStory {f : Story → State × List Byte} (h : ∀ x, n < 512 → s.story n = some x → ReplyKeeps s (f x)) :
    ReplyKeeps s (withStory n s f) := by
  unfold Machine.withStory
  refine .guard fun hn => ?_
  split
  · exact .refuse
  · next x hx => exact h x (by omega) hx

theorem ReplyKeeps.withPage {f : Page → State × List Byte} (h : ∀ g, s.page p = some g → ReplyKeeps s (f g)) :
    ReplyKeeps s (withPage p s f) := by
  unfold Machine.withPage
  split
  · exact .refuse
  · next g hg => exact h g hg

end

section
variable (body : List Byte) (s : State)

/-! ## Identification, the time of day, resets and attention -/

theorem reqIdentify_keeps : ReplyKeeps s (reqIdentify body s) := by
  unfold reqIdentify
  split
  · exact .refuse
  · exact .same

theorem reqTimeSet_keeps : ReplyKeeps s (reqTimeSet body s) := by
  unfold reqTimeSet
  split
  · exact .refuse
  · exact .guard fun _ => .answer (Calm.setTime _).keeps

theorem Keeps.fullReset : Keeps s s.fullReset := .of_meets withinLimits_reset copyConsistent_reset listsWithinLimits_reset

theorem reqReset_keeps : ReplyKeeps s (reqReset body s) := by
  unfold reqReset
  split
  · exact .refuse
  · split
    · exact .answer .screensReset
    · exact .answer .linkReset
    · exact .answer (.fullReset s)
    · exact .refuse

theorem reqAttentionRead_keeps : ReplyKeeps s (reqAttentionRead body s) := by
  unfold reqAttentionRead
  split
  · exact .refuse
  · exact .guard fun _ => .answer ((Calm.clearFlags _).trans (.updHost _)).keeps

theorem reqAttentionEnable_keeps : ReplyKeeps s (reqAttentionEnable body s) := by
  unfold reqAttentionEnable
  split
  · exact .refuse
  · exact .guard fun _ => .answer ((Calm.clearFlags _).trans (.updHost _)).keeps

/-! ## Screens, lines and desks -/

theorem reqProfileDefine_keeps : ReplyKeeps s (reqProfileDefine body s) := by
  unfold reqProfileDefine
  split
  · exact .refuse
  · split
    · exact .refuse
    · exact .guard fun _ => .answer (Calm.storeProfile _ _).keeps

theorem LineFields.line_lt {f : LineFields} {q : Parity} (h : f.parity? = some q) : f.line < 32 := by
  unfold LineFields.parity? at h
  split at h
  · exact nomatch h
  · next hf => omega

theorem reqLineConfigure_keeps : ReplyKeeps s (reqLineConfigure body s) := by
  unfold reqLineConfigure
  split
  · exact .refuse
  · split
    · exact .refuse
    · next hparity =>
      dsimp only
      split
      · exact .refuse
      · next h => exact .answer (.configureLine h (LineFields.line_lt hparity))

theorem reqScreenStatus_keeps : ReplyKeeps s (reqScreenStatus body s) := by
  unfold reqScreenStatus
  split
  · exact .refuse
  · exact .guard fun _ => .same

theorem reqScreenMessage_keeps : ReplyKeeps s (reqScreenMessage body s) := by
  unfold reqScreenMessage
  split
  · exact .refuse
  · exact .guard fun _ => .answer (Calm.messages _ _ _).keeps

theorem reqScreenSignoff_keeps : ReplyKeeps s (reqScreenSignoff body s) := by
  unfold reqScreenSignoff
  split
  · exact .refuse
  · refine .guard fun _ => ?_
    split
    · exact .refuse
    · exact .refuse
    · exact .same
    · next hmode => exact .answer ((Keeps.signOff fun _ => .inl hmode).trans (Calm.tell _ _).keeps)
    · next hmode => exact .answer ((Keeps.signOff fun _ => .inr hmode).trans (Calm.tell _ _).keeps)

theorem reqDeskDefine_keeps : ReplyKeeps s (reqDeskDefine body s) := by
  unfold reqDeskDefine
  split
  · exact .refuse
  · split
    · exact .refuse
    · exact .answer (Calm.storeDesk _ _).keeps

theorem reqDeskRoute_keeps : ReplyKeeps s (reqDeskRoute body s) := by
  unfold reqDeskRoute
  split
  · exact .refuse
  · refine .guard fun _ => ?_
    split
    · exact .refuse
    · exact .guard fun _ => .answer (Calm.storeDesk _ _).keeps

theorem reqDeskList_keeps : ReplyKeeps s (reqDeskList body s) := by
  unfold reqDeskList
  split
  · exact .refuse
  · refine .guard fun _ => ?_
    split
    · exact .same
    · exact .same

/-! ## Fit engine -/

theorem reqFaceDefine_keeps : ReplyKeeps s (reqFaceDefine body s) := by
  unfold reqFaceDefine
  split
  · next face half rest =>
    refine .guard fun _ => ?_
    split
    · exact .refuse
    · next carried _ =>
      refine .guard fun _ => .guard fun _ => ?_
      exact Keeps.loadFace face.toNat (half.toNat == 1) (carried.map (min Config.maxWidth))
  · exact .refuse

theorem reqFitQuiet_keeps : ReplyKeeps s (reqFitQuiet body s) := by
  unfold reqFitQuiet
  split
  · exact .refuse
  · next q _ =>
    have hq : min q 50 ≤ 50 := Nat.min_le_right q 50
    exact .answer (.quietTime hq)

theorem reqFitRequest_keeps : ReplyKeeps s (reqFitRequest body s) := by
  unfold reqFitRequest
  split
  · exact .refuse
  · refine .guard fun hn => ?_
    split
    · exact .refuse
    · exact .answer (.fitNow fun _ => by omega)

theorem reqFitStatus_keeps : ReplyKeeps s (reqFitStatus body s) := by
  unfold reqFitStatus
  split
  · exact .refuse
  · exact .same

/-! ## Stories -/

theorem Keeps.finishLoad {f : LoadFields} {slug : List Byte} {priority : Priority} {style : Style} {t : State} {k : Nat}
    (hempty : s.emptyRecord = some k) (hdesk : f.desk < 16)
    (h : Stored (s.setStory k (some (newStory slug .queued priority f.desk none style s.clock.time))) t) :
    (∀ u, t.finishLoad k f.desk = .error u → Keeps s u) ∧ ∀ u, t.finishLoad k f.desk = .ok u → Keeps s u := by
  obtain ⟨hk, hnone⟩ := State.emptyRecord_eq_some hempty
  unfold State.finishLoad
  split
  · next hroom =>
    refine ⟨by simp, fun u hu => ?_⟩
    rw [← Except.ok.inj hu]
    exact .loaded hnone hk (fun _ => hdesk) h hroom
  · refine ⟨fun u hu => ?_, by simp⟩
    rw [← Except.error.inj hu]
    exact (Calm.unloaded hnone (h.trans (.releaseChain k))).keeps

theorem reqStoryLoad_keeps : ReplyKeeps s (reqStoryLoad body s) := by
  unfold reqStoryLoad
  split
  · exact .refuse
  · next f _ =>
    refine .guard fun _ => ?_
    split
    · refine .guard fun hf => ?_
      split
      · exact .refuse
      · refine .guard fun _ => ?_
        split
        · exact .refuse
        · next k hempty =>
          dsimp only
          split
          · exact .refuse
          · next t happend =>
            have hfinish := Keeps.finishLoad s hempty (by omega) (Stored.appendRun happend)
            split
            · next u hu => exact hfinish.1 u hu
            · next u hu => exact hfinish.2 u hu
    · exact .refuse

theorem reqStoryAppend_keeps : ReplyKeeps s (reqStoryAppend body s) := by
  unfold reqStoryAppend
  split
  · exact .refuse
  · refine .guard fun _ => .withStory fun x _ hx => .guard fun _ => ?_
    split
    · exact .same
    · split
      · exact .refuse
      · next h => exact .answer (.hostAppend h hx)

theorem reqStoryRead_keeps : ReplyKeeps s (reqStoryRead body s) := by
  unfold reqStoryRead
  split
  · exact .refuse
  · exact .guard fun _ => .withStory fun _ _ _ => .same

theorem reqStoryStatus_keeps : ReplyKeeps s (reqStoryStatus body s) := by
  unfold reqStoryStatus
  split
  · exact .refuse
  · refine .guard fun _ => ?_
    split
    · exact .same
    · exact .same

theorem Keeps.changedUnless {c : Prop} [Decidable c] {k : Nat} {f : Story → Story} (hf : ∀ x, (f x).tie = x.tie) (hk : k < 512) :
    Keeps s (if c then s else (s.updStory k f).versionChange k) := by
  split
  · exact .refl s
  · exact .versionChange_updStory hf fun _ => hk

theorem reqStoryStyle_keeps : ReplyKeeps s (reqStoryStyle body s) := by
  unfold reqStoryStyle
  split
  · exact .refuse
  · exact .guard fun _ => .withStory fun _ hk _ => .guard fun _ => .answer (.changedUnless s (fun _ => rfl) hk)

theorem reqStoryHead_keeps : ReplyKeeps s (reqStoryHead body s) := by
  unfold reqStoryHead
  split
  · exact .refuse
  · refine .guard fun _ => .guard fun _ => .withStory fun _ hk _ => .guard fun _ => ?_
    dsimp only
    split
    · exact .answer (.changedUnless s (fun _ => rfl) hk)
    · exact .answer (.changedUnless s (fun _ => rfl) hk)

theorem reqStoryMove_keeps : ReplyKeeps s (reqStoryMove body s) := by
  unfold reqStoryMove
  split
  · exact .refuse
  · refine .guard fun hd => .withStory fun _ _ _ => .guard fun _ => ?_
    split
    · exact .refuse
    · next h => exact .answer (.moveStory h (by omega))

theorem reqStorySpike_keeps : ReplyKeeps s (reqStorySpike body s) := by
  unfold reqStorySpike
  split
  · exact .refuse
  · refine .withStory fun x _ hx => .guard fun hspikable => .answer ?_
    have hspike : s.spikable x = true := by simpa using hspikable
    cases howner : x.owner with
    | none => exact .spiked hx hspike howner
    | some p => exact .spikedFrom hx hspike howner

theorem reqStoryPurge_keeps : ReplyKeeps s (reqStoryPurge body s) := by
  unfold reqStoryPurge
  split
  · exact .refuse
  · refine .withStory fun x _ hx => ?_
    split
    · next h => exact .answer (.purge hx (h.imp_right And.left))
    · exact .refuse

theorem reqStoryRevise_keeps : ReplyKeeps s (reqStoryRevise body s) := by
  unfold reqStoryRevise
  split
  · exact .refuse
  · exact .withStory fun x _ hx => .guard fun hset => .guard fun _ => .guard fun _ => .guard fun hroom =>
      .answer (.revise hx (of_not_not hset) (by simpa using hroom))

theorem reqStoryFind_keeps : ReplyKeeps s (reqStoryFind body s) := by
  unfold reqStoryFind
  split
  · exact .refuse
  · split
    · exact .refuse
    · split
      · exact .refuse
      · exact .same

/-! ## Pages and editions -/

theorem reqPageDefine_keeps : ReplyKeeps s (reqPageDefine body s) := by
  unfold reqPageDefine
  split
  · exact .refuse
  · refine .guard fun _ => ?_
    split
    · exact .refuse
    · refine .guard fun _ => ?_
      dsimp only
      split
      · next hnone => exact .answer (.definePage hnone)
      · exact .guard fun _ => .answer Calm.redefinePage.keeps

theorem reqPagePlace_keeps : ReplyKeeps s (reqPagePlace body s) := by
  unfold reqPagePlace
  split
  · exact .refuse
  · refine .guard fun hn => .withPage fun _ _ => ?_
    split
    · exact .guard fun _ => .guard fun _ => .guard fun _ => .guard fun _ => .answer (.place _ (by omega))
    · exact .refuse

theorem reqPageUnplace_keeps : ReplyKeeps s (reqPageUnplace body s) := by
  unfold reqPageUnplace
  split
  · exact .refuse
  · refine .guard fun _ => .withPage fun _ _ => ?_
    split
    · exact .refuse
    · refine .guard fun _ => ?_
      split
      · exact .same
      · exact .answer (Calm.unplace _).keeps

theorem reqPageRelease_keeps : ReplyKeeps s (reqPageRelease body s) := by
  unfold reqPageRelease
  split
  · exact .refuse
  · refine .guard fun _ => .withPage fun _ hg => ?_
    split
    · exact .same
    · next h => exact .answer (.releasePage hg h)

theorem reqPageAbort_keeps : ReplyKeeps s (reqPageAbort body s) := by
  unfold reqPageAbort
  split
  · exact .refuse
  · refine .guard fun _ => .withPage fun _ hg => ?_
    split
    · exact .refuse
    · next h => exact .answer (.abortPage hg h)

theorem reqPageStatus_keeps : ReplyKeeps s (reqPageStatus body s) := by
  unfold reqPageStatus
  split
  · exact .refuse
  · refine .guard fun _ => ?_
    split
    · exact .same
    · exact .same

theorem reqEditionClose_keeps : ReplyKeeps s (reqEditionClose body s) := by
  unfold reqEditionClose
  split
  · exact .refuse
  · exact .answer Rest.editionClosed.keeps

theorem reqEditionRollover_keeps : ReplyKeeps s (reqEditionRollover body s) := by
  unfold reqEditionRollover
  split
  · exact .refuse
  · refine .guard fun hrestart => .guard fun _ => .guard fun hempty => .guard fun hlast => .answer (.rollover (of_not_not hempty) fun _ => ?_)
    split
    · omega
    · omega

theorem reqEditionStatus_keeps : ReplyKeeps s (reqEditionStatus body s) := by
  unfold reqEditionStatus
  split
  · exact .refuse
  · exact .same

/-! ## Typesetter link and proof -/

theorem reqLinkConfigure_keeps : ReplyKeeps s (reqLinkConfigure body s) := by
  unfold reqLinkConfigure
  split
  · exact .refuse
  · exact .guard fun _ => .answer (.configureLink fun h => h.configAfter _)

theorem reqLinkStatus_keeps : ReplyKeeps s (reqLinkStatus body s) := by
  unfold reqLinkStatus
  split
  · exact .refuse
  · exact .same

theorem reqProofStart_keeps : ReplyKeeps s (reqProofStart body s) := by
  unfold reqProofStart
  split
  · exact .refuse
  · split
    · exact .guard fun _ => .guard fun hidle => .guard fun _ => .answer (.proofStart _ (of_not_not hidle))
    · exact .refuse

theorem reqProofStop_keeps : ReplyKeeps s (reqProofStop body s) := by
  unfold reqProofStop
  split
  · exact .refuse
  · exact .guard fun _ => .answer (Rest.proofEnd _).keeps

theorem reqProofResult_keeps : ReplyKeeps s (reqProofResult body s) := by
  unfold reqProofResult
  split
  · exact .refuse
  · exact .same

/-! ## The catalogue -/

variable {body s}

theorem catalogue_keeps {kind : Nat} {handler : List Byte → State → State × List Byte} (hk : catalogue kind = some handler)
    (body : List Byte) (s : State) : ReplyKeeps s (handler body s) := by
  unfold catalogue at hk
  split at hk <;> cases hk
  · exact reqIdentify_keeps body s
  · exact reqTimeSet_keeps body s
  · exact reqReset_keeps body s
  · exact reqAttentionRead_keeps body s
  · exact reqAttentionEnable_keeps body s
  · exact reqProfileDefine_keeps body s
  · exact reqLineConfigure_keeps body s
  · exact reqScreenStatus_keeps body s
  · exact reqScreenMessage_keeps body s
  · exact reqScreenSignoff_keeps body s
  · exact reqDeskDefine_keeps body s
  · exact reqDeskRoute_keeps body s
  · exact reqDeskList_keeps body s
  · exact reqFaceDefine_keeps body s
  · exact reqFitQuiet_keeps body s
  · exact reqFitRequest_keeps body s
  · exact reqFitStatus_keeps body s
  · exact reqStoryLoad_keeps body s
  · exact reqStoryAppend_keeps body s
  · exact reqStoryRead_keeps body s
  · exact reqStoryStatus_keeps body s
  · exact reqStoryStyle_keeps body s
  · exact reqStoryHead_keeps body s
  · exact reqStoryMove_keeps body s
  · exact reqStorySpike_keeps body s
  · exact reqStoryPurge_keeps body s
  · exact reqStoryRevise_keeps body s
  · exact reqStoryFind_keeps body s
  · exact reqPageDefine_keeps body s
  · exact reqPagePlace_keeps body s
  · exact reqPageUnplace_keeps body s
  · exact reqPageRelease_keeps body s
  · exact reqPageAbort_keeps body s
  · exact reqPageStatus_keeps body s
  · exact reqEditionClose_keeps body s
  · exact reqEditionRollover_keeps body s
  · exact reqEditionStatus_keeps body s
  · exact reqLinkConfigure_keeps body s
  · exact reqLinkStatus_keeps body s
  · exact reqProofStart_keeps body s
  · exact reqProofStop_keeps body s
  · exact reqProofResult_keeps body s

end

end Sys2Proof.Machine
end

section
/-! SUPPORT. Every key keeps the limits invariants (R120 to R140, R147). -/

namespace Sys2Proof.Machine

section
variable {A : Nat → Nat → Prop} {s t u : State} {n k d : Nat} {x y : Story} {buffer : List Byte}

/-! ## The capacities alone -/

/-- The capacities and the output are kept, whether the room agrees or not. -/
structure Bounded (s t : State) : Prop where
  room : RoomWide s → RoomWide t
  fit : FitWide s → FitWide t
  out : OutKeeps s t

theorem Bounded.refl (s : State) : Bounded s s := ⟨id, id, .refl s⟩

theorem Bounded.trans (h : Bounded s t) (h' : Bounded t u) : Bounded s u :=
  ⟨h'.room ∘ h.room, h'.fit ∘ h.fit, h.out.trans h'.out⟩

theorem Keeps.bounded (h : Keeps s t) : Bounded s t := ⟨h.room.wide, h.fit.wide, h.out⟩

theorem Bounded.of_apart (hapart : Apart s t) (hroom : RoomWide s → RoomWide t) : Bounded s t :=
  ⟨hroom, hapart.fit.keeps.wide, hapart.out.keeps⟩

theorem Calm.bounded (h : Calm s t) : Bounded s t := h.keeps.bounded

theorem Bounded.keeps (h : Bounded s t) (hkeeps : RoomHolds s → Keeps s t) : Keeps s t := .of_holds h.room h.fit h.out hkeeps

theorem Bounded.updScreen {f : Screen → Screen}
    (hf : ∀ c, c.bells ≤ 4 ∧ c.escape ≤ 4 → (f c).bells ≤ 4 ∧ (f c).escape ≤ 4) : Bounded s (s.updScreen n f) :=
  .of_apart (.of_tables rfl) fun hs => hs.updScreen hf

theorem Bounded.enterStory (r : Role) : Bounded s (s.enterStory n k r) := by
  rw [State.enterStory_eq]
  exact .updScreen fun _ hc => hc

theorem Bounded.backToDesk : Bounded s (s.backToDesk n) :=
  .of_apart (by rw [State.backToDesk_only]; exact .of_tables rfl) RoomWide.backToDesk

theorem Withdrawal.bounded (h : Withdrawal k s t x y) (hstirs : Stirs A s t) (hviewers : y.viewers = x.viewers) : Bounded s t :=
  .of_apart h.apart fun hs => hstirs.wide hs (fun d => by
    rw [h.held]
    split
    · exact (List.length_filter_le ..).trans (hs.held d)
    · exact hs.held d) (h.viewers hs fun hx => hviewers ▸ hx)

theorem Arriving.bounded (h : Arriving k s t x y) (hstirs : Stirs A s t) (hroom : (s.held y.desk).length < 64)
    (hviewers : y.viewers = x.viewers) : Bounded s t :=
  .of_apart h.apart fun hs => hstirs.wide hs (fun d => by
    rw [(h.held d).length_eq]
    split
    · next hd => exact hd.1 ▸ hroom
    · exact hs.held d) (h.viewers hs fun hx => hviewers ▸ hx)

theorem Bounded.toQueued (hx : s.story k = some x) (hroom : s.roomAt x.desk = true) (cause : Option Nat) :
    Bounded s (s.toQueued k cause) :=
  (Arriving.toQueued hx cause).bounded (Stirs.toQueued hx cause) (State.roomAt_held hroom) rfl

/-! ## Stories asked for, created, filed and taken -/

theorem Bounded.openAt : Bounded s (s.openAt n k) := by
  unfold State.openAt
  split
  · exact (Calm.deny n _).bounded
  · next x hx =>
    split
    · exact ((Withdrawal.toOpen hx).bounded (Stirs.toOpen hx) rfl).trans (.enterStory _)
    · exact (Calm.deny n _).bounded

theorem Bounded.viewAt : Bounded s (s.viewAt n k) := by
  unfold State.viewAt
  split
  · exact (Calm.deny n _).bounded
  · next x hx =>
    split
    · exact (Calm.deny n _).bounded
    · next hroom =>
      have hlt : x.viewers.length < 8 := by simpa [Config.maxViewers] using hroom
      have hjoin : Bounded s (s.updStory k (Story.viewedAt n)) := .of_apart (.updStory fun _ => rfl) fun hs =>
        hs.updStory fun y hy _ => by
          obtain rfl := Option.some.inj (hx.symm.trans hy)
          exact (length_insertNum_le n _).trans hlt
      exact hjoin.trans (.enterStory _)

theorem Bounded.openSlug (view : Bool) : Bounded s (s.openSlug n view buffer) := by
  unfold State.openSlug
  split
  · exact (Calm.deny n _).bounded
  · split
    · exact .viewAt
    · exact .openAt

theorem Bounded.createAt {desk : Desk} {slug : List Byte} : Bounded s (s.createAt n d k desk slug) := by
  have hfill : Bounded s (s.setStory k (some (newStory slug .open_ .routine d (some n) desk.style s.clock.time))) :=
    ⟨fun hs => hs.setStory _ fun z hz => by cases hz; exact Nat.zero_le _, fun hs => ⟨hs.faces, hs.quiet⟩,
      OutSame.keeps ⟨rfl, rfl, rfl, rfl, rfl⟩⟩
  exact hfill.trans (.enterStory _)

theorem Bounded.newAt : Bounded s (s.newAt n buffer) := by
  unfold State.newAt
  split
  · split
    · exact (Calm.deny n _).bounded
    · split
      · split
        · exact (Calm.deny n _).bounded
        · exact .createAt
      · exact (Calm.deny n _).bounded
  · exact (Calm.deny n _).bounded

theorem Bounded.sendAt : Bounded s (s.sendAt n k buffer) := by
  unfold State.sendAt
  split
  · exact .refl s
  · next x hx =>
    split
    · exact (Calm.deny n _).bounded
    · next d hd =>
      have hx' : (s.updStory k fun x => { x with desk := d }).story k = some { x with desk := d } := by
        rw [State.story_updStory, hx]
        rfl
      have hmoved : Bounded s (s.updStory k fun x => { x with desk := d }) :=
        .of_apart (.updStory fun _ => rfl) fun hs => hs.updStory fun _ _ => id
      exact (hmoved.trans (.toQueued hx' (State.sendTo_eq_ok hd).2 _)).trans .backToDesk

theorem Bounded.spikeAt : Bounded s (s.spikeAt n k) := by
  unfold State.spikeAt
  split
  · exact .refl s
  · next x hx =>
    split
    · exact ((Withdrawal.toSpiked hx).bounded (Stirs.toSpiked hx) rfl).trans .backToDesk
    · exact (Calm.deny n _).bounded

theorem Bounded.take (hx : s.story k = some x) : Bounded s (s.take k n) := by
  rw [State.take_eq hx]
  exact (Bounded.of_apart (.taken hx x.owner _) fun hs => hs.taken hx x.owner _).trans
    ((Calm.reportDesk x.desk).trans (.touchStory k)).bounded

theorem Bounded.takeAt : Bounded s (s.takeAt n buffer) := by
  unfold State.takeAt
  split
  · exact (Calm.deny n _).bounded
  · split
    · exact (Calm.deny n _).bounded
    · split
      · next hopen =>
        obtain ⟨x, hx, -⟩ := (Option.any_eq_true _ _).1 hopen
        exact .take hx
      · exact (Calm.deny n _).bounded

theorem Bounded.enterDeskFresh : Bounded s (s.enterDeskFresh n d) :=
  .of_apart (Still.enterDeskFresh n d).apart RoomWide.enterDeskFresh

theorem Bounded.resume : Bounded s (s.resume n) :=
  .updScreen fun c hc => by
    rw [snapTop_only]
    exact hc

theorem Bounded.signOn : Bounded s (s.signOn n buffer) := by
  unfold State.signOn State.letIn
  dsimp only
  split
  · split
    · exact .enterDeskFresh
    · split
      · exact .resume
      · exact (Bounded.of_apart Apart.graceExpires RoomWide.graceExpires).trans .enterDeskFresh
  · exact (Calm.deny n _).bounded

theorem Bounded.moveSlugAt : Bounded s (s.moveSlugAt n buffer) := by
  unfold State.moveSlugAt
  split
  · exact (Calm.deny n _).bounded
  · split
    · exact (Calm.deny n _).bounded
    · split
      · have hask : Bounded s (s.ask n .superMoveDesk []) := .updScreen fun _ hc => hc
        exact hask.trans (.updScreen fun _ hc => hc)
      · exact (Calm.deny n _).bounded

/-! ## Prompts completed for pages and moves (R136, R140) -/

theorem State.typedPage_eq_some {g : Page} (h : s.typedPage buffer = some (k, g)) : s.page k = some g := by
  unfold State.typedPage at h
  split at h
  · exact nomatch h
  · obtain ⟨g', hg, heq⟩ := Option.map_eq_some_iff.1 h
    obtain ⟨rfl, rfl⟩ := Prod.mk.inj heq
    exact hg

theorem Keeps.releaseAt : Keeps s (s.releaseAt n buffer) := by
  unfold State.releaseAt
  split
  · exact (Calm.deny n _).keeps
  · split
    · exact (Calm.deny n _).keeps
    · next hpage =>
      split
      · exact (Calm.deny n _).keeps
      · next h => exact (Keeps.releasePage (State.typedPage_eq_some hpage) h).trans (Calm.tell n _).keeps

theorem Keeps.abortAt : Keeps s (s.abortAt n buffer) := by
  unfold State.abortAt
  split
  · exact (Calm.deny n _).keeps
  · split
    · exact (Calm.deny n _).keeps
    · next hpage =>
      split
      · exact (Calm.deny n _).keeps
      · next h => exact .abortPage (State.typedPage_eq_some hpage) h

theorem Keeps.moveDeskAt (o : Option Nat) : Keeps s (s.moveDeskAt n buffer o) := by
  unfold State.moveDeskAt
  split
  · exact (Calm.deny n _).keeps
  · next hd =>
    split
    · exact (Calm.deny n _).keeps
    · split
      · exact (Calm.deny n _).keeps
      · split
        · exact (Calm.deny n _).keeps
        · split
          · exact (Calm.deny n _).keeps
          · next h =>
            have hlt : ofDigits buffer < 16 := by
              rw [not_or] at hd
              omega
            exact (Keeps.moveStory h hlt).trans (Calm.tell n _).keeps

/-! ## What an open prompt says of its screen (R123) -/

theorem Mode.signedOff_of_asks {m : Mode} (h : m.asks .signon = true) : m = .signedOff := by
  cases m <;> simp [Mode.asks] at h ⊢

theorem Mode.desk_of_asks {m : Mode} {p : Prompt} (hp : p = .newSlug ∨ p = .openSlug) (h : m.asks p = true) : m = .desk := by
  rcases hp with rfl | rfl <;> cases m <;> simp [Mode.asks] at h ⊢

theorem Mode.edit_of_asks {m : Mode} {p : Prompt} (hp : p = .sendDesk ∨ p = .spikeConfirm) (h : m.asks p = true) : m = .edit := by
  rcases hp with rfl | rfl <;> cases m <;> simp [Mode.asks] at h ⊢

theorem Mode.desk_or_view_of_asks {m : Mode} (h : m.asks .superTake = true) : m = .desk ∨ m = .view := by
  cases m <;> simp [Mode.asks] at h ⊢

theorem Mode.asks_superMoveDesk {m : Mode} (h : m.asks .superMoveSlug = true) : m.asks .superMoveDesk = true := by
  cases m <;> simp [Mode.asks] at h ⊢

/-- The prompt of screen n closed. -/
def State.unprompted (s : State) (n : Nat) : State := s.updScreen n Screen.closePrompt

theorem Calm.unprompted : Calm s (s.unprompted n) := .updScreen (Screen.follows_closePrompt _)

theorem State.screen_unprompted : ((s.unprompted n).screen n).mode = (s.screen n).mode ∧ ((s.unprompted n).screen n).prompt = .closed := by
  rw [State.unprompted, State.screen_updScreen_eq]
  split
  · exact ⟨rfl, rfl⟩
  · next hn =>
    have hreset : s.screen n = .reset := by
      by_contra hne
      exact hn ⟨rfl, State.lt_of_screen_ne hne⟩
    rw [hreset]
    exact ⟨rfl, rfl⟩

theorem RoomHolds.asks (hs : RoomHolds s) {p : Prompt} (hp : (s.screen n).prompt = p) : (s.screen n).mode.asks p = true :=
  hp ▸ (Screen.holds_iff.1 (hs.shown.holds n)).asks

/-- What a closed prompt asked for. -/
theorem Keeps.prompted (hb : Bounded (s.unprompted n) u) (h : RoomHolds s → Keeps (s.unprompted n) u) : Keeps s u :=
  (Calm.unprompted.bounded.trans hb).keeps fun hs => Calm.unprompted.keeps.trans (h hs)

/-- The screen of a closed prompt stands in DESK. -/
theorem RoomHolds.desk_unprompted (hs : RoomHolds s) {p : Prompt} (hprompt : (s.screen n).prompt = p) (hp : p = .newSlug ∨ p = .openSlug) :
    ((s.unprompted n).screen n).mode = .desk ∧ ((s.unprompted n).screen n).prompt = .closed :=
  ⟨State.screen_unprompted.1.trans (Mode.desk_of_asks hp (hs.asks hprompt)), State.screen_unprompted.2⟩

theorem Keeps.openSlug (view : Bool) (hat : (s.screen n).mode = .desk ∧ (s.screen n).prompt = .closed) :
    Keeps s (s.openSlug n view buffer) := by
  unfold State.openSlug
  split
  · exact (Calm.deny n _).keeps
  · split
    · exact .viewAt fun _ => hat
    · exact .openAt fun _ => hat

theorem Keeps.takeAt (hat : (s.screen n).mode = .desk ∨ (s.screen n).mode = .view) (hprompt : (s.screen n).prompt = .closed) :
    Keeps s (s.takeAt n buffer) := by
  unfold State.takeAt
  split
  · exact (Calm.deny n _).keeps
  · split
    · exact (Calm.deny n _).keeps
    · split
      · next hopen =>
        obtain ⟨x, hx, hstate⟩ := (Option.any_eq_true _ _).1 hopen
        exact .take hx (by simpa using hstate) hprompt fun _ => hat
      · exact (Calm.deny n _).keeps

theorem Calm.moveSlugAt (hasks : (s.screen n).mode.asks .superMoveDesk = true) : Calm s (s.moveSlugAt n buffer) := by
  unfold State.moveSlugAt
  split
  · exact .deny n _
  · split
    · exact .deny n _
    · split
      · exact (Calm.ask hasks (Nat.zero_le _)).trans (.updScreen (.of_core rfl))
      · exact .deny n _

/-- An operation on the owned story that a closed prompt asked for. -/
theorem Keeps.prompted_onOwned {p : Prompt} {f : Nat → State} (hprompt : (s.screen n).prompt = p) (hp : p = .sendDesk ∨ p = .spikeConfirm)
    (hb : ∀ k, Bounded (s.unprompted n) (f k)) (h : ∀ k, (s.unprompted n).edits n k → Keeps (s.unprompted n) (f k)) :
    Keeps s ((s.unprompted n).onOwned n f) := by
  unfold State.onOwned
  split
  · next k hk =>
    exact .prompted (hb k) fun hs => h k
      ⟨State.screen_unprompted.1.trans (Mode.edit_of_asks hp (hs.asks hprompt)), State.screen_unprompted.2, Screen.owned_eq_some hk⟩
  · exact Calm.unprompted.keeps

theorem Keeps.complete : Keeps s (s.complete n) := by
  unfold State.complete
  dsimp only
  split
  · exact Calm.unprompted.keeps
  · exact Calm.unprompted.keeps
  · next hprompt =>
    exact .prompted .signOn fun hs => .signOn fun _ =>
      ⟨State.screen_unprompted.1.trans (Mode.signedOff_of_asks (hs.asks hprompt)), State.screen_unprompted.2⟩
  · next hprompt => exact .prompted .newAt fun hs => .newAt fun _ => hs.desk_unprompted hprompt (.inl rfl)
  · next hprompt => exact .prompted (.openSlug false) fun hs => .openSlug false (hs.desk_unprompted hprompt (.inr rfl))
  · next hprompt => exact .prompted_onOwned hprompt (.inl rfl) (fun _ => .sendAt) fun _ hat => .sendAt fun _ => hat
  · exact Calm.unprompted.keeps.trans .releaseAt
  · exact Calm.unprompted.keeps.trans .abortAt
  · exact (Calm.unprompted.trans (.tell n _)).keeps
  · next hprompt =>
    refine .prompted .takeAt fun hs => .takeAt ?_ State.screen_unprompted.2
    rw [State.screen_unprompted.1]
    exact Mode.desk_or_view_of_asks (hs.asks hprompt)
  · next hprompt =>
    refine .prompted .moveSlugAt fun hs => (Calm.moveSlugAt ?_).keeps
    rw [State.screen_unprompted.1]
    exact Mode.asks_superMoveDesk (hs.asks hprompt)
  · exact Calm.unprompted.keeps.trans (.moveDeskAt _)

/-! ## Keys with a prompt open (R124, R133) -/

theorem Prompt.limit_le (p : Prompt) : p.limit ≤ 12 := by cases p <;> decide

theorem Screen.follows_bufferChar (c : Screen) (key : Byte) : c.Follows A (c.bufferChar key) := by
  unfold Screen.bufferChar
  split
  · next h =>
    refine Screen.follows_buffer fun _ => ?_
    have hlimit := c.prompt.limit_le
    rw [List.length_append, List.length_singleton]
    exact (Nat.succ_le_of_lt h.2).trans hlimit
  · exact c.follows_bell

theorem Screen.follows_bufferRubout (c : Screen) : c.Follows A c.bufferRubout := by
  unfold Screen.bufferRubout
  split
  · exact c.follows_bell
  · exact Screen.follows_buffer fun h => by
      rw [List.length_dropLast]
      omega

theorem Keeps.promptChar (key : Byte) : Keeps s (s.promptChar n key) := by
  unfold State.promptChar
  dsimp only
  split
  · next hprompt =>
    split
    · exact .prompted_onOwned hprompt (.inr rfl) (fun _ => .spikeAt) fun _ hat => .spikeAt fun _ => hat
    · exact (Calm.unprompted.trans (.tell n _)).keeps
  · split
    · have hclosed : Calm s (s.unprompted n) := .unprompted
      unfold State.onOwned
      split
      · exact (hclosed.trans (.priorityAt _)).keeps
      · exact hclosed.keeps
    · exact (Calm.bell n).keeps
  · exact (Calm.updScreen (Screen.follows_bufferChar _ key)).keeps

theorem Keeps.promptView : Keeps s (s.promptView n) := by
  unfold State.promptView
  dsimp only
  split
  · next hprompt => exact .prompted (.openSlug true) fun hs => .openSlug true (hs.desk_unprompted hprompt (.inr rfl))
  · exact (Calm.bell n).keeps

theorem Keeps.promptKey (key : Key) : Keeps s (s.promptKey n key) := by
  unfold State.promptKey
  split
  · exact .promptChar _
  · exact (Calm.updScreen (Screen.follows_bufferRubout _)).keeps
  · exact .complete
  · exact .complete
  · exact (Calm.cancel n).keeps
  · exact (Calm.acknowledge n).keeps
  · exact .promptView
  · exact (Calm.bell n).keeps
  · exact (Calm.bell n).keeps

/-! ## Keys in SIGNED_OFF and DESK (R126 to R128) -/

theorem Calm.signedOffKey (hmode : (s.screen n).mode = .signedOff) (key : Key) : Calm s (s.signedOffKey n key) := by
  have hasks : (s.screen n).mode.asks .signon = true := by rw [hmode]; rfl
  unfold State.signedOffKey
  split
  · refine .ask hasks ?_
    split
    · exact Nat.le_add_left 1 11
    · exact Nat.zero_le _
  · exact .ask hasks (Nat.zero_le _)
  · exact .ask hasks (Nat.zero_le _)
  · exact .acknowledge n
  · exact .cancel n
  · exact .bell n
  · exact .bell n

theorem Calm.moveSelection (f : KeyFn) : Calm s (s.moveSelection n f) := by
  refine .updScreen (.of_core ?_)
  split
  · dsimp only
    split
    · exact core_settleBasket s _
    · rfl
  · rfl

theorem Keeps.openSelected (view : Bool) (hat : (s.screen n).mode = .desk ∧ (s.screen n).prompt = .closed) :
    Keeps s (s.openSelected n view) := by
  unfold State.openSelected
  split
  · exact (Calm.deny n _).keeps
  · split
    · exact .viewAt fun _ => hat
    · exact .openAt fun _ => hat

theorem Calm.askPage {p : Prompt} (hasks : (s.screen n).mode.asks p = true) : Calm s (s.askPage n p) := by
  unfold State.askPage
  split
  · exact .ask hasks (Nat.zero_le _)
  · exact .deny n _

theorem Keeps.deskKey (hmode : (s.screen n).mode = .desk) (hprompt : (s.screen n).prompt = .closed) (key : Key) :
    Keeps s (s.deskKey n key) := by
  have hasks : ∀ p, Mode.desk.asks p = true → (s.screen n).mode.asks p = true := fun p h => by rwa [hmode]
  unfold State.deskKey
  split
  case h_1 c =>
    have hone : [foldCase c].length ≤ 12 := Nat.le_add_left 1 11
    split
    · exact (Calm.ask (hasks .openSlug rfl) hone).keeps
    · exact (Calm.bell n).keeps
  case h_8 => exact .openSelected false ⟨hmode, hprompt⟩
  case h_9 => exact .openSelected true ⟨hmode, hprompt⟩
  case h_10 => exact (Calm.ask (hasks .newSlug rfl) (Nat.zero_le _)).keeps
  case h_11 => exact .signOff fun _ => .inl hmode
  case h_12 => exact (Calm.askPage (hasks .pageRelease rfl)).keeps
  case h_13 => exact (Calm.askPage (hasks .pageAbort rfl)).keeps
  case h_14 => exact (Calm.acknowledge n).keeps
  case h_15 => exact (Calm.cancel n).keeps
  case h_16 | h_17 => exact (Calm.bell n).keeps
  all_goals exact (Calm.moveSelection _).keeps

/-! ## Keys in EDIT and VIEW (R129 to R134) -/

theorem Calm.moveKey (f : KeyFn) : Calm s (s.moveKey n f) := by
  refine .updScreen (.of_core ?_)
  split
  · split
    · exact (core_moveCursor ..).trans (core_dropToType s _)
    · exact (core_moveCursor ..).trans (core_dropToType s _)
    · rfl
  · split
    · rfl
    · rfl
    · exact core_moveCursor ..

theorem Calm.switchView : Calm s (s.switchView n) := by
  unfold State.switchView
  dsimp only
  split
  · exact .updScreen (.of_core (core_dropToType s _))
  · split
    · exact .updScreen (.of_core rfl)
    · exact .deny n _

theorem Shown.story_of_shows (hs : Shown s) {r : Role} (h : (s.screen n).story = some (k, r)) : ∃ x, s.story k = some x := by
  obtain ⟨x, hx, -⟩ := (hs.names n k r).1 h
  exact ⟨x, hx⟩

theorem Keeps.editKey (hat : s.edits n k) (key : Key) : Keeps s (s.editKey n k key) := by
  have hasks : ∀ p, Mode.edit.asks p = true → (s.screen n).mode.asks p = true := fun p h => by rwa [hat.1]
  unfold State.editKey State.noteKey
  split
  case h_1 | h_2 | h_3 => exact .insertKey _
  case h_4 => exact .ruboutKey
  case h_5 => exact .deleteKey
  case h_14 => exact .fileAt fun _ => hat
  case h_15 => exact (Calm.ask (hasks .sendDesk rfl) (Nat.zero_le _)).keeps
  case h_16 => exact (Calm.ask (hasks .spikeConfirm rfl) (Nat.zero_le _)).keeps
  case h_17 => exact (Calm.ask (hasks .priority rfl) (Nat.zero_le _)).keeps
  case h_18 =>
    exact .fitNow fun hs => by
      obtain ⟨x, hx⟩ := hs.shown.story_of_shows hat.2.2
      exact hs.lt hx
  case h_19 => exact Calm.switchView.keeps
  case h_20 => exact (Calm.acknowledge n).keeps
  case h_21 => exact (Calm.cancel n).keeps
  case h_22 | h_23 => exact (Calm.deny n _).keeps
  case h_24 | h_25 | h_26 | h_27 | h_28 | h_29 | h_30 => exact (Calm.bell n).keeps
  all_goals exact (Calm.moveKey _).keeps

theorem Keeps.viewKey (hmode : (s.screen n).mode = .view) (hprompt : (s.screen n).prompt = .closed) (key : Key) :
    Keeps s (s.viewKey n key) := by
  unfold State.viewKey
  split
  case h_9 => exact Calm.switchView.keeps
  case h_10 => exact (Calm.acknowledge n).keeps
  case h_11 => exact (Calm.cancel n).keeps
  case h_12 => exact .closeView fun _ => ⟨hmode, hprompt⟩
  case h_29 | h_30 => exact (Calm.bell n).keeps
  case h_1 | h_2 | h_3 | h_4 | h_5 | h_6 | h_7 | h_8 => exact (Calm.moveKey _).keeps
  all_goals exact (Calm.deny n _).keeps

/-! ## Taking a key (R121, R137, R138, R147) -/

theorem Keeps.stateKey (hprompt : (s.screen n).prompt = .closed) (key : Key) : Keeps s (s.stateKey n key) := by
  unfold State.stateKey
  split
  · exact .refl s
  · next hmode => exact (Calm.signedOffKey hmode key).keeps
  · next hmode => exact .deskKey hmode hprompt key
  · next hmode =>
    unfold State.onOwned
    split
    · next k hk => exact .editKey ⟨hmode, hprompt, Screen.owned_eq_some hk⟩ key
    · exact .refl s
  · next hmode => exact .viewKey hmode hprompt key

theorem Mode.asks_super {m : Mode} (hdown : m ≠ .down) (hoff : m ≠ .signedOff) : m.asks .superMoveSlug = true ∧
    (m ≠ .edit → m.asks .superTake = true) := by
  cases m <;> simp [Mode.asks] at hdown hoff ⊢

theorem Calm.functionKey (hdown : (s.screen n).mode ≠ .down) (hoff : (s.screen n).mode ≠ .signedOff) (key : Key) :
    Calm s (s.functionKey n key) := by
  obtain ⟨hmove, htake⟩ := Mode.asks_super hdown hoff
  unfold State.functionKey
  split
  · exact .deny n _
  · split
    · split
      · split
        · exact .deny n _
        · next hedit => exact .ask (htake hedit) (Nat.zero_le _)
      · split
        · exact .ask hmove (Nat.zero_le _)
        · exact .bell n
    · exact .refl s
    · exact .bell n
    · exact .bell n

theorem State.screen_setEscape (count : Nat) : ((s.setEscape n count).screen n).mode = (s.screen n).mode ∧
    ((s.setEscape n count).screen n).prompt = (s.screen n).prompt := by
  rw [State.setEscape, State.screen_updScreen_eq]
  split
  · exact ⟨rfl, rfl⟩
  · exact ⟨rfl, rfl⟩

theorem Keeps.sequenceKey (hprompt : (s.screen n).prompt = .closed) (hdown : (s.screen n).mode ≠ .down)
    (hoff : (s.screen n).mode ≠ .signedOff) (key : Struck) : Keeps s (s.sequenceKey n key) := by
  obtain ⟨hmode', hprompt'⟩ := State.screen_setEscape (s := s) (n := n) 0
  have hclear : Calm s (s.setEscape n 0) := .setEscape (Nat.zero_le _)
  unfold State.sequenceKey
  dsimp only
  split
  · exact (hclear.trans (.functionKey (by rwa [hmode']) (by rwa [hmode']) _)).keeps
  · next hcount =>
    split
    · split
      · exact ((Calm.setEscape (Nat.le_refl 4)).trans (.tell n _)).keeps
      · exact (Calm.setEscape (by omega)).keeps
    · exact hclear.keeps.trans (.stateKey (hprompt'.trans hprompt) _)

theorem State.screen_keySteps : ((s.keySteps n).screen n).mode = (s.screen n).mode ∧
    ((s.keySteps n).screen n).prompt = (s.screen n).prompt := by
  rw [State.keySteps, State.screen_updScreen_eq]
  split
  · exact ⟨rfl, rfl⟩
  · exact ⟨rfl, rfl⟩

theorem Keeps.takeKey (key : Struck) : Keeps s (s.takeKey n key) := by
  obtain ⟨hmode, hprompt⟩ := State.screen_keySteps (s := s) (n := n)
  have hsteps : Keeps s (s.keySteps n) := (Calm.keySteps n).keeps
  unfold State.takeKey
  dsimp only
  split
  · exact .refl s
  · next hdown =>
    split
    · exact (Calm.wake n).keeps
    · split
      · exact hsteps.trans (.promptKey _)
      · next hclosed =>
        split
        · next hoff => exact hsteps.trans (Calm.signedOffKey (hmode.trans hoff) _).keeps
        · next hoff =>
          exact hsteps.trans (.sequenceKey (hprompt.trans (of_not_not hclosed)) (by rwa [hmode]) (by rwa [hmode]) key)

theorem Calm.setTurn (turn : Nat) : Calm s { s with keyTurn := turn } := .beside rfl

theorem Keeps.keyTaken (key : Struck) : Keeps s (s.keyTaken n key) := by
  unfold State.keyTaken
  split
  · split
    · exact (Calm.dequeue.trans (.setTurn n)).keeps.trans (.takeKey key)
    · exact .refl s
  · split
    · exact (Calm.setTurn n).keeps.trans (.takeKey key)
    · exact .refl s

end

end Sys2Proof.Machine
end

section
/-! SUPPORT. Every step keeps each table, list and count within its capacity, and stories, baskets, fits, screens, pages and link in
agreement (R22 to R24, R52, R64, R79, R82, R91, R137, R141, R164, R165, R187). -/

namespace Sys2Proof.Machine

section
variable {s t : State} {n : Nat}

/-! ## The host line (R201, R202, R206) -/

theorem Keeps.serve (r : Request) : Keeps s (s.serve r) := by
  unfold State.serve
  split
  · exact (Calm.reply ..).keeps
  · next handler h =>
    have hhandled : Keeps s (handler r.body s).1 := catalogue_keeps h r.body s
    exact hhandled.trans (Calm.reply ..).keeps

theorem Keeps.accept (r : Request) : Keeps s (s.accept r) := by
  unfold State.accept
  split
  · exact .serve r
  · split
    · exact (Calm.updHost _).keeps
    · exact (Calm.raise _).keeps

theorem Keeps.assemble (bytes : List Byte) : Keeps s (s.assemble bytes) := by
  unfold State.assemble
  dsimp only
  split
  · exact (Calm.updHost _).keeps
  · split
    · exact Calm.frameLost.keeps
    · split
      · exact (Calm.updHost _).keeps
      · split
        · exact Calm.hunt.keeps.trans (.accept _)
        · exact Calm.frameLost.keeps

theorem Keeps.hostByte (b : Byte) : Keeps s (s.hostByte b) := by
  unfold State.hostByte
  split
  · split
    · exact (Calm.updHost _).keeps
    · exact .refl s
  · exact .assemble _

theorem Keeps.hostBytes (bytes : List Byte) : Keeps s (s.hostBytes bytes) := .foldl (fun _ b => .hostByte b) bytes

theorem Calm.breakFrame : Calm s s.breakFrame := by
  unfold State.breakFrame
  split
  · exact .refl s
  · exact .frameLost

theorem Keeps.replySent : Keeps s s.replySent := by
  unfold State.replySent
  split
  · exact .refl s
  · split
    · exact (Calm.updHost _).keeps
    · exact (Calm.updHost _).keeps.trans (.serve _)

theorem Keeps.requestIn (r : Request) : Keeps s (s.requestIn r) := by
  unfold State.requestIn
  split
  · exact Calm.frameLost.keeps
  · exact Calm.hunt.keeps.trans (.accept r)

/-! ## The timebase (R2) -/

theorem State.tick_eq : s.tick =
    ({ s.roomTick with fit := s.roomTick.fit.tick } : State).updLink (Link.tick (isSecond (s.clock.steps + 1))) := rfl

theorem Keeps.tick : Keeps s s.tick := by
  rw [State.tick_eq]
  exact (Calm.roomTick.keeps.trans .tickFit).trans (Rest.tickLink _).keeps

/-! ## Commands -/

/-- An outcome whose next state, if it has one, is reached with the limits invariants kept. -/
def NextKeeps (s : State) (o : Host.Outcome State Fault Refusal) : Prop := ∀ t, o = .next t → Keeps s t

/-- Every command ends with a layout. -/
theorem NextKeeps.settled (h : Keeps s t) : NextKeeps s (.next t.settle) := fun u hu => by
  cases hu
  exact h.trans Calm.settle.keeps

theorem NextKeeps.same : NextKeeps s (.next s.settle) := .settled (.refl s)

theorem NextKeeps.ite {c : Prop} [Decidable c] (h : c → Keeps s t) : NextKeeps s (.next (if c then t else s).settle) := by
  split
  · next hc => exact .settled (h hc)
  · exact .same

theorem NextKeeps.request (kind tag : Byte) (body : List Byte) : NextKeeps s (requestOutcome kind tag body s) := .settled (.requestIn _)

theorem NextKeeps.key (n : Fin 32) (k : Struck) : NextKeeps s (keyOutcome n k s) := .settled (.keyTaken k)

theorem NextKeeps.keyPrintable (n : Fin 32) (code : Byte) : NextKeeps s (execKeyPrintable n code s) := by
  unfold execKeyPrintable
  split
  · exact .key n _
  · exact .same

theorem NextKeeps.transmissionComplete (n : Fin 32) : NextKeeps s (execTransmissionComplete n s) := by
  unfold execTransmissionComplete
  split
  · exact .same
  · exact .settled (Calm.transmissionComplete _ _).keeps

theorem NextKeeps.terminalCharacterReceived (n : Fin 32) (f : TermFrame) : NextKeeps s (execTerminalCharacterReceived n f s) := by
  unfold execTerminalCharacterReceived
  split
  · exact .same
  · split
    · exact .same
    · exact .settled (.takeFrame f)

theorem NextKeeps.breakEnd (n : Fin 32) : NextKeeps s (execBreakEnd n s) := by
  unfold execBreakEnd
  split
  · exact .settled (Calm.breakOver.trans (.enqueue _)).keeps
  · exact .same

theorem NextKeeps.breakTimerExpiry (n : Fin 32) : NextKeeps s (execBreakTimerExpiry n s) :=
  .ite fun hbreak => .lineDies fun hs => (hs.shown.lines n).2.2.1 hbreak

theorem NextKeeps.losWindowEnd (active : Bool) : NextKeeps s (execLosWindowEnd active s) := by
  unfold execLosWindowEnd
  split
  · exact .same
  · next hc => exact .settled (.losWindow hc active)

theorem NextKeeps.acquireTimerExpiry : NextKeeps s (execAcquireTimerExpiry s) := by
  unfold execAcquireTimerExpiry
  split
  · exact .settled Rest.enquire.keeps
  · exact .same

theorem NextKeeps.blockSent : NextKeeps s (execBlockSent s) := by
  unfold execBlockSent
  split
  · exact .same
  · next h =>
    split
    · exact .same
    · exact .settled (.blockSent h)

theorem NextKeeps.proofBitReceived (bit : Bool) : NextKeeps s (execProofBitReceived bit s) := by
  unfold execProofBitReceived
  split
  · exact .same
  · exact .settled (Rest.proofBit _ bit).keeps

theorem NextKeeps.proofTimebaseReached (bit : Bool) : NextKeeps s (execProofTimebaseReached bit s) := by
  unfold execProofTimebaseReached
  split
  · exact .same
  · split
    · exact .settled (Rest.proofBit _ bit).keeps
    · exact .same

theorem NextKeeps.unloopSent : NextKeeps s (execUnloopSent s) := by
  unfold execUnloopSent
  split
  · next h =>
    refine .settled (.unloopSent ?_)
    exact (List.sublist_cons_self _ _).trans (h ▸ (List.dropWhile_suffix _).sublist)
  · exact .same

theorem Keeps.powerOn (pins : BitVec 3) : Keeps s { s with strapPins := pins }.fullReset :=
  .of_meets withinLimits_reset copyConsistent_reset listsWithinLimits_reset

/-- Every command keeps the limits invariants: the requests by the catalogue, the keys by what they take. -/
theorem NextKeeps.exec : ∀ c : Instr, NextKeeps s (exec c s)
  | .powerOn pins => .settled (.powerOn pins)
  | .hostFrameReceived bytes => .settled (.hostBytes bytes)
  | .frameAbandoned bytes | .frameGapTimeout bytes => .settled ((Keeps.hostBytes bytes).trans Calm.breakFrame.keeps)
  | .replySent => .settled .replySent
  | .attentionNotice => .ite fun _ => (Calm.updHost _).keeps
  | .resetScreens tag | .resetLink tag | .resetAll tag => .request _ tag _
  | .identify tag body | .timeSet tag body | .attentionRead tag body | .attentionEnable tag body | .profileDefine tag body
  | .lineConfigure tag body | .screenStatus tag body | .screenMessage tag body | .screenSignoff tag body | .deskDefine tag body
  | .deskRoute tag body | .deskList tag body | .faceDefine tag body | .fitQuiet tag body | .fitRequest tag body
  | .fitStatus tag body | .linkConfigure tag body | .linkStatus tag body | .proofStart tag body | .proofStop tag body
  | .proofResult tag body | .storyLoad tag body | .storyAppend tag body | .storyRead tag body | .storyStatus tag body
  | .storyStyle tag body | .storyHead tag body | .storyMove tag body | .storySpike tag body | .storyPurge tag body
  | .storyRevise tag body | .storyFind tag body | .pageDefine tag body | .pagePlace tag body | .pageUnplace tag body
  | .pageRelease tag body | .pageAbort tag body | .pageStatus tag body | .editionClose tag body | .editionRollover tag body
  | .editionStatus tag body => .request _ tag body
  | .timeOfDayAdvance => .settled .advance
  | .idleTimerExpiry _ => .settled Calm.idleExpires.keeps
  | .ringTimerExpiry _ => .settled (Calm.ringExpires _).keeps
  | .graceExpiry _ => .ite fun h => .graceExpires h
  | .refitDue => .settled .firstDue
  | .fitPassComplete => .settled .completePass
  | .terminalCharacterReceived n f => .terminalCharacterReceived n f
  | .breakEnd n => .breakEnd n
  | .breakTimerExpiry n => .breakTimerExpiry n
  | .keyPrintable n code => .keyPrintable n code
  | .keyUnmapped n | .keySupervisorCode n | .keyInsertEp n | .keyRubout n | .keyDelete n | .keyNote n | .keyLeft n
  | .keyRight n | .keyUp n | .keyDown n | .keyPrev n | .keyNext n | .keyTop n | .keyBottom n | .keyEnter n | .keyCancel n
  | .keyNew n | .keyOpen n | .keyView n | .keyClose n | .keyFile n | .keySend n | .keySpike n | .keyPriority n | .keyFit n
  | .keyViewmode n | .keyAck n | .keySignoff n | .keyRelease n | .keyAbort n => .key n _
  | .transmissionComplete n => .transmissionComplete n
  | .losWindowEnd active => .losWindowEnd active
  | .acquireTimerExpiry => .acquireTimerExpiry
  | .ready number check | .ack number check | .nak number check | .hold number check | .go number check =>
    .settled (.returnChannel _ number check)
  | .blockSent => .blockSent
  | .ackTimeout => .ite fun _ => .ackExpires
  | .lossTimerExpiry => .settled .lossExpires
  | .abortWaitExpiry => .settled .abortWaitExpires
  | .proofBitReceived bit => .proofBitReceived bit
  | .proofTimebaseReached bit => .proofTimebaseReached bit
  | .unloopSent => .unloopSent

end

/-! ## The obligation -/

/-- Settles O6: a state is taken apart into the room of stories, baskets, screens and lines, the fits, and the output, and each command
keeps the three parts of each (`Keeps`). -/
theorem everyStepStaysWithinLimits : Obligations.EveryStepStaysWithinLimits := by
  unfold Obligations.EveryStepStaysWithinLimits
  intro s t hstep
  unfold step at hstep
  split at hstep
  · cases hstep
    exact Keeps.tick.invariants
  · next c rest _ =>
    have hexec : Keeps (s.withPending rest) t := NextKeeps.exec c t hstep
    exact ((Calm.withPending rest).keeps.trans hexec).invariants

end Sys2Proof.Machine
end
